-- ==== Sys2Proof/Word.lean ====
section
/-! DEFINITION. The plain words of the model: bytes, sets of keys, and the model's unit of time. -/

namespace Sys2Proof

/-- A byte of a request record, a radio frame or a clip (R190). -/
abbrev Byte := BitVec 8

/-- A two-byte word: an output set, a CRC-16 register (R31, R190). -/
abbrev Word16 := BitVec 16

/-- A four-byte word: a WRITE value, a wrapping counter (R190). -/
abbrev Word32 := BitVec 32

/-- A set of function keys; bit n stands for Kn (R190). -/
abbrev KeySet := BitVec 32

/-- A set of the sixteen monitored outputs, in the order TRUCK_F, TRUCK_R, HEATER, FAN, L0 to L11 (R190). -/
abbrev OutputSet := BitVec 16

/-- A point in time or a duration, counted in counts of the 16 MHz clock that runs the PWM counter (section 4.2).
Every duration the manual names is a whole number of these counts. -/
abbrev Time := Nat

end Sys2Proof
end

