-- ==== Sys2Proof/Config.lean ====
section
/-! DEFINITION. What the part fixes once and for all (periods, thresholds, sizes), and the free values of the model. -/

namespace Sys2Proof.Config

/-- `n` microseconds in counts of the 16 MHz clock. -/
def us (n : Nat) : Time := 16 * n

/-- `n` milliseconds in counts of the 16 MHz clock. -/
def ms (n : Nat) : Time := 16000 * n

/-- `n` seconds in counts of the 16 MHz clock. -/
def sec (n : Nat) : Time := 16000000 * n

/-- FREE VALUE (log entry 7): the charge, in 2 mA units times counts, that a bridge carried in a drive that something other
than its compare match ended (a hold-off, a COAST or SHORT_BRAKE acting at once, R76 and R77). R80 gives the mean current as
the sum of the current over the driven counts, and no command carries the current of a drive cut short. It has no body, so no
proof can see its value; it is applied to the counter `State.freeIndex`. -/
opaque cutCharge : Nat → Nat

/-- FREE VALUE (log entry 4): the SEQ of the frame that carried a request of a throttle taken alone. R35 puts it into the throttle's
entry, and no request command carries it. It has no body, so no proof can see its value; it is applied to the counter `State.freeIndex`. -/
opaque frameSeq : Nat → Byte

/-- The notice queue holds at most this many notices (R187). -/
def noticeCapacity : Nat := 16

/-- The number of deferred slots of the Host Port (section 12.1). -/
def deferredSlots : Nat := 4

/-- The number of entries of the throttle table (section 2.1). -/
def throttleEntries : Nat := 8

/-- The number of reply frames the reply queue holds (R44). -/
def replyCapacity : Nat := 4

/-- The inter-byte time of the Radio Link (R29). -/
def interByte : Time := ms 2

/-- The time within which an equal SEQ is a duplicate (R34). -/
def duplicateWindow : Time := sec 1

/-- The time after which an entry of the throttle table ages (R36). -/
def entryAge : Time := sec 60

/-- The control period (section "Time" of the scope, R78). -/
def controlPeriod : Time := ms 5

/-- The period of the die timer (R84). -/
def diePeriod : Time := ms 100

/-- The period of the smoke tick (R122). -/
def smokePeriod : Time := ms 100

/-- The light frame (R136). -/
def lightPeriod : Time := ms 10

/-- One audio sample: 1/16,000 s (section "Time" of the scope, R108). -/
def samplePeriod : Time := 1000

/-- One conversion, of the gap converter or of the general converter (R79, R83). -/
def conversionTime : Time := us 10

/-- The dead interval of a leg, in counts of the PWM counter (R76). -/
def deadInterval : Time := 8

/-- The debounce of the wheel sensor (R93). -/
def sensorDebounce : Time := ms 8

/-- The qualification time of a loss of the track (R159). -/
def lossQualification : Time := ms 1

/-- The qualification time of a return of the track (R159). -/
def returnQualification : Time := ms 5

/-- The sag timer toward a raise (R165). -/
def sagRaiseTime : Time := ms 20

/-- The sag timer toward a lower (R165). -/
def sagLowerTime : Time := ms 200

/-- The wait before a retry (R170). -/
def retryTime : Time := sec 1

/-- The probation after a retry (R171). -/
def probationTime : Time := sec 1

/-- The open test (R173). -/
def openTime : Time := ms 500

/-- The capacitor voltage, in 10 mV units, at which the part may leave device reset: 4.4 V (R156). -/
def releaseVoltage : Nat := 440

end Sys2Proof.Config
end

