-- ==== Sys2Proof/Syntax.lean ====
section
/-! DEFINITION. The commands of the OC-4120: one constructor of `Instr` per row of spec/opcode_table.json, with the types their
operands have. Operands of request records are the bytes of R190 before any check of R7: a meaning checks them. -/

namespace Sys2Proof

/-- FORWARD or REVERSE. -/
inductive Direction where
  | forward
  | reverse
deriving DecidableEq, Repr

/-- The two powered trucks, and their bridges: F and R. -/
inductive Truck where
  | front
  | rear
deriving DecidableEq, Repr

/-- The two legs of a bridge (section 4.3). -/
inductive Leg where
  | a
  | b
deriving DecidableEq, Repr

/-- The four supervision comparators (section 4.8). -/
inductive Comparator where
  | trackPresent
  | trackSag
  | capReserve
  | capResume
deriving DecidableEq, Repr

/-- The sixteen monitored outputs (section 10.1). -/
inductive Output where
  | truck (t : Truck)
  | heater
  | fan
  | light (n : Fin 12)
deriving DecidableEq, Repr

/-- Where a request comes from: the host processor or a radio throttle (section "Sources, ranks and keys"). -/
inductive Source where
  | host
  | throttle (id : Byte)
deriving DecidableEq, Repr

/-- The parts every request record opens with (R190), and the port it came by. KIND is the constructor's own. -/
structure Head where
  /-- the port the record arrived at: the Host Port, or the Radio Link in a frame of this throttle -/
  source  : Source
  /-- the LENGTH byte: bytes in the record, KIND and LENGTH included -/
  length  : Byte
  /-- the CONTROL byte: bit 0 set when posted, the others ignored -/
  control : Byte
  /-- the TAG byte, ignored when posted -/
  tag     : Byte
deriving DecidableEq, Repr

/-- Whether a record is posted (R190: bit 0 of CONTROL). -/
def Head.posted (h : Head) : Bool := h.control.getLsbD 0

/-- The two causes of a framing error that TRANSACTION_FRAMING_ERROR stands for (R184, R185). -/
inductive FramingCause where
  /-- the first byte of the transaction, which names no transaction -/
  | unknownKind (first : Byte)
  /-- a record whose LENGTH is below 3, or below 4 when not posted -/
  | badLength
deriving DecidableEq, Repr

/-- A complete request record whose KIND byte is none of the seventeen kinds; R7 refuses it (see log entry 12). -/
structure UndefinedRecord where
  kind : Byte
  head : Head
deriving DecidableEq, Repr

/-- The commands: the operations and events of spec/opcode_table.json, in its order. -/
inductive Instr where
  /-- RESETN_LOW (R189) -/
  | resetnLow
  /-- LOGIC_SUPPLY_FAIL (R156) -/
  | logicSupplyFail
  /-- RESET_RELEASE (R156), with the track and capacitor voltages found, in 10 mV units (R72, R89) -/
  | resetRelease (trackV capV : Nat)
  /-- CLIP_HEADER_READ (R101), with the bytes the read transfer clocked in from offset 0; a byte that is not there reads 0xFF -/
  | clipHeaderRead (bytes : List Byte)
  /-- LOAD_END (R158) -/
  | loadEnd
  /-- READ (R8) -/
  | read (h : Head) (field selector : Byte)
  /-- WRITE (R9) -/
  | write (h : Head) (field : Byte) (value : Word32)
  /-- ADD (R10); the immediate is signed -/
  | add (h : Head) (field : Byte) (imm : Word16)
  /-- KEYS (R11) -/
  | keys (h : Head) (field : Byte) (mask states : KeySet)
  /-- FLIP (R12) -/
  | flip (h : Head) (field : Byte) (mask : KeySet)
  /-- SWAP (R13) -/
  | swap (h : Head) (field : Byte) (value : Word32)
  /-- CLAIM (R16) -/
  | claim (h : Head) (expected newHolder : Byte)
  /-- RELEASE (R18) -/
  | release (h : Head) (choice : Byte)
  /-- HALT_NOW (R24) -/
  | haltNow (h : Head)
  /-- MEASURE (R86) -/
  | measure (h : Head) (channel : Byte)
  /-- PLAY (R116) -/
  | play (h : Head) (voice clip : Byte) (gain : Word16) (timing : Byte)
  /-- REFILL (R131) -/
  | refill (h : Head) (amount : Word16)
  /-- SCENE_WRITE (R149) -/
  | sceneWrite (h : Head) (row stepIndex duration : Byte) (codes : Vector Byte 12)
  /-- CLEAR_FAULTS (R175) -/
  | clearFaults (h : Head) (outputs : OutputSet)
  /-- CONFIG_READ (R178) -/
  | configRead (h : Head) (item entry : Byte)
  /-- CONFIG_WRITE (R179); the value is the item's or entry's encoding -/
  | configWrite (h : Head) (item entry : Byte) (value : List Byte)
  /-- COMMIT (R181) -/
  | commit (h : Head)
  /-- COMMIT_END (R182), with whether the image read back checks good -/
  | commitEnd (good : Bool)
  /-- HOST_SELECT_FALL (R184) -/
  | hostSelectFall
  /-- HOST_SELECT_RISE (R184) -/
  | hostSelectRise
  /-- TRANSACTION_FRAMING_ERROR (R185) -/
  | transactionFramingError (cause : FramingCause)
  /-- NOTICE (R188) -/
  | notice
  /-- STATUS (R188) -/
  | status
  /-- RADIO_BYTE (R28) -/
  | radioByte (b : Byte)
  /-- INTER_BYTE_TIMER_EXPIRY (R29) -/
  | interByteTimerExpiry
  /-- RADIO_FRAME (R30, R37): the oldest frame the assembler has completed is checked and handled, or the frame in handling goes on -/
  | radioFrame
  /-- REPLY_SENT (R44) -/
  | replySent
  /-- THROTTLE_ENTRY_AGEING (R36), of the entry of this throttle -/
  | throttleEntryAgeing (id : Byte)
  /-- LEASE_EXPIRY (R20) -/
  | leaseExpiry
  /-- CONTROL_STEP (R48) -/
  | controlStep
  /-- PWM_PERIOD_START (R73) -/
  | pwmPeriodStart
  /-- PWM_COMPARE_MATCH (R74), with the charge the bridge carried in the drive that ends, in 2 mA units times counts (R80) -/
  | pwmCompareMatch (t : Truck) (charge : Nat)
  /-- DEAD_INTERVAL_END (R76) -/
  | deadIntervalEnd (t : Truck) (leg : Leg)
  /-- CONTROL_PERIOD_EXPIRY (R78) -/
  | controlPeriodExpiry
  /-- GAP_SETTLE_EXPIRY (R79), with the two motor voltages held, in mV and signed -/
  | gapSettleExpiry (voltsF voltsR : Int)
  /-- GAP_CONVERSION_END (R80) -/
  | gapConversionEnd
  /-- CONVERSION_END (R83), with the quantity measured in the channel's unit -/
  | conversionEnd (value : Int)
  /-- DIE_TIMER_EXPIRY (R84) -/
  | dieTimerExpiry
  /-- SUPERVISION_COMPARATOR_CHANGE (R89): the voltage this comparator watches now is v, in 10 mV units -/
  | supervisionComparatorChange (c : Comparator) (v : Nat)
  /-- SHORT_COMPARATOR_TRIP (R170), with the output's current, in 2 mA units (R90) -/
  | shortComparatorTrip (o : Output) (current : Nat)
  /-- RETRY_TIMER_EXPIRY (R171) -/
  | retryTimerExpiry (o : Output)
  /-- PROBATION_TIMER_EXPIRY (R171) -/
  | probationTimerExpiry (o : Output)
  /-- OPEN_TIMER_EXPIRY (R173) -/
  | openTimerExpiry (o : Output)
  /-- BEAT_SAMPLE (R92) -/
  | beatSample
  /-- SENSOR_EDGE (R93): a rising edge of the wheel-sensor input -/
  | sensorEdge
  /-- AUDIO_SAMPLE (R108) -/
  | audioSample
  /-- BURST_LANDS (R107), with the bytes the transfer clocked in; a byte that is not there reads 0xFF -/
  | burstLands (samples : List Byte)
  /-- SMOKE_TICK (R122) -/
  | smokeTick
  /-- REGULATION_STEP (R127) -/
  | regulationStep
  /-- PUFF_TIMER_EXPIRY (R133) -/
  | puffTimerExpiry
  /-- HEATER_PWM_PERIOD_START (R128) -/
  | heaterPwmPeriodStart
  /-- FAN_PWM_PERIOD_START (R134) -/
  | fanPwmPeriodStart
  /-- LIGHT_PWM_PERIOD_START (R137) -/
  | lightPwmPeriodStart (n : Fin 12)
  /-- LIGHT_FRAME (R138) -/
  | lightFrame
  /-- TRACK_QUALIFICATION_EXPIRY (R159) -/
  | trackQualificationExpiry
  /-- BRIDGE_LIMIT_EXPIRY (R160) -/
  | bridgeLimitExpiry
  /-- SETTLE_TIMER_EXPIRY (R161) -/
  | settleTimerExpiry
  /-- SAG_TIMER_EXPIRY (R165) -/
  | sagTimerExpiry
  /-- REQUEST_KIND_BYTE (R184); with a record, a complete record of an undefined kind follows (log entry 12) -/
  | requestKindByte (undefinedRecord : Option UndefinedRecord)
  /-- HEATER_PWM_COMPARE (R128) -/
  | heaterPwmCompare
  /-- FAN_PWM_COMPARE (R134) -/
  | fanPwmCompare
  /-- LIGHT_PWM_COMPARE (R137) -/
  | lightPwmCompare (n : Fin 12)
deriving DecidableEq, Repr

end Sys2Proof
end

