-- ==== Sys2Proof/Decode.lean ====
section
/-! DEFINITION. Words and commands: the opcode table gives no bits to any of its rows, so no word spells a command. The byte layouts of
the request records and frames, which the part does receive, are in Machine/Formats.lean. -/

namespace Sys2Proof

/-- The command a word of the opcode table spells: none, for every word (no row of the table has bits). -/
def decodeTableWord (_nbits _w : Nat) : Option Instr := none

end Sys2Proof
end

