-- ==== Sys2Proof/Machine/Settings.lean ====
section
/-! DEFINITION. The configured items of the part (the item table of 11.1), each typed by its range, with its default. A stepped
quantity is held in its step (11.1). -/

namespace Sys2Proof.Machine

/-- CONSIST_ORIENTATION (2.1). -/
inductive Orientation where
  | normal
  | reversed
deriving DecidableEq, Repr

/-- LOSS_ACTION (3.1, 1.5.4). -/
inductive LossAction where
  | ramp
  | brake
  | coast
deriving DecidableEq, Repr

/-- PWM_MODULUS (4.1). -/
inductive Modulus where
  | m256
  | m512
  | m1024
deriving DecidableEq, Repr

/-- BEAT_SOURCE (5.1). -/
inductive BeatSource where
  | front
  | rear
  | sensor
deriving DecidableEq, Repr

/-- A source's rank; DISPATCH is the greater (1.5.1). -/
inductive Rank where
  | operator
  | dispatch
deriving DecidableEq, Repr

/-- The mode of a key binding (6.1). -/
inductive BindingMode where
  | hold
  | oneshot
deriving DecidableEq, Repr

/-- The kind of a light pattern (8.2). -/
inductive PatternKind where
  | steady
  | flash
  | strobe
  | pulse
  | firebox
deriving DecidableEq, Repr

/-- The direction condition of a light map (8.5). -/
inductive LightDirection where
  | any
  | forward
  | reverse
deriving DecidableEq, Repr

/-- One entry of KEY_BINDINGS (6.1). UNUSED is a key of `none`. -/
structure KeyBinding where
  key   : Option (Fin 32)
  voice : Fin 6
  clip  : Fin 64
  gain  : Nat
  mode  : BindingMode
deriving DecidableEq, Repr

/-- One entry of EVENT_BINDINGS (6.1). UNUSED is a clip of `none`. -/
structure EventBinding where
  clip  : Option (Fin 64)
  voice : Fin 6
  gain  : Nat
deriving DecidableEq, Repr

/-- One entry of PATTERNS (8.2). -/
structure Pattern where
  kind   : PatternKind
  level  : Nat
  period : Nat
  invert : Bool
deriving DecidableEq, Repr

/-- One entry of LIGHT_MAPS (8.5). ALWAYS is an enable key of `none`, NONE a dim key of `none`; pattern 0 is dark. -/
structure LightMap where
  enableKey : Option (Fin 32)
  direction : LightDirection
  pattern   : Fin 16
  dimKey    : Option (Fin 32)
  speedLow  : Nat
  speedHigh : Nat
deriving DecidableEq, Repr

/-- Every configured item, in the order of the item table of 11.1. -/
structure Configuration where
  locoAddress : Nat
  consistNumber : Nat
  consistOrientation : Orientation
  consistLead : Bool
  consistKeyMask : KeySet
  dispatchers : Vector (Option Byte) 2
  speedCurve : Vector Nat 17
  accel : Nat
  decel : Nat
  kff : Nat
  kp : Nat
  ki : Nat
  currentLimit : Nat
  slipThreshold : Nat
  bridgeDutyCap : Nat
  lossAction : LossAction
  pwmModulus : Modulus
  /-- in 50 µs steps -/
  gapSettle : Nat
  /-- the position in the list 6, 8, 10, 12 V -/
  trackPresentLevel : Fin 4
  /-- the position in the list 12, 14, 16, 18 V -/
  trackSagLevel : Fin 4
  /-- the position in the list 5.0, 5.5, 6.0, 6.5 V -/
  capReserveLevel : Fin 4
  /-- the position in the list 8, 9, 10, 11 V -/
  capResumeLevel : Fin 4
  beatSource : BeatSource
  /-- the position in the list 2, 4, 6, 8 -/
  beatsPerRev : Fin 4
  wheelScale : Nat
  flashSize : Nat
  /-- LIGHT, MEDIUM, HEAVY, DRIFT -/
  chuffClips : Vector (Option (Fin 64)) 4
  chuffGain : Nat
  heavyThreshold : Nat
  lightThreshold : Nat
  keyBindings : Vector KeyBinding 16
  /-- START, STOP, REVERSE, SLIP, SQUEAL -/
  eventBindings : Vector EventBinding 5
  squealSpeed : Nat
  /-- T[1], T[2], T[3] -/
  smokeTemps : Vector Nat 3
  heaterGain : Nat
  fluidCapacity : Nat
  fluidRate : Nat
  /-- in 10 ms steps -/
  puffLength : Nat
  fanPuffLevel : Nat
  fanBetweenLevel : Nat
  fanIdleLevel : Nat
  /-- IDs 1 to 15, in that order -/
  patterns : Vector Pattern 15
  lightMaps : Vector LightMap 12
  /-- NONE is `none` -/
  sceneKey : Option (Fin 32)
  failsafePattern : Fin 16
  /-- the output-set encoding, bits 0 to 3 clear -/
  failsafeMask : OutputSet
  /-- in 100 ms steps -/
  bridgeLimit : Nat
  /-- in 10 ms steps -/
  settleDelay : Nat
  thermalWarning : Nat
  hostRank : Rank
  /-- in tenths of a second -/
  leaseTime : Nat
  startKeys : KeySet
  startVolume : Nat
deriving DecidableEq, Repr

/-- The default of one unused key binding; the fields besides UNUSED are log entry 9's. -/
def KeyBinding.unused : KeyBinding := ⟨none, 1, 0, 0, .hold⟩

/-- The default of one unused event binding; the fields besides UNUSED are log entry 9's. -/
def EventBinding.unused : EventBinding := ⟨none, 1, 0⟩

/-- The default pattern table (8.2). -/
def Pattern.defaults : Vector Pattern 15 :=
  #v[⟨.steady, 255, 50, false⟩, ⟨.steady, 96, 50, false⟩, ⟨.flash, 255, 50, false⟩, ⟨.flash, 255, 50, true⟩,
     ⟨.strobe, 255, 40, false⟩, ⟨.pulse, 255, 100, false⟩, ⟨.firebox, 200, 50, false⟩, ⟨.steady, 255, 50, false⟩,
     ⟨.steady, 255, 50, false⟩, ⟨.steady, 255, 50, false⟩, ⟨.steady, 255, 50, false⟩, ⟨.steady, 255, 50, false⟩,
     ⟨.steady, 255, 50, false⟩, ⟨.steady, 255, 50, false⟩, ⟨.steady, 255, 50, false⟩]

/-- The default light maps (8.5). -/
def LightMap.defaults : Vector LightMap 12 :=
  #v[⟨some 0, .forward, 1, some 4, 0, 4095⟩, ⟨some 0, .reverse, 1, some 4, 0, 4095⟩, ⟨none, .any, 7, none, 0, 4095⟩,
     ⟨some 5, .any, 2, none, 0, 4095⟩, ⟨none, .any, 0, none, 0, 4095⟩, ⟨none, .any, 0, none, 0, 4095⟩,
     ⟨none, .any, 0, none, 0, 4095⟩, ⟨none, .any, 0, none, 0, 4095⟩, ⟨none, .any, 0, none, 0, 4095⟩,
     ⟨none, .any, 0, none, 0, 4095⟩, ⟨none, .any, 0, none, 0, 4095⟩, ⟨none, .any, 0, none, 0, 4095⟩]

/-- Every item at its default (2.1, 3.1, 4.1, 5.1, 6.1, 7.1, 8.1, 9.1, 11.1). -/
def Configuration.defaults : Configuration where
  locoAddress := 3
  consistNumber := 0
  consistOrientation := .normal
  consistLead := false
  consistKeyMask := 0xFFFFFFFF
  dispatchers := #v[none, none]
  speedCurve := #v[0, 256, 512, 768, 1024, 1280, 1536, 1792, 2048, 2304, 2560, 2816, 3072, 3328, 3584, 3840, 4095]
  accel := 32
  decel := 32
  kff := 1023
  kp := 24
  ki := 4
  currentLimit := 3000
  slipThreshold := 200
  bridgeDutyCap := 700
  lossAction := .ramp
  pwmModulus := .m512
  gapSettle := 6
  trackPresentLevel := 1
  trackSagLevel := 1
  capReserveLevel := 1
  capResumeLevel := 1
  beatSource := .front
  beatsPerRev := 1
  wheelScale := 40
  flashSize := 256
  chuffClips := #v[some 0, some 1, some 2, some 3]
  chuffGain := 200
  heavyThreshold := 64
  lightThreshold := 32
  keyBindings := Vector.ofFn fun _ => KeyBinding.unused
  eventBindings := Vector.ofFn fun _ => EventBinding.unused
  squealSpeed := 400
  smokeTemps := #v[180, 210, 240]
  heaterGain := 4
  fluidCapacity := 30000
  fluidRate := 4
  puffLength := 6
  fanPuffLevel := 255
  fanBetweenLevel := 40
  fanIdleLevel := 20
  patterns := Pattern.defaults
  lightMaps := LightMap.defaults
  sceneKey := none
  failsafePattern := 3
  failsafeMask := 0x0030
  bridgeLimit := 5
  settleDelay := 10
  thermalWarning := 110
  hostRank := .operator
  leaseTime := 30
  startKeys := 0
  startVolume := 128

/-- The counts of one PWM period (4.2). -/
def Modulus.counts : Modulus → Nat
  | .m256 => 256
  | .m512 => 512
  | .m1024 => 1024

/-- BEATS_PER_REV: b (5.1). -/
def beatsOf (i : Fin 4) : Nat := 2 * (i.val + 1)

/-- A comparator's configured level in 10 mV units (4.8). -/
def Configuration.level (c : Configuration) : Comparator → Nat
  | .trackPresent => 600 + 200 * c.trackPresentLevel.val
  | .trackSag => 1200 + 200 * c.trackSagLevel.val
  | .capReserve => 500 + 50 * c.capReserveLevel.val
  | .capResume => 800 + 100 * c.capResumeLevel.val

/-- A comparator's hysteresis in 10 mV units (4.8): 0.2 V for the track, 0.1 V for the capacitor. -/
def hysteresis : Comparator → Nat
  | .trackPresent => 20
  | .trackSag => 20
  | .capReserve => 10
  | .capResume => 10

/-- The pattern an ID names; ID 0 names none (8.5). -/
def Configuration.pattern (c : Configuration) (id : Fin 16) : Option Pattern :=
  if h : id.val = 0 then none else some (c.patterns[id.val - 1]'(by omega))

end Sys2Proof.Machine
end

