-- ==== Sys2Proof/Machine/State.lean ====
section
/-! DEFINITION. The state of the part, block by block, as plain data. The default of a field is its value after device reset; the
comment of a block names the section whose table lists it. A running timer holds the time at which it expires (log entry 1). -/

namespace Sys2Proof.Machine

/-- A timer: STOPPED, or RUNNING and due at a time; its remaining time is that time less the present time. -/
inductive Timer where
  | stopped
  | running (due : Time)
deriving DecidableEq, Repr

/-- DRIVE_HOLDER: NONE, a throttle ID, or HOST_PROCESSOR (1.1). -/
inductive Holder where
  | none
  | throttle (id : Byte)
  | hostProcessor
deriving DecidableEq, Repr

/-- The motion states (3.5). -/
inductive MotionState where
  | idle
  | driving
  | reversing
  | emergency
  | suspended
deriving DecidableEq, Repr

/-- SLIP_STATE (3.9). -/
inductive SlipState where
  | grip
  | slip (t : Truck)
deriving DecidableEq, Repr

/-- POWER_STATE (9.4). -/
inductive PowerState where
  | load
  | run
  | bridge
  | halt
  | settle
deriving DecidableEq, Repr

/-- SMOKE_STATE (7.2). -/
inductive SmokeState where
  | off
  | warming
  | regulating
  | held
  | dry
  | fault
deriving DecidableEq, Repr

/-- The fault state of an output (10.1). -/
inductive FaultState where
  | ok
  | shortWait
  | latched
deriving DecidableEq, Repr

/-- A fault record (10.1). -/
structure FaultRecord where
  opened  : Bool := false
  shorted : Bool := false
  state   : FaultState := .ok
  retries : Nat := 0
deriving DecidableEq, Repr

/-- The response codes (section "Outcomes of a request", R190). -/
inductive Code where
  | done
  | accepted
  | notHolder
  | readOnly
  | badField
  | badKind
  | badValue
  | denied
  | busy
  | power
  | failed
deriving DecidableEq, Repr

/-- The flags of a response (R190). -/
structure Flags where
  clamped   : Bool := false
  saturated : Bool := false
  changed   : Bool := false
  claimOk   : Bool := false
deriving DecidableEq, Repr

/-- The outcome of one request: code, flags and the value in its own encoding (R14, R190). -/
structure Answer where
  code  : Code
  flags : Flags := {}
  value : List Byte := []
deriving DecidableEq, Repr

/-- The seventeen request kinds (1.4). -/
inductive Kind where
  | read
  | write
  | add
  | keys
  | flip
  | swap
  | claim
  | release
  | haltNow
  | measure
  | play
  | refill
  | sceneWrite
  | clearFaults
  | configRead
  | configWrite
  | commit
deriving DecidableEq, Repr

/-- The analog channels of the measurement schedule (4.6). -/
inductive Channel where
  | backEmf (t : Truck)
  | current (t : Truck)
  | trackV
  | capV
  | heaterT
  | heaterI
  | fanI
  | lightI (n : Fin 12)
  | dieT
deriving DecidableEq, Repr

/-- The kind of a FAULT notice (R190). -/
inductive FaultKind where
  | short
  | latched
  | opened
deriving DecidableEq, Repr

/-- The rows of a scene (8.7). -/
inductive SceneRow where
  | a
  | b
deriving DecidableEq, Repr

/-- The notices of the host notice queue (R190). -/
inductive Notice where
  | completion (tag : Byte) (code : Code) (value : Word16)
  | error (kind : Byte) (code : Code)
  | started (defaulted sound : Bool)
  | claimChanged (holder : Holder)
  | leaseExpired (lost : Holder) (action : LossAction)
  | motionState (m : MotionState)
  | powerState (p : PowerState)
  | shedStage (stage : Nat)
  | fault (o : Output) (kind : FaultKind)
  | rowDone (row : SceneRow)
  | sceneWaiting (row : SceneRow)
  | smokeState (st : SmokeState)
  | slip (ended : Bool) (t : Truck)
  | radioCommitDone (id : Byte) (code : Code)
deriving DecidableEq, Repr

/-- The radio counters (R32). -/
structure RadioCounts where
  frameGap     : Nat := 0
  frameLength  : Nat := 0
  crc          : Nat := 0
  badThrottle  : Nat := 0
  notMine      : Nat := 0
  duplicate    : Nat := 0
  replyOverrun : Nat := 0
  notReady     : Nat := 0
deriving DecidableEq, Repr

/-- RCU's views of the read-only fields: the latest each owner has published (1.3). -/
structure Views where
  runSpeed       : Nat := 0
  runDirection   : Direction := .forward
  motionState    : MotionState := .suspended
  speedF         : Nat := 0
  speedR         : Nat := 0
  dutyF          : Nat := 0
  dutyR          : Nat := 0
  slipState      : SlipState := .grip
  odometer       : Word32 := 0
  beatCount      : Word32 := 0
  powerState     : PowerState := .load
  shedStage      : Nat := 4
  /-- no value before the first die conversion; 0 is log entry 9's -/
  temperature    : Int := 0
  faultSummary   : OutputSet := 0
  faults         : Vector FaultRecord 16 := Vector.replicate 16 {}
  smokeState     : SmokeState := .off
  fluid          : Nat := Configuration.defaults.fluidCapacity
  soundClips     : Nat := 0
  soundUnderruns : Nat := 0
  radioCounts    : RadioCounts := {}
deriving DecidableEq, Repr

/-- The Record Unit (1.1, 1.2). KEYS and VOLUME are initialised from the working configuration during LOAD (R2). -/
structure Rcu where
  targetNotch : Nat := 0
  direction   : Direction := .forward
  brake       : Nat := 0
  keys        : KeySet := Configuration.defaults.startKeys
  smokeLevel  : Nat := 0
  volume      : Nat := Configuration.defaults.startVolume
  restarted   : Bool := true
  holder      : Holder := .none
  lease       : Timer := .stopped
  failsafe    : Bool := false
  views       : Views := {}
deriving DecidableEq, Repr

/-- The state of the receive assembler (2.1). -/
inductive Assembly where
  | idle
  | collecting
  | discarding
deriving DecidableEq, Repr

/-- A frame the assembler has completed and the checks of R30 have not yet taken, with what it found at its completion (R30,
R33, R34). -/
structure CompletedFrame where
  /-- the bytes after LEN -/
  bytes         : List Byte
  /-- the completion time -/
  completedAt   : Time
  /-- whether POWER_STATE was LOAD at the completion -/
  duringLoad    : Bool
  /-- the locomotive address at the completion -/
  address       : Nat
  /-- the consist number at the completion -/
  consistNumber : Nat
deriving DecidableEq, Repr

/-- An IN_USE entry of the throttle table (2.5); a FREE entry is no entry of the list. -/
structure ThrottleEntry where
  id        : Byte
  lastSeq   : Byte
  lastHeard : Time
deriving DecidableEq, Repr

/-- A response record (R190). -/
structure Response where
  tag    : Byte
  answer : Answer
deriving DecidableEq, Repr

/-- An entry of a reply frame (R43, R190). -/
inductive ReplyEntry where
  | response (r : Response)
  | error (kind : Byte) (code : Code)
deriving DecidableEq, Repr

/-- A reply frame, by its parts (R43). LEN and CRC follow from them. -/
structure Reply where
  dest         : Byte
  src          : Nat
  seq          : Byte
  runSpeed     : Nat
  motionState  : MotionState
  runDirection : Direction
  holder       : Holder
  faultPresent : Bool
  restarted    : Bool
  powerState   : PowerState
  entries      : List ReplyEntry
deriving DecidableEq, Repr

/-- A request record as it lies in a frame. -/
structure RawRecord where
  kind     : Byte
  posted   : Bool
  tag      : Byte
  operands : List Byte
deriving DecidableEq, Repr

/-- How a frame is addressed (R33). -/
inductive Addressing where
  | locomotive
  | consist
  | broadcast
deriving DecidableEq, Repr

/-- The accepted frame that RIF handles, between two of its requests (R37). -/
structure FrameRun where
  /-- THR, the throttle it came from -/
  thr      : Byte
  seq      : Byte
  addr     : Addressing
  /-- for a consist-addressed frame, the configuration of its check (2.1, log entry 32) -/
  consist  : Option Configuration
  /-- the requests not yet handed on, in frame order -/
  waiting  : List RawRecord
  /-- the requests applied or refused, each with the entry it leaves for the reply, in frame order -/
  answered : List (RawRecord × Option ReplyEntry)
deriving DecidableEq, Repr

/-- The Radio Interface (2.1). -/
structure Rif where
  assembly    : Assembly := .idle
  /-- LEN of the frame being collected -/
  frameLen    : Nat := 0
  /-- the bytes after LEN collected so far -/
  collected   : List Byte := []
  interByte   : Timer := .stopped
  /-- frames completed and not yet checked, oldest first -/
  completed   : List CompletedFrame := []
  /-- the accepted frame in handling, or none (R37) -/
  handling    : Option FrameRun := Option.none
  throttles   : List ThrottleEntry := []
  /-- the reply queue, oldest first; the frame being sent is in it until it leaves (R44) -/
  replies     : List Reply := []
  /-- the transmitter: the reply frame being sent, or none -/
  sending     : Option Reply := Option.none
  counts      : RadioCounts := {}
  holderView  : Holder := .none
  summaryView : OutputSet := 0
  /-- MODEL'S OWN (log entry 4): the entry that the last radio request commanded outside a frame produced, if any -/
  lastEntry   : Option ReplyEntry := Option.none
deriving DecidableEq, Repr

/-- A gap sample (R80). -/
structure GapSample where
  emfF     : Nat
  emfR     : Nat
  currentF : Nat
  currentR : Nat
deriving DecidableEq, Repr

/-- What MOC holds for one truck (3.1). -/
structure TruckControl where
  faultView : FaultState := .ok
  /-- J -/
  integral  : Int := 0
  /-- L -/
  ceiling   : Nat := 1023
  /-- E of the latest sample -/
  emf       : Nat := 0
  /-- I of the latest sample -/
  current   : Nat := 0
  /-- u -/
  output    : Nat := 0
  /-- D -/
  duty      : Nat := 0
deriving DecidableEq, Repr

/-- The Motion Controller (3.1). -/
structure Moc where
  notch           : Nat := 0
  directionView   : Direction := .forward
  brakeView       : Nat := 0
  shedView        : Nat := 4
  powerView       : PowerState := .load
  /-- P -/
  ramp            : Nat := 0
  runDirection    : Direction := .forward
  motionState     : MotionState := .suspended
  reversalPending : Bool := false
  emergencyLatch  : Bool := false
  lossBrake       : Bool := false
  coastHold       : Bool := false
  front           : TruckControl := {}
  rear            : TruckControl := {}
  slipState       : SlipState := .grip
  slipCount       : Nat := 0
  /-- C_slip -/
  slipCap         : Nat := 1023
  /-- FF -/
  feedforward     : Nat := 0
  /-- whether P fell in the last control step (R70) -/
  fell            : Bool := false
  /-- gap samples published and not yet taken, oldest first (R48) -/
  samples         : List GapSample := []
  /-- the SPEED_CURVE that the last control step took: a change is used from the next one on (R50) -/
  curve           : Vector Nat 17 := Configuration.defaults.speedCurve
  /-- the BEAT_SOURCE that the last control step took: a change applies from the next one on (R63) -/
  beatSource      : BeatSource := Configuration.defaults.beatSource
deriving DecidableEq, Repr

/-- The mode MOC hands a bridge (4.1). -/
inductive BridgeMode where
  | drive
  | coast
  | shortBrake
deriving DecidableEq, Repr

/-- What a bridge does in the present PWM period (4.1). -/
inductive BridgeOutput where
  | driving
  | off
  | braking
deriving DecidableEq, Repr

/-- The two switches of a leg. -/
inductive Side where
  | high
  | low
deriving DecidableEq, Repr

/-- The switches of one leg: both off, one on, or both off for a dead interval after which `next` turns on (R76). Both on is no
state of a leg. -/
inductive LegState where
  | off
  | on (side : Side)
  | dead (next : Side) (due : Time)
deriving DecidableEq, Repr

/-- What BMU holds for one bridge (4.1, R79, R80). -/
structure Bridge where
  dutyShadow  : Nat := 0
  modeShadow  : BridgeMode := .coast
  output      : BridgeOutput := .off
  heldOff     : Bool := false
  /-- the compare value of the present period -/
  compare     : Nat := 0
  legA        : LegState := .off
  legB        : LegState := .off
  /-- the time at which the drive of the present period began, while it lasts -/
  drivenSince : Option Time := Option.none
  /-- the charge accumulator, in 2 mA units times counts -/
  charge      : Nat := 0
  /-- the drive-time accumulator, in counts -/
  driveCounts : Nat := 0
  /-- the motor voltage held for conversion, in mV; its reset value is log entry 9 -/
  heldVolts   : Int := 0
  /-- whether the bridge was BRAKING when the present gap opened (R78) -/
  brakedAtGap : Bool := false
deriving DecidableEq, Repr

/-- The states of a gap (4.4). -/
inductive GapState where
  | closed
  | requested
  | settling
  | converting
  | resuming
deriving DecidableEq, Repr

/-- A WAITING spot-measure slot (4.7); a FREE slot is no slot of the list, and the order of the list is ORDER. -/
structure SpotSlot where
  channel     : Channel
  tag         : Byte
  /-- the conversion of the channel in progress when the MEASURE was taken does not complete it (R86) -/
  skipCurrent : Bool
deriving DecidableEq, Repr

/-- The Bridge and Measurement Unit (4.1). -/
structure Bmu where
  running        : Bool := false
  /-- the time at which the PWM counter was last 0; the counter is the time since (log entry 1) -/
  periodStart    : Time := 0
  modulus        : Modulus := .m512
  polarityShadow : Direction := .forward
  front          : Bridge := {}
  rear           : Bridge := {}
  gap            : GapState := .closed
  settleTimer    : Timer := .stopped
  /-- the end of the back-EMF conversion -/
  gapConversion  : Timer := .stopped
  controlTimer   : Timer := .stopped
  dieTimer       : Timer := .stopped
  /-- the conversion list, oldest first -/
  conversions    : List Channel := []
  /-- the channel the general converter is converting, and when that ends -/
  converting     : Option (Channel × Time) := Option.none
  lightIndex     : Fin 12 := 0
  slots          : List SpotSlot := []
  trackPresent   : Bool := false
  trackSag       : Bool := false
  capReserve     : Bool := false
  capResume      : Bool := false
  /-- the track voltage pin, as a command last brought it, in 10 mV units (log entry 8); its value in State.reset is log entry 9 -/
  trackPin       : Nat := 0
  /-- the capacitor voltage pin, as a command last brought it, in 10 mV units (log entry 8); its value in State.reset is log entry 9 -/
  capPin         : Nat := 0
deriving DecidableEq, Repr

/-- The Beat Generator (5.1). -/
structure Btg where
  watching    : Bool := false
  /-- B -/
  accumulator : Nat := 0
  /-- c -/
  beatIndex   : Nat := 0
  beatCount   : Word32 := 0
  odometer    : Word32 := 0
  pendingFlag : Bool := false
  lastEdge    : Option Time := Option.none
  heldF       : Bool := false
  heldR       : Bool := false
  /-- the position of the b in use in the list 2, 4, 6, 8 -/
  beatsInUse  : Fin 4 := Configuration.defaults.beatsPerRev
  /-- gap samples published and not yet taken, oldest first (R92) -/
  samples     : List GapSample := []
deriving DecidableEq, Repr

/-- A clip's descriptor (R99). -/
structure Descriptor where
  start     : Nat
  length    : Nat
  loopStart : Nat
  loopEnd   : Nat
deriving DecidableEq, Repr

/-- STATE of a voice (6.1). -/
inductive VoiceState where
  | silent
  | start
  | loop
  | tail
deriving DecidableEq, Repr

/-- FETCH_STATE of a voice (6.1). -/
inductive FetchState where
  | active
  | paused
  | done
deriving DecidableEq, Repr

/-- A voice record (6.1). -/
structure Voice where
  state    : VoiceState := .silent
  clip     : Fin 64 := 0
  gain     : Nat := 0
  owner    : Option (Fin 16) := Option.none
  fetchPos : Nat := 0
  fetch    : FetchState := .done
  /-- oldest first -/
  buffer   : List Byte := []
  awaiting : Bool := false
  queued   : Option (Fin 64 × Nat) := Option.none
  burst    : Option Nat := Option.none
deriving DecidableEq, Repr

/-- A read transfer of the Clip Memory Port (R100): the header read from offset 0 (R101), or a burst, with its voice, its flash address
and its number of samples (R106). -/
inductive Transfer where
  | header
  | burst (voice : Fin 6) (address length : Nat)
deriving DecidableEq, Repr

/-- The Sound Sequencer (6.1). -/
structure Ssq where
  /-- `none` is UNUSABLE -/
  clips         : Vector (Option Descriptor) 64 := Vector.replicate 64 Option.none
  soundFault    : Bool := false
  keysView      : KeySet := Configuration.defaults.startKeys
  volumeView    : Nat := Configuration.defaults.startVolume
  effortU       : Nat := 0
  effortFF      : Nat := 0
  runSpeed      : Nat := 0
  fell          : Bool := false
  brakeView     : Nat := 0
  shedView      : Nat := 4
  squealArmed   : Bool := true
  lastServed    : Fin 6 := 5
  outputCompare : Nat := 512
  soundClips    : Nat := 0
  underruns     : Nat := 0
  voices        : Vector Voice 6 := Vector.replicate 6 {}
  /-- the transfer in progress on the Clip Memory Port -/
  transfer      : Option Transfer := Option.none
  /-- the time base of the audio samples -/
  sampleTimer   : Timer := .stopped
deriving DecidableEq, Repr

/-- The 8-bit PWM of the heater, the fan or a light: the level it has taken and whether its switch is on (R128, R134, R137). -/
structure Pwm where
  taken : Nat := 0
  isOn  : Bool := false
deriving DecidableEq, Repr

/-- The Smoke Unit (7.1). -/
structure Smu where
  state       : SmokeState := .off
  /-- h -/
  heater      : Nat := 0
  fluid       : Nat := Configuration.defaults.fluidCapacity
  dryArmed    : Bool := true
  /-- the fan command -/
  fan         : Nat := 0
  puffTimer   : Timer := .stopped
  tickTimer   : Timer := .stopped
  tView       : Nat := 0
  levelView   : Nat := 0
  shedView    : Nat := 4
  motionView  : MotionState := .suspended
  faultView   : FaultState := .ok
  shortView   : Bool := false
  heaterPwm   : Pwm := {}
  fanPwm      : Pwm := {}
  /-- HEATER_T results handed over and not yet taken, oldest first (R127) -/
  results     : List Nat := []
deriving DecidableEq, Repr

/-- The pattern that supplied an output's value in the last frame, with its effective level (8.1). -/
structure LastPattern where
  id    : Fin 16
  level : Nat
deriving DecidableEq, Repr

/-- What LTC holds for one light output (8.1). -/
structure Light where
  level     : Nat := 0
  last      : Option LastPattern := Option.none
  phase     : Nat := 0
  flare     : Nat := 0
  faultView : FaultState := .ok
  pwm       : Pwm := {}
deriving DecidableEq, Repr

/-- A step of a scene row (8.7). -/
structure SceneStep where
  duration : Nat := 0
  codes    : Vector (Fin 16) 12 := Vector.replicate 12 0
deriving DecidableEq, Repr

/-- The scene player's state (8.7). -/
inductive Player where
  | stopped
  | playing
  | waiting
deriving DecidableEq, Repr

/-- The Light Controller (8.1). The row, the step and the remaining frames of the STOPPED player of reset are log entry 37's. -/
structure Ltc where
  frameTimer    : Timer := .stopped
  lights        : Vector Light 12 := Vector.replicate 12 {}
  flicker       : Word16 := 0xACE1
  flashCounter  : Nat := 0
  flashCycle    : Nat := 16
  rowA          : Vector SceneStep 16 := Vector.replicate 16 {}
  rowB          : Vector SceneStep 16 := Vector.replicate 16 {}
  player        : Player := .stopped
  row           : SceneRow := .a
  stepIndex     : Nat := 0
  remaining     : Nat := 0
  latch         : Option SceneStep := Option.none
  keysView      : KeySet := Configuration.defaults.startKeys
  failsafeView  : Bool := false
  runSpeed      : Nat := 0
  runDirection  : Direction := .forward
  shedView      : Nat := 4
deriving DecidableEq, Repr

/-- The settle phase (9.1). -/
inductive SettlePhase where
  | none
  | charging
  | delaying
deriving DecidableEq, Repr

/-- The Power Supervisor (9.1). -/
structure Pws where
  powerState       : PowerState := .load
  presentView      : Bool := false
  sagView          : Bool := false
  reserveView      : Bool := false
  resumeView       : Bool := false
  /-- the track status: PRESENT is true -/
  trackPresent     : Bool := false
  qualification    : Timer := .stopped
  /-- what the qualification timer runs toward, while it runs -/
  towardPresent    : Bool := false
  bridgeTimer      : Timer := .stopped
  settlePhase      : SettlePhase := .none
  settleTimer      : Timer := .stopped
  powerPart        : Nat := 4
  sagPart          : Nat := 0
  sagTimer         : Timer := .stopped
  /-- whether the sag timer runs toward a raise, while it runs -/
  sagRaise         : Bool := false
  thermalPart      : Nat := 0
  temperature      : Option Int := Option.none
  shedStage        : Nat := 4
  /-- the start-up reports received (R157); CFS's carries "store defaulted", SSQ's "sound available" -/
  storeReport      : Option Bool := Option.none
  recordReport     : Bool := false
  soundReport      : Option Bool := Option.none
  comparatorReport : Bool := false
  dieReport        : Bool := false
deriving DecidableEq, Repr

/-- What ODU holds for one output (10.1), with the command it was last handed (R172). -/
structure Watch where
  record    : FaultRecord := {}
  retry     : Timer := .stopped
  probation : Timer := .stopped
  openTimer : Timer := .stopped
  command   : Nat := 0
deriving DecidableEq, Repr

/-- The Output Diagnosis Unit (10.1): one watch per output, in output-set order. -/
structure Odu where
  watches : Vector Watch 16 := Vector.replicate 16 {}
  /-- the fault summary last handed to RCU -/
  summary : OutputSet := 0
deriving DecidableEq, Repr

/-- The nonvolatile image: every item, and a CRC-16 (11.1). -/
structure Image where
  items : Configuration := Configuration.defaults
  crc   : Word16 := 0
deriving DecidableEq, Repr

/-- Who started the commit in flight (11.1). -/
inductive CommitOrigin where
  | none
  | host (tag : Byte)
  | throttle (id : Byte)
deriving DecidableEq, Repr

/-- The Configuration Store (11.1). -/
structure Cfs where
  working       : Configuration := Configuration.defaults
  image         : Image := {}
  dirty         : Bool := false
  /-- the commit state: WRITING is true -/
  writing       : Bool := false
  origin        : CommitOrigin := .none
  writtenDuring : Bool := false
  /-- the snapshot the commit in flight writes -/
  snapshot      : Configuration := Configuration.defaults
  powerView     : PowerState := .load
deriving DecidableEq, Repr

/-- A HELD deferred slot (12.1); a FREE slot is no slot of the list. -/
structure DeferredSlot where
  kind : Kind
  tag  : Byte
deriving DecidableEq, Repr

/-- The transaction state (12.1). -/
inductive Transaction where
  | idle
  | kind
  | receiving
  | turnaround
  | sending
  | filling
deriving DecidableEq, Repr

/-- The Host Port (12.1). -/
structure Hpt where
  notices       : List Notice := []
  slots         : List DeferredSlot := []
  lost          : Nat := 0
  framingErrors : Nat := 0
  transaction   : Transaction := .idle
  /-- the select line is low -/
  selectLow     : Bool := false
  /-- the bytes the part has to shift out; `Hpt.shifted` says what follows them (R184) -/
  out           : List Byte := []
deriving DecidableEq, Repr

/-- The whole part, and the commands that wait for it. -/
structure State where
  /-- the commands waiting, first in, first out -/
  pending   : List Instr := []
  /-- MODEL'S OWN (log entry 1): the present time -/
  now       : Time := 0
  /-- the part is held in device reset (R156) -/
  inReset   : Bool := true
  /-- MODEL'S OWN (log entries 4 and 7): how many free values have been drawn -/
  freeIndex : Nat := 0
  /-- MODEL'S OWN (log entry 5): how many requests RIF hands on in each RADIO_FRAME to come before the commands that wait behind it take
  their turn (R37); supplied from outside, as the waiting commands are. Beyond its end a frame is handled without a break. -/
  frameBreaks : List Nat := []
  rcu       : Rcu := {}
  rif       : Rif := {}
  moc       : Moc := {}
  bmu       : Bmu := {}
  btg       : Btg := {}
  ssq       : Ssq := {}
  smu       : Smu := {}
  ltc       : Ltc := {}
  pws       : Pws := {}
  odu       : Odu := {}
  cfs       : Cfs := {}
  hpt       : Hpt := {}
deriving DecidableEq, Repr

/-- The part in device reset (R156): every block at its values after reset, no command waiting, and every open value at the
value log entry 9 names. -/
def State.reset : State := {}

/-- Why the part stops with a fault: never. The manual names no event that stops the part, so the type has no constructor, and
every command is answered with a next state or a refusal. -/
inductive Fault where
deriving DecidableEq, Repr

/-- Why the model has no meaning for a command. -/
inductive Refusal where
  /-- raised by `exec` alone, for a command that has no meaning yet; safe, since nothing is claimed of it -/
  | notModelled (mnemonic : String)
deriving DecidableEq, Repr

/-- The outcome of a command. -/
abbrev Out := Host.Outcome State Fault Refusal

end Sys2Proof.Machine
end

