-- ==== Sys2Proof/Machine/Formats.lean ====
section
/-! DEFINITION. The byte layouts of R190: numbers and enumerations, the CRC-16 of R31, request records, response records, radio
frames, notices and STATUS. -/

namespace Sys2Proof

/-- FORWARD 0, REVERSE 1. -/
def Direction.code : Direction → Nat
  | .forward => 0
  | .reverse => 1

/-- The other direction. -/
def Direction.flipped : Direction → Direction
  | .forward => .reverse
  | .reverse => .forward

/-- The truck of a SLIP notice: F 0, R 1 (R190). -/
def Truck.code : Truck → Nat
  | .front => 0
  | .rear => 1

end Sys2Proof

namespace Sys2Proof.Machine

/-! ## Numbers -/

/-- A one-byte number. -/
def be1 (n : Nat) : List Byte := [BitVec.ofNat 8 n]

/-- A two-byte number, high byte first. -/
def be2 (n : Nat) : List Byte := [BitVec.ofNat 8 (n / 256), BitVec.ofNat 8 n]

/-- A three-byte number, high byte first (the clip flash header). -/
def be3 (n : Nat) : List Byte := [BitVec.ofNat 8 (n / 65536), BitVec.ofNat 8 (n / 256), BitVec.ofNat 8 n]

/-- A four-byte number, high byte first. -/
def be4 (n : Nat) : List Byte :=
  [BitVec.ofNat 8 (n / 16777216), BitVec.ofNat 8 (n / 65536), BitVec.ofNat 8 (n / 256), BitVec.ofNat 8 n]

/-- A signed two-byte number in two's complement. -/
def beSigned2 (i : Int) : List Byte := be2 (BitVec.ofInt 16 i).toNat

/-- The unsigned number that bytes spell, high byte first. -/
def beNat (bs : List Byte) : Nat := bs.foldl (fun acc b => acc * 256 + b.toNat) 0

/-- A value that is yes or no: no 0, yes 1. -/
def beBool (b : Bool) : List Byte := be1 (if b then 1 else 0)

/-! ## The CRC-16 (R31) -/

/-- One bit of the CRC-16. -/
def crcBit (reg : Word16) (bit : Bool) : Word16 :=
  if bit != reg.getLsbD 15 then (reg <<< 1) ^^^ 0x1021#16 else reg <<< 1

/-- One byte of the CRC-16, most significant bit first. -/
def crcByte (reg : Word16) (b : Byte) : Word16 :=
  [7, 6, 5, 4, 3, 2, 1, 0].foldl (fun r i => crcBit r (b.getLsbD i)) reg

/-- The CRC-16 of a run of bytes. -/
def crc16 (bs : List Byte) : Word16 := bs.foldl crcByte 0xFFFF#16

/-! ## Enumerations: numbered from 0 in the order their values are listed -/

/-- IDLE, DRIVING, REVERSING, EMERGENCY, SUSPENDED (1.3). -/
def MotionState.code : MotionState → Nat
  | .idle => 0
  | .driving => 1
  | .reversing => 2
  | .emergency => 3
  | .suspended => 4

/-- GRIP, SLIP_F, SLIP_R (1.3). -/
def SlipState.code : SlipState → Nat
  | .grip => 0
  | .slip .front => 1
  | .slip .rear => 2

/-- LOAD, RUN, BRIDGE, HALT, SETTLE (1.3). -/
def PowerState.code : PowerState → Nat
  | .load => 0
  | .run => 1
  | .bridge => 2
  | .halt => 3
  | .settle => 4

/-- OFF, WARMING, REGULATING, HELD, DRY, FAULT (R190). -/
def SmokeState.code : SmokeState → Nat
  | .off => 0
  | .warming => 1
  | .regulating => 2
  | .held => 3
  | .dry => 4
  | .fault => 5

/-- OK, SHORT_WAIT, LATCHED (10.1). -/
def FaultState.code : FaultState → Nat
  | .ok => 0
  | .shortWait => 1
  | .latched => 2

/-- RAMP, BRAKE, COAST (3.1). -/
def LossAction.code : LossAction → Nat
  | .ramp => 0
  | .brake => 1
  | .coast => 2

/-- SHORT 0, LATCHED 1, OPEN 2 (R190). -/
def FaultKind.code : FaultKind → Nat
  | .short => 0
  | .latched => 1
  | .opened => 2

/-- A 0, B 1 (R190). -/
def SceneRow.code : SceneRow → Nat
  | .a => 0
  | .b => 1

/-- A holder: 0 for NONE, 1 to 254 for a throttle, 255 for HOST_PROCESSOR (R190). -/
def Holder.byte : Holder → Byte
  | .none => 0
  | .throttle id => id
  | .hostProcessor => 255

/-- The holder a byte names (R190). -/
def Holder.ofByte (b : Byte) : Holder :=
  if b = 0 then .none else if b = 255 then .hostProcessor else .throttle b

/-- The source as a holder. -/
def holderOf : Source → Holder
  | .host => .hostProcessor
  | .throttle id => .throttle id

/-- The codes of R190. -/
def Code.byte : Code → Byte
  | .done => 0
  | .accepted => 1
  | .notHolder => 2
  | .readOnly => 3
  | .badField => 4
  | .badKind => 5
  | .badValue => 6
  | .denied => 7
  | .busy => 8
  | .power => 9
  | .failed => 10

/-- Whether a code refuses: any code other than DONE or ACCEPTED. -/
def Code.refuses : Code → Bool
  | .done => false
  | .accepted => false
  | _ => true

/-- An output's place in an output set (R190). -/
def outputIndex : Output → Fin 16
  | .truck .front => 0
  | .truck .rear => 1
  | .heater => 2
  | .fan => 3
  | .light n => ⟨4 + n.val, by omega⟩

/-- Every monitored output, in output-set order. -/
def allOutputs : List Output :=
  [.truck .front, .truck .rear, .heater, .fan, .light 0, .light 1, .light 2, .light 3, .light 4, .light 5, .light 6, .light 7,
   .light 8, .light 9, .light 10, .light 11]

/-- Every light output. -/
def allLights : List (Fin 12) := [0, 1, 2, 3, 4, 5, 6, 7, 8, 9, 10, 11]

/-- The channels of MEASURE, numbered in the order of R86. -/
def channelTable : List Channel :=
  [.backEmf .front, .backEmf .rear, .current .front, .current .rear, .trackV, .capV, .heaterT, .heaterI, .fanI,
   .lightI 0, .lightI 1, .lightI 2, .lightI 3, .lightI 4, .lightI 5, .lightI 6, .lightI 7, .lightI 8, .lightI 9, .lightI 10,
   .lightI 11, .dieT]

/-! ## Request records -/

/-- The kind codes of R190. -/
def Kind.byte : Kind → Byte
  | .read => 0x10
  | .write => 0x11
  | .add => 0x12
  | .keys => 0x13
  | .flip => 0x14
  | .swap => 0x15
  | .claim => 0x16
  | .release => 0x17
  | .haltNow => 0x18
  | .measure => 0x20
  | .play => 0x21
  | .refill => 0x22
  | .sceneWrite => 0x23
  | .clearFaults => 0x24
  | .configRead => 0x30
  | .configWrite => 0x31
  | .commit => 0x32

/-- The seventeen kinds. -/
def allKinds : List Kind :=
  [.read, .write, .add, .keys, .flip, .swap, .claim, .release, .haltNow, .measure, .play, .refill, .sceneWrite, .clearFaults,
   .configRead, .configWrite, .commit]

/-- The kind a KIND byte names, if any. -/
def Kind.ofByte (b : Byte) : Option Kind := allKinds.find? fun k => k.byte == b

/-- The target and operands of a request. -/
inductive Body where
  | read (field selector : Byte)
  | write (field : Byte) (value : Word32)
  | add (field : Byte) (imm : Word16)
  | keys (field : Byte) (mask states : KeySet)
  | flip (field : Byte) (mask : KeySet)
  | swap (field : Byte) (value : Word32)
  | claim (expected newHolder : Byte)
  | release (choice : Byte)
  | haltNow
  | measure (channel : Byte)
  | play (voice clip : Byte) (gain : Word16) (timing : Byte)
  | refill (amount : Word16)
  | sceneWrite (row stepIndex duration : Byte) (codes : Vector Byte 12)
  | clearFaults (outputs : OutputSet)
  | configRead (item entry : Byte)
  | configWrite (item entry : Byte) (value : List Byte)
  | commit
deriving DecidableEq, Repr

/-- The kind of a request. -/
def Body.kind : Body → Kind
  | .read .. => .read
  | .write .. => .write
  | .add .. => .add
  | .keys .. => .keys
  | .flip .. => .flip
  | .swap .. => .swap
  | .claim .. => .claim
  | .release .. => .release
  | .haltNow => .haltNow
  | .measure .. => .measure
  | .play .. => .play
  | .refill .. => .refill
  | .sceneWrite .. => .sceneWrite
  | .clearFaults .. => .clearFaults
  | .configRead .. => .configRead
  | .configWrite .. => .configWrite
  | .commit => .commit

/-- The target and operand bytes of a request (R190); for CONFIG_WRITE, of the value it carries. -/
def Body.operandBytes : Body → Nat
  | .read .. => 2
  | .write .. => 5
  | .add .. => 3
  | .keys .. => 9
  | .flip .. => 5
  | .swap .. => 5
  | .claim .. => 2
  | .release .. => 1
  | .haltNow => 0
  | .measure .. => 1
  | .play .. => 5
  | .refill .. => 2
  | .sceneWrite .. => 15
  | .clearFaults .. => 2
  | .configRead .. => 2
  | .configWrite _ _ value => 2 + value.length
  | .commit => 0

/-- KIND, LENGTH and CONTROL, and TAG where the record is not posted. -/
def headBytes (posted : Bool) : Nat := if posted then 3 else 4

/-- A number of `w` bits that bytes spell. -/
def beWord (w : Nat) (bs : List Byte) : BitVec w := BitVec.ofNat w (beNat bs)

/-- The entry byte that means "no entry" (R190). -/
def noEntry : Byte := 0xFF

/-- The request a kind's operand bytes spell; none when they are not as many as the kind's layout requires. The length of a
CONFIG_WRITE is judged by CFS, after checks 1 to 3 of R179 (R39, R185); one that ends after its item names no entry (log entry 31). -/
def parseBody : Kind → List Byte → Option Body
  | .read, [f, sel] => some (.read f sel)
  | .write, [f, a, b, c, d] => some (.write f (beWord 32 [a, b, c, d]))
  | .add, [f, a, b] => some (.add f (beWord 16 [a, b]))
  | .keys, [f, a, b, c, d, a', b', c', d'] => some (.keys f (beWord 32 [a, b, c, d]) (beWord 32 [a', b', c', d']))
  | .flip, [f, a, b, c, d] => some (.flip f (beWord 32 [a, b, c, d]))
  | .swap, [f, a, b, c, d] => some (.swap f (beWord 32 [a, b, c, d]))
  | .claim, [e, n] => some (.claim e n)
  | .release, [c] => some (.release c)
  | .haltNow, [] => some .haltNow
  | .measure, [c] => some (.measure c)
  | .play, [v, c, a, b, t] => some (.play v c (beWord 16 [a, b]) t)
  | .refill, [a, b] => some (.refill (beWord 16 [a, b]))
  | .sceneWrite, [r, st, d, c0, c1, c2, c3, c4, c5, c6, c7, c8, c9, c10, c11] =>
      some (.sceneWrite r st d #v[c0, c1, c2, c3, c4, c5, c6, c7, c8, c9, c10, c11])
  | .clearFaults, [a, b] => some (.clearFaults (beWord 16 [a, b]))
  | .configRead, [i, e] => some (.configRead i e)
  | .configWrite, [i] => some (.configWrite i noEntry [])
  | .configWrite, i :: e :: value => some (.configWrite i e value)
  | .commit, [] => some .commit
  | _, _ => none

/-- The first record of a run of bytes, and the bytes after it; none where its LENGTH fails the structure check (R30). -/
def takeRecord : List Byte → Option (RawRecord × List Byte)
  | kind :: len :: control :: rest =>
      let posted := control.getLsbD 0
      let tail := rest.take (len.toNat - 3)
      if len.toNat < headBytes posted ∨ tail.length < len.toNat - 3 then none
      else if posted then some (⟨kind, true, 0, tail⟩, rest.drop (len.toNat - 3))
      else some (⟨kind, false, tail.headD 0, tail.tail⟩, rest.drop (len.toNat - 3))
  | _ => none

/-- Exactly `count` records that fill the bytes (R30, check 4). -/
def splitRecords : Nat → List Byte → Option (List RawRecord)
  | 0, [] => some []
  | 0, _ :: _ => none
  | n + 1, bs =>
    match takeRecord bs with
    | none => none
    | some (r, rest) =>
      match splitRecords n rest with
      | none => none
      | some rs => some (r :: rs)

/-! ## Response records and reply frames -/

/-- FLAGS: bit 0 CLAMPED, bit 1 SATURATED, bit 2 CHANGED, bit 3 CLAIM_OK. -/
def Flags.byte (f : Flags) : Byte :=
  BitVec.ofNat 8 ((if f.clamped then 1 else 0) + (if f.saturated then 2 else 0) + (if f.changed then 4 else 0)
    + (if f.claimOk then 8 else 0))

/-- A response record: TAG, CODE, FLAGS, VLEN, VALUE. -/
def Response.bytes (r : Response) : List Byte :=
  [r.tag, r.answer.code.byte, r.answer.flags.byte, BitVec.ofNat 8 r.answer.value.length] ++ r.answer.value

/-- An entry of a reply frame. -/
def ReplyEntry.bytes : ReplyEntry → List Byte
  | .response r => 0x01 :: r.bytes
  | .error kind code => [0x02, kind, code.byte]

/-- The status block of a reply frame, 7 bytes. -/
def Reply.statusBlock (r : Reply) : List Byte :=
  be2 r.runSpeed ++ be1 r.motionState.code ++ be1 r.runDirection.code ++ [r.holder.byte]
    ++ be1 ((if r.faultPresent then 1 else 0) + (if r.restarted then 2 else 0)) ++ be1 r.powerState.code

/-- DEST through the last entry byte. -/
def Reply.body (r : Reply) : List Byte :=
  [r.dest] ++ be2 r.src ++ [r.seq] ++ r.statusBlock ++ be1 r.entries.length ++ (r.entries.map ReplyEntry.bytes).flatten

/-- The reply frame as it is sent: LEN, the body, the CRC high byte first (R31, R43). -/
def Reply.bytes (r : Reply) : List Byte :=
  be1 (r.body.length + 2) ++ r.body ++ be2 (crc16 r.body).toNat

/-! ## Notices -/

/-- The kind byte and the used payload bytes of a notice. -/
def Notice.payload : Notice → List Byte
  | .completion tag code value => [0x01, tag, code.byte, 0x00] ++ be2 value.toNat
  | .error kind code => [0x02, kind, code.byte]
  | .started defaulted sound => [0x03] ++ beBool defaulted ++ beBool sound
  | .claimChanged h => [0x04, h.byte]
  | .leaseExpired h action => [0x05, h.byte] ++ be1 action.code
  | .motionState m => 0x06 :: be1 m.code
  | .powerState p => 0x07 :: be1 p.code
  | .shedStage n => 0x08 :: be1 n
  | .fault o k => 0x09 :: be1 (outputIndex o).val ++ be1 k.code
  | .rowDone r => 0x0A :: be1 r.code
  | .sceneWaiting r => 0x0B :: be1 r.code
  | .smokeState st => 0x0C :: be1 st.code
  | .slip ended t => 0x0D :: beBool ended ++ be1 t.code
  | .radioCommitDone id code => [0x0E, id, code.byte]

/-- The 8-byte layout of a notice, its unused bytes 0x00. -/
def Notice.bytes (n : Notice) : List Byte := n.payload ++ List.replicate (8 - n.payload.length) 0x00

/-- The empty marker (R188). -/
def emptyMarker : List Byte := List.replicate 8 0x00

/-! ## A fault record as a value (R5) -/

/-- The four parts of a fault record: OPEN flag, SHORT flag, state, retry count (1.3); a set flag is 1 (log entry 10). -/
def FaultRecord.bytes (r : FaultRecord) : List Byte :=
  beBool r.opened ++ beBool r.shorted ++ be1 r.state.code ++ be1 r.retries

end Sys2Proof.Machine
end

