-- ==== Sys2Proof/Machine/Flags.lean ====
section
/-! DEFINITION. The arithmetic of the manual (R47) and the flags of a response: clamping (CLAMPED) and saturating addition
(SATURATED). -/

namespace Sys2Proof.Machine

/-- The word div of the manual: a quotient rounded toward minus infinity (R47). -/
def floorDiv (a b : Int) : Int := a.fdiv b

/-- The word clamp of the manual (R47). -/
def clampInt (x low high : Int) : Int := if x < low then low else if high < x then high else x

/-- A value above the top of its range taken as the top (R9, R13). -/
def clampTop (n top : Nat) : Nat := min n top

/-- The flags of a value that may have been taken as the top of its range. -/
def clampFlags (n top : Nat) : Flags := { clamped := decide (top < n) }

/-- The immediate of an ADD, taken in −255 to 255 (R10). -/
def addImmediate (imm : Word16) : Int := clampInt imm.toInt (-255) 255

/-- The field after an ADD: the sum saturated at the field's range (R10). -/
def addResult (prior : Nat) (imm : Word16) (top : Nat) : Nat := (clampInt (prior + addImmediate imm) 0 top).toNat

/-- The flags of an ADD: CLAMPED for the immediate, SATURATED for the sum (R10). -/
def addFlags (prior : Nat) (imm : Word16) (top : Nat) : Flags :=
  { clamped := decide (addImmediate imm ≠ imm.toInt)
    saturated := decide ((prior : Int) + addImmediate imm < 0 ∨ (top : Int) < prior + addImmediate imm) }

/-- A counter that stops at a top. -/
def countUp (n top : Nat) : Nat := min (n + 1) top

end Sys2Proof.Machine
end

