-- ==== Sys2Proof/Machine/Items.lean ====
section
/-! DEFINITION. The configuration items as CONFIG_READ and CONFIG_WRITE see them: numbers, entries, layouts and checks (11.1, 11.2,
R179, R190). A value of an item or entry is, between its bytes and its typed field, the list of its fields as numbers. -/

namespace Sys2Proof.Machine

/-- The configuration items, in the order of the item table of 11.1, and STORE_STATUS. -/
inductive Item where
  | locoAddress
  | consistNumber
  | consistOrientation
  | consistLead
  | consistKeyMask
  | dispatchers
  | speedCurve
  | accel
  | decel
  | kff
  | kp
  | ki
  | currentLimit
  | slipThreshold
  | bridgeDutyCap
  | lossAction
  | pwmModulus
  | gapSettle
  | trackPresentLevel
  | trackSagLevel
  | capReserveLevel
  | capResumeLevel
  | beatSource
  | beatsPerRev
  | wheelScale
  | flashSize
  | chuffClips
  | chuffGain
  | heavyThreshold
  | lightThreshold
  | keyBindings
  | eventBindings
  | squealSpeed
  | smokeTemps
  | heaterGain
  | fluidCapacity
  | fluidRate
  | puffLength
  | fanPuffLevel
  | fanBetweenLevel
  | fanIdleLevel
  | patterns
  | lightMaps
  | sceneKey
  | failsafePattern
  | failsafeMask
  | bridgeLimit
  | settleDelay
  | thermalWarning
  | hostRank
  | leaseTime
  | startKeys
  | startVolume
  | storeStatus
deriving DecidableEq, Repr

/-- The items numbered from 0 (R190): 53 items and STORE_STATUS. -/
def itemTable : List Item :=
  [.locoAddress, .consistNumber, .consistOrientation, .consistLead, .consistKeyMask, .dispatchers, .speedCurve, .accel, .decel,
   .kff, .kp, .ki, .currentLimit, .slipThreshold, .bridgeDutyCap, .lossAction, .pwmModulus, .gapSettle]
  ++ [.trackPresentLevel, .trackSagLevel, .capReserveLevel, .capResumeLevel, .beatSource, .beatsPerRev, .wheelScale, .flashSize,
   .chuffClips, .chuffGain, .heavyThreshold, .lightThreshold, .keyBindings, .eventBindings, .squealSpeed, .smokeTemps]
  ++ [.heaterGain, .fluidCapacity, .fluidRate, .puffLength, .fanPuffLevel, .fanBetweenLevel, .fanIdleLevel, .patterns, .lightMaps,
   .sceneKey, .failsafePattern, .failsafeMask, .bridgeLimit, .settleDelay, .thermalWarning, .hostRank, .leaseTime, .startKeys,
   .startVolume, .storeStatus]

/-- The item an item byte names (R190: above 53, none). -/
def Item.ofByte (b : Byte) : Option Item := itemTable[b.toNat]?

/-- The first and last entry number of an item with entries (11.1). -/
def Item.entries : Item → Option (Nat × Nat)
  | .dispatchers => some (0, 1)
  | .speedCurve => some (0, 16)
  | .chuffClips => some (0, 3)
  | .keyBindings => some (0, 15)
  | .eventBindings => some (0, 4)
  | .smokeTemps => some (1, 3)
  | .patterns => some (1, 15)
  | .lightMaps => some (0, 11)
  | _ => none

/-- Whether an entry byte suits an item: one of its entries, or 0xFF for an item without entries (R178, R179, R190). -/
def Item.entryFits (i : Item) (entry : Byte) : Bool :=
  match i.entries with
  | some (lo, hi) => decide (lo ≤ entry.toNat ∧ entry.toNat ≤ hi)
  | none => entry == 0xFF

/-- How one field of an item is encoded and checked (R179, R190). -/
inductive FieldSpec where
  /-- a number of 1 or 2 bytes, taken at the nearer end of its range -/
  | num (bytes lo hi : Nat)
  /-- an enumeration of one byte, whose codes run from lo to hi -/
  | choice (lo hi : Nat)
  /-- a key set -/
  | keySet
  /-- an output set that names lights alone -/
  | lightSet
deriving DecidableEq, Repr

/-- The bytes a field takes. -/
def FieldSpec.size : FieldSpec → Nat
  | .num n _ _ => n
  | .choice _ _ => 1
  | .keySet => 4
  | .lightSet => 2

/-- A value that is yes or no. -/
def FieldSpec.yesNo : FieldSpec := .choice 0 1

/-- A key, or the word that completes its range (R190: 32). -/
def FieldSpec.key : FieldSpec := .choice 0 32

/-- A clip or UNUSED (R190: 64). -/
def FieldSpec.clipOrUnused : FieldSpec := .choice 0 64

/-- A general voice V1 to V5, as PLAY numbers it (log entry 10). -/
def FieldSpec.generalVoice : FieldSpec := .choice 1 5

/-- The fields of an item's value, in the order of its field table. -/
def Item.fields : Item → List FieldSpec
  | .locoAddress => [.num 2 1 9999]
  | .consistNumber => [.num 1 0 127]
  | .consistOrientation => [.choice 0 1]
  | .consistLead => [.yesNo]
  | .consistKeyMask => [.keySet]
  | .dispatchers => [.choice 0 254]
  | .speedCurve => [.num 2 0 4095]
  | .accel => [.num 1 0 255]
  | .decel => [.num 1 0 255]
  | .kff => [.num 2 0 1023]
  | .kp => [.num 1 0 255]
  | .ki => [.num 1 0 255]
  | .currentLimit => [.num 2 250 4000]
  | .slipThreshold => [.num 2 0 1023]
  | .bridgeDutyCap => [.num 2 0 1023]
  | .lossAction => [.choice 0 2]
  | .pwmModulus => [.choice 0 2]
  | .gapSettle => [.num 1 2 16]
  | .trackPresentLevel => [.choice 0 3]
  | .trackSagLevel => [.choice 0 3]
  | .capReserveLevel => [.choice 0 3]
  | .capResumeLevel => [.choice 0 3]
  | .beatSource => [.choice 0 2]
  | .beatsPerRev => [.choice 0 3]
  | .wheelScale => [.num 1 1 255]
  | .flashSize => [.num 2 1 256]
  | .chuffClips => [.clipOrUnused]
  | .chuffGain => [.num 1 0 255]
  | .heavyThreshold => [.num 2 0 1023]
  | .lightThreshold => [.num 2 0 1023]
  | .keyBindings => [.key, .generalVoice, .num 1 0 63, .num 1 0 255, .choice 0 1]
  | .eventBindings => [.clipOrUnused, .generalVoice, .num 1 0 255]
  | .squealSpeed => [.num 2 0 4095]
  | .smokeTemps => [.num 2 50 300]
  | .heaterGain => [.num 1 1 16]
  | .fluidCapacity => [.num 2 1 60000]
  | .fluidRate => [.num 1 0 255]
  | .puffLength => [.num 1 2 20]
  | .fanPuffLevel => [.num 1 0 255]
  | .fanBetweenLevel => [.num 1 0 255]
  | .fanIdleLevel => [.num 1 0 255]
  | .patterns => [.choice 0 4, .num 1 0 255, .num 1 2 255, .yesNo]
  | .lightMaps => [.key, .choice 0 2, .num 1 0 15, .key, .num 2 0 4095, .num 2 0 4095]
  | .sceneKey => [.key]
  | .failsafePattern => [.num 1 1 15]
  | .failsafeMask => [.lightSet]
  | .bridgeLimit => [.num 1 1 20]
  | .settleDelay => [.num 1 2 50]
  | .thermalWarning => [.num 1 90 125]
  | .hostRank => [.choice 0 1]
  | .leaseTime => [.num 1 5 100]
  | .startKeys => [.keySet]
  | .startVolume => [.num 1 0 255]
  | .storeStatus => [.yesNo, .choice 0 1]

/-- The bytes an item's or entry's value takes. -/
def Item.size (i : Item) : Nat := (i.fields.map FieldSpec.size).sum

/-- Whether the item or entry is one number or one choice, so that a CONFIG_WRITE answers its prior value (R179). A set is neither
(log entry 10). -/
def Item.answersPrior (i : Item) : Bool :=
  match i.fields with
  | [.num _ _ _] => true
  | [.choice _ _] => true
  | _ => false

/-- Whether a field's number passes check 4 of R179. -/
def FieldSpec.legal : FieldSpec → Nat → Bool
  | .num _ _ _, _ => true
  | .choice lo hi, n => decide (lo ≤ n ∧ n ≤ hi)
  | .keySet, _ => true
  | .lightSet, n => n % 16 == 0

/-- The number a numeric field takes: the nearer end of its range (R179). -/
def FieldSpec.clamp : FieldSpec → Nat → Nat
  | .num _ lo hi, n => max lo (min n hi)
  | _, n => n

/-- The fields that bytes spell, before any check; none when the bytes are not as many as the fields take. -/
def splitFields : List FieldSpec → List Byte → Option (List Nat)
  | [], [] => some []
  | [], _ :: _ => none
  | f :: fs, bs =>
    if bs.length < f.size then none
    else
      match splitFields fs (bs.drop f.size) with
      | none => none
      | some ns => some (beNat (bs.take f.size) :: ns)

/-- The bytes of one field. -/
def FieldSpec.encode (f : FieldSpec) (n : Nat) : List Byte :=
  match f.size with
  | 1 => be1 n
  | 2 => be2 n
  | _ => be4 n

/-- The bytes of an item's fields. -/
def encodeFields (fs : List FieldSpec) (ns : List Nat) : List Byte := (List.zipWith FieldSpec.encode fs ns).flatten

/-! ## Fields as numbers -/

/-- A key, or 32 for the word that completes its range. -/
def keyNumber : Option (Fin 32) → Nat
  | some k => k.val
  | none => 32

/-- The key a number names. -/
def keyOfNumber (n : Nat) : Option (Fin 32) := if h : n < 32 then some ⟨n, h⟩ else none

/-- A clip, or 64 for UNUSED. -/
def clipNumber : Option (Fin 64) → Nat
  | some c => c.val
  | none => 64

/-- The clip a number names. -/
def clipOfNumber (n : Nat) : Option (Fin 64) := if h : n < 64 then some ⟨n, h⟩ else none

/-- NORMAL 0, REVERSED 1. -/
def Orientation.code : Orientation → Nat
  | .normal => 0
  | .reversed => 1

/-- 256, 512, 1024, in that order. -/
def Modulus.code : Modulus → Nat
  | .m256 => 0
  | .m512 => 1
  | .m1024 => 2

/-- The modulus a code names. -/
def Modulus.ofCode : Nat → Modulus
  | 0 => .m256
  | 1 => .m512
  | _ => .m1024

/-- FRONT, REAR, SENSOR. -/
def BeatSource.code : BeatSource → Nat
  | .front => 0
  | .rear => 1
  | .sensor => 2

/-- The beat source a code names. -/
def BeatSource.ofCode : Nat → BeatSource
  | 0 => .front
  | 1 => .rear
  | _ => .sensor

/-- The loss action a code names. -/
def LossAction.ofCode : Nat → LossAction
  | 0 => .ramp
  | 1 => .brake
  | _ => .coast

/-- OPERATOR, DISPATCH. -/
def Rank.code : Rank → Nat
  | .operator => 0
  | .dispatch => 1

/-- HOLD, ONESHOT. -/
def BindingMode.code : BindingMode → Nat
  | .hold => 0
  | .oneshot => 1

/-- STEADY, FLASH, STROBE, PULSE, FIREBOX. -/
def PatternKind.code : PatternKind → Nat
  | .steady => 0
  | .flash => 1
  | .strobe => 2
  | .pulse => 3
  | .firebox => 4

/-- The pattern kind a code names. -/
def PatternKind.ofCode : Nat → PatternKind
  | 0 => .steady
  | 1 => .flash
  | 2 => .strobe
  | 3 => .pulse
  | _ => .firebox

/-- ANY, FORWARD, REVERSE. -/
def LightDirection.code : LightDirection → Nat
  | .any => 0
  | .forward => 1
  | .reverse => 2

/-- The direction condition a code names. -/
def LightDirection.ofCode : Nat → LightDirection
  | 0 => .any
  | 1 => .forward
  | _ => .reverse

/-- 0 for no, 1 for yes. -/
def boolNumber (b : Bool) : Nat := if b then 1 else 0

/-- A dispatcher entry: 0 for no throttle. -/
def dispatcherNumber : Option Byte → Nat
  | some id => id.toNat
  | none => 0

/-- The dispatcher entry a number names. -/
def dispatcherOfNumber (n : Nat) : Option Byte := if n = 0 then none else some (BitVec.ofNat 8 n)

/-- The fields of a key binding. -/
def KeyBinding.numbers (b : KeyBinding) : List Nat := [keyNumber b.key, b.voice.val, b.clip.val, b.gain, b.mode.code]

/-- The fields of an event binding. -/
def EventBinding.numbers (b : EventBinding) : List Nat := [clipNumber b.clip, b.voice.val, b.gain]

/-- The fields of a pattern. -/
def Pattern.numbers (p : Pattern) : List Nat := [p.kind.code, p.level, p.period, boolNumber p.invert]

/-- The fields of a light map. -/
def LightMap.numbers (m : LightMap) : List Nat :=
  [keyNumber m.enableKey, m.direction.code, m.pattern.val, keyNumber m.dimKey, m.speedLow, m.speedHigh]

/-- The entry of a table at a number; the last entry where the number is beyond it, which no entry check lets through. -/
def entryOf {α : Type} {n : Nat} (v : Vector α (n + 1)) (e : Nat) : α := v[min e n]

/-- A table with the entry at a number replaced. -/
def setEntry {α : Type} {n : Nat} (v : Vector α n) (e : Nat) (x : α) : Vector α n := v.setIfInBounds e x

/-- The working value of an item or entry, as its fields' numbers; STORE_STATUS is read elsewhere. -/
def Configuration.get (c : Configuration) (i : Item) (e : Nat) : List Nat :=
  match i with
  | .locoAddress => [c.locoAddress]
  | .consistNumber => [c.consistNumber]
  | .consistOrientation => [c.consistOrientation.code]
  | .consistLead => [boolNumber c.consistLead]
  | .consistKeyMask => [c.consistKeyMask.toNat]
  | .dispatchers => [dispatcherNumber (entryOf c.dispatchers e)]
  | .speedCurve => [entryOf c.speedCurve e]
  | .accel => [c.accel]
  | .decel => [c.decel]
  | .kff => [c.kff]
  | .kp => [c.kp]
  | .ki => [c.ki]
  | .currentLimit => [c.currentLimit]
  | .slipThreshold => [c.slipThreshold]
  | .bridgeDutyCap => [c.bridgeDutyCap]
  | .lossAction => [c.lossAction.code]
  | .pwmModulus => [c.pwmModulus.code]
  | .gapSettle => [c.gapSettle]
  | .trackPresentLevel => [c.trackPresentLevel.val]
  | .trackSagLevel => [c.trackSagLevel.val]
  | .capReserveLevel => [c.capReserveLevel.val]
  | .capResumeLevel => [c.capResumeLevel.val]
  | .beatSource => [c.beatSource.code]
  | .beatsPerRev => [c.beatsPerRev.val]
  | .wheelScale => [c.wheelScale]
  | .flashSize => [c.flashSize]
  | .chuffClips => [clipNumber (entryOf c.chuffClips e)]
  | .chuffGain => [c.chuffGain]
  | .heavyThreshold => [c.heavyThreshold]
  | .lightThreshold => [c.lightThreshold]
  | .keyBindings => (entryOf c.keyBindings e).numbers
  | .eventBindings => (entryOf c.eventBindings e).numbers
  | .squealSpeed => [c.squealSpeed]
  | .smokeTemps => [entryOf c.smokeTemps (e - 1)]
  | .heaterGain => [c.heaterGain]
  | .fluidCapacity => [c.fluidCapacity]
  | .fluidRate => [c.fluidRate]
  | .puffLength => [c.puffLength]
  | .fanPuffLevel => [c.fanPuffLevel]
  | .fanBetweenLevel => [c.fanBetweenLevel]
  | .fanIdleLevel => [c.fanIdleLevel]
  | .patterns => (entryOf c.patterns (e - 1)).numbers
  | .lightMaps => (entryOf c.lightMaps e).numbers
  | .sceneKey => [keyNumber c.sceneKey]
  | .failsafePattern => [c.failsafePattern.val]
  | .failsafeMask => [c.failsafeMask.toNat]
  | .bridgeLimit => [c.bridgeLimit]
  | .settleDelay => [c.settleDelay]
  | .thermalWarning => [c.thermalWarning]
  | .hostRank => [c.hostRank.code]
  | .leaseTime => [c.leaseTime]
  | .startKeys => [c.startKeys.toNat]
  | .startVolume => [c.startVolume]
  | .storeStatus => []

/-- A configuration with an item or entry replaced by the value its fields' numbers give (legal and clamped already). -/
def Configuration.put (c : Configuration) (i : Item) (e : Nat) (ns : List Nat) : Configuration :=
  let n := ns.headD 0
  match i with
  | .locoAddress => { c with locoAddress := n }
  | .consistNumber => { c with consistNumber := n }
  | .consistOrientation => { c with consistOrientation := if n = 0 then .normal else .reversed }
  | .consistLead => { c with consistLead := n != 0 }
  | .consistKeyMask => { c with consistKeyMask := BitVec.ofNat 32 n }
  | .dispatchers => { c with dispatchers := setEntry c.dispatchers e (dispatcherOfNumber n) }
  | .speedCurve => { c with speedCurve := setEntry c.speedCurve e n }
  | .accel => { c with accel := n }
  | .decel => { c with decel := n }
  | .kff => { c with kff := n }
  | .kp => { c with kp := n }
  | .ki => { c with ki := n }
  | .currentLimit => { c with currentLimit := n }
  | .slipThreshold => { c with slipThreshold := n }
  | .bridgeDutyCap => { c with bridgeDutyCap := n }
  | .lossAction => { c with lossAction := LossAction.ofCode n }
  | .pwmModulus => { c with pwmModulus := Modulus.ofCode n }
  | .gapSettle => { c with gapSettle := n }
  | .trackPresentLevel => { c with trackPresentLevel := Fin.ofNat 4 n }
  | .trackSagLevel => { c with trackSagLevel := Fin.ofNat 4 n }
  | .capReserveLevel => { c with capReserveLevel := Fin.ofNat 4 n }
  | .capResumeLevel => { c with capResumeLevel := Fin.ofNat 4 n }
  | .beatSource => { c with beatSource := BeatSource.ofCode n }
  | .beatsPerRev => { c with beatsPerRev := Fin.ofNat 4 n }
  | .wheelScale => { c with wheelScale := n }
  | .flashSize => { c with flashSize := n }
  | .chuffClips => { c with chuffClips := setEntry c.chuffClips e (clipOfNumber n) }
  | .chuffGain => { c with chuffGain := n }
  | .heavyThreshold => { c with heavyThreshold := n }
  | .lightThreshold => { c with lightThreshold := n }
  | .keyBindings =>
    match ns with
    | [k, v, cl, g, m] =>
      let b : KeyBinding := ⟨keyOfNumber k, Fin.ofNat 6 v, Fin.ofNat 64 cl, g, if m = 0 then .hold else .oneshot⟩
      { c with keyBindings := setEntry c.keyBindings e b }
    | _ => c
  | .eventBindings =>
    match ns with
    | [cl, v, g] => { c with eventBindings := setEntry c.eventBindings e ⟨clipOfNumber cl, Fin.ofNat 6 v, g⟩ }
    | _ => c
  | .squealSpeed => { c with squealSpeed := n }
  | .smokeTemps => { c with smokeTemps := setEntry c.smokeTemps (e - 1) n }
  | .heaterGain => { c with heaterGain := n }
  | .fluidCapacity => { c with fluidCapacity := n }
  | .fluidRate => { c with fluidRate := n }
  | .puffLength => { c with puffLength := n }
  | .fanPuffLevel => { c with fanPuffLevel := n }
  | .fanBetweenLevel => { c with fanBetweenLevel := n }
  | .fanIdleLevel => { c with fanIdleLevel := n }
  | .patterns =>
    match ns with
    | [k, l, p, v] => { c with patterns := setEntry c.patterns (e - 1) ⟨PatternKind.ofCode k, l, p, v != 0⟩ }
    | _ => c
  | .lightMaps =>
    match ns with
    | [k, d, p, dim, lo, hi] =>
      let m : LightMap := ⟨keyOfNumber k, LightDirection.ofCode d, Fin.ofNat 16 p, keyOfNumber dim, lo, hi⟩
      { c with lightMaps := setEntry c.lightMaps e m }
    | _ => c
  | .sceneKey => { c with sceneKey := keyOfNumber n }
  | .failsafePattern => { c with failsafePattern := Fin.ofNat 16 n }
  | .failsafeMask => { c with failsafeMask := BitVec.ofNat 16 n }
  | .bridgeLimit => { c with bridgeLimit := n }
  | .settleDelay => { c with settleDelay := n }
  | .thermalWarning => { c with thermalWarning := n }
  | .hostRank => { c with hostRank := if n = 0 then .operator else .dispatch }
  | .leaseTime => { c with leaseTime := n }
  | .startKeys => { c with startKeys := BitVec.ofNat 32 n }
  | .startVolume => { c with startVolume := n }
  | .storeStatus => c

/-- The encoding of an item or entry as it stands. -/
def Configuration.encode (c : Configuration) (i : Item) (e : Nat) : List Byte := encodeFields i.fields (c.get i e)

/-- The cross-item constraints of R179, check 5, on the configuration a write would leave. The SPEED_LOW and SPEED_HIGH judged are
the written values before any clamp: a clamp keeps their order. -/
def Configuration.consistent (c : Configuration) (i : Item) (e : Nat) : Bool :=
  match i with
  | .trackPresentLevel => decide (c.level .trackPresent < c.level .trackSag)
  | .trackSagLevel => decide (c.level .trackPresent < c.level .trackSag)
  | .capReserveLevel => decide (c.level .capReserve < c.level .capResume)
  | .capResumeLevel => decide (c.level .capReserve < c.level .capResume)
  | .lightMaps => decide ((entryOf c.lightMaps e).speedLow ≤ (entryOf c.lightMaps e).speedHigh)
  | _ => true

/-- The entry numbers of an item; an item without entries has the one number 0. -/
def Item.entryNumbers (i : Item) : List Nat :=
  match i.entries with
  | some (lo, hi) => (List.range (hi + 1)).drop lo
  | none => [0]

/-- Every item of the image, in item order, entry by entry, in the encodings of R190 (log entry 11). -/
def Configuration.bytes (c : Configuration) : List Byte :=
  ((itemTable.map fun i => (i.entryNumbers.map fun e => c.encode i e).flatten)).flatten

/-- The CRC-16 of an image that holds these items (R177). -/
def Configuration.crc (c : Configuration) : Word16 := crc16 c.bytes

end Sys2Proof.Machine
end

