-- ==== Sys2Proof/Machine/Operands.lean ====
section
/-! DEFINITION. What the operand bytes of a request name: record fields and their properties (1.2, 1.3, R190), selectors, channels,
and the keys of a key set. -/

namespace Sys2Proof.Machine

/-- The fields of the record, in the order of the tables of 1.2 and 1.3 (R190). -/
inductive Field where
  | targetNotch
  | direction
  | brake
  | keys
  | smokeLevel
  | volume
  | restarted
  | driveHolder
  | failsafe
  | runSpeed
  | runDirection
  | motionState
  | speedF
  | speedR
  | dutyF
  | dutyR
  | slipState
  | odometer
  | beatCount
  | powerState
  | shedStage
  | temperature
  | faultSummary
  | fault
  | smokeState
  | fluid
  | soundClips
  | soundUnderruns
  | radioCounts
deriving DecidableEq, Repr

/-- The fields numbered from 0 to 28 (R190). -/
def fieldTable : List Field :=
  [.targetNotch, .direction, .brake, .keys, .smokeLevel, .volume, .restarted, .driveHolder, .failsafe, .runSpeed, .runDirection,
   .motionState, .speedF, .speedR, .dutyF, .dutyR, .slipState, .odometer, .beatCount, .powerState, .shedStage, .temperature,
   .faultSummary, .fault, .smokeState, .fluid, .soundClips, .soundUnderruns, .radioCounts]

/-- The field a field byte names; above 28, none (R190). -/
def Field.ofByte (b : Byte) : Option Field := fieldTable[b.toNat]?

/-- Whether a field is one of the seven writable fields of 1.2. -/
def Field.writable : Field → Bool
  | .targetNotch => true
  | .direction => true
  | .brake => true
  | .keys => true
  | .smokeLevel => true
  | .volume => true
  | .restarted => true
  | _ => false

/-- Whether a field is a drive field (R3). -/
def Field.isDrive : Field → Bool
  | .targetNotch => true
  | .direction => true
  | .brake => true
  | _ => false

/-- The top of the range of a numeric field that ADD and SWAP are defined for (1.2, 1.4); none for the others. -/
def Field.top : Field → Option Nat
  | .targetNotch => some 255
  | .brake => some 15
  | .smokeLevel => some 3
  | .volume => some 255
  | _ => none

/-- The output a selector of FAULT names (R5). -/
def outputOfSelector (b : Byte) : Option Output := allOutputs[b.toNat]?

/-- The channel a MEASURE names (R86, R190). -/
def Channel.ofByte (b : Byte) : Option Channel := channelTable[b.toNat]?

/-- The radio counter a selector of RADIO_COUNTS names (R5). -/
def RadioCounts.select (c : RadioCounts) (b : Byte) : Option Nat :=
  [c.frameGap, c.frameLength, c.crc, c.badThrottle, c.notMine, c.duplicate, c.replyOverrun, c.notReady][b.toNat]?

/-- The scene row a row byte names. -/
def SceneRow.ofByte (b : Byte) : Option SceneRow := if b = 0 then some .a else if b = 1 then some .b else none

/-- The other scene row. -/
def SceneRow.other : SceneRow → SceneRow
  | .a => .b
  | .b => .a

/-- Whether a key is on. -/
def keyOn (keys : KeySet) (k : Fin 32) : Bool := keys.getLsbD k.val

end Sys2Proof.Machine
end

