-- ==== Sys2Proof/Machine/Ops.lean ====
section
/-! DEFINITION. The operations every block shares: time and timers, notices (R187), radio counters (R32), and answers. -/

namespace Sys2Proof.Machine

/-! ## Time and timers (log entry 1) -/

/-- A timer runs. -/
def Timer.isRunning : Timer → Bool
  | .running _ => true
  | .stopped => false

/-- The remaining time of a timer. -/
def Timer.remaining (t : Timer) (now : Time) : Time :=
  match t with
  | .running due => due - now
  | .stopped => 0

/-- The time after an event that is due at `due` has been taken: the event's time, or the present if that is later. -/
def State.reach (s : State) (due : Time) : State := { s with now := max s.now due }

/-- A timer started now. -/
def State.timer (s : State) (duration : Time) : Timer := .running (s.now + duration)

/-- A periodic timer after an expiry: it runs on at a fixed pace. -/
def Timer.again (t : Timer) (period : Time) : Timer :=
  match t with
  | .running due => .running (due + period)
  | .stopped => .stopped

/-- The effect of a timer's expiry, taken at its time; a stopped timer does not expire, and nothing changes. -/
def onExpiry (t : Timer) (f : State → State) (s : State) : State :=
  match t with
  | .running due => f (s.reach due)
  | .stopped => s

/-- The effect of an event on the part: none while it is held in device reset (R156). -/
def whenReleased (f : State → State) (s : State) : Out := .next (if s.inReset then s else f s)

/-! ## The working configuration -/

/-- The configuration the part acts on. -/
def State.cfg (s : State) : Configuration := s.cfs.working

/-! ## Notices (R187) -/

/-- A notice of any kind other than COMPLETION. -/
def Notice.isEvent : Notice → Bool
  | .completion .. => false
  | _ => true

/-- A queue less its oldest event notice. -/
def dropOldestEvent : List Notice → List Notice
  | [] => []
  | n :: ns => if n.isEvent then ns else n :: dropOldestEvent ns

/-- The notice queue after a push (R187). A full queue of COMPLETIONs, which R187 holds impossible and R186 does not prevent, drops the
arriving notice and counts it (log entry 13). -/
def Hpt.push (h : Hpt) (n : Notice) : Hpt :=
  if h.notices.length < Config.noticeCapacity then { h with notices := h.notices ++ [n] }
  else if n.isEvent || h.notices.all (fun m => !m.isEvent) then { h with lost := countUp h.lost 255 }
  else { h with notices := dropOldestEvent h.notices ++ [n], lost := countUp h.lost 255 }

/-- A block pushes a notice. -/
def pushNotice (n : Notice) (s : State) : State := { s with hpt := s.hpt.push n }

/-- ATTN is high while the queue holds a notice (R187). -/
def Hpt.attn (h : Hpt) : Bool := !h.notices.isEmpty

/-- A completion: the push and the release of the deferred slot are one event (R186). -/
def pushCompletion (kind : Kind) (tag : Byte) (code : Code) (value : Word16) (s : State) : State :=
  let s := pushNotice (.completion tag code value) s
  { s with hpt := { s.hpt with slots := s.hpt.slots.erase ⟨kind, tag⟩ } }

/-! ## Publications to RCU (1.3) -/

/-- A block hands RCU new values of the read-only fields it owns. -/
def publish (f : Views → Views) (s : State) : State := { s with rcu := { s.rcu with views := f s.rcu.views } }

/-! ## Radio counters (R32) -/

/-- A change of RIF's counters, published to RCU. -/
def countRadio (f : RadioCounts → RadioCounts) (s : State) : State :=
  let c := f s.rif.counts
  publish (fun v => { v with radioCounts := c }) { s with rif := { s.rif with counts := c } }

/-! ## Answers (R14) -/

/-- A refusal: no flags and no value. -/
def refusal (code : Code) : Answer := { code := code }

/-- An answer DONE. -/
def doneWith (flags : Flags) (value : List Byte) : Answer := { code := .done, flags := flags, value := value }

/-! ## Commands handed to ODU (R172, R173) -/

/-- What ODU holds for an output. -/
def Odu.watch (d : Odu) (o : Output) : Watch := d.watches[outputIndex o]

/-- ODU with what it holds for an output changed. -/
def Odu.setWatch (d : Odu) (o : Output) (w : Watch) : Odu := { d with watches := d.watches.set (outputIndex o) w }

/-- The open-command level of an output (R172). -/
def openCommandLevel : Output → Nat
  | .truck _ => 256
  | _ => 64

/-- ODU takes the command of an output; one below the open-command level stops its open timer (R173). -/
def takeCommand (o : Output) (command : Nat) (s : State) : State :=
  let w := s.odu.watch o
  let w := { w with command := command, openTimer := if command < openCommandLevel o then .stopped else w.openTimer }
  { s with odu := s.odu.setWatch o w }

/-- ODU holds an output off, in SHORT_WAIT or LATCHED. -/
def FaultState.holdsOff : FaultState → Bool
  | .ok => false
  | .shortWait => true
  | .latched => true

/-- ODU holds this output off. -/
def State.heldOff (s : State) (o : Output) : Bool := (s.odu.watch o).record.state.holdsOff

/-! ## The 8-bit PWM outputs: heater, fan and lights (R128, R134, R137) -/

/-- A PWM period start: the present command is taken, and the switch is on unless the command is 0 or ODU holds the output off. -/
def Pwm.atPeriod (command : Nat) (held : Bool) : Pwm := { taken := command, isOn := !held && decide (0 < command) }

/-- The counter reaches the level taken: the switch is off for the rest of the period. -/
def Pwm.off (p : Pwm) : Pwm := { p with isOn := false }

/-- A new command: one of 0 switches the output off at once, and any other waits for the next period start. -/
def Pwm.command (p : Pwm) (command : Nat) : Pwm := if command = 0 then p.off else p

end Sys2Proof.Machine
end

