-- ==== Sys2Proof/Machine/Converter.lean ====
section
/-! DEFINITION. The general converter's work list (R83): what the schedules of R84 and R85 append to. -/

namespace Sys2Proof.Machine

/-- The conversion list holds up to this many channels (4.1). -/
def conversionCapacity : Nat := 8

/-- An idle converter takes the oldest channel of the list (R83). -/
def startConversion (s : State) : State :=
  match s.bmu.converting, s.bmu.conversions with
  | none, ch :: rest => { s with bmu := { s.bmu with converting := some (ch, s.now + Config.conversionTime), conversions := rest } }
  | _, _ => s

/-- BMU appends a channel to the conversion list; a converter that is idle starts it at once (R83). A full list, which R83 holds
impossible, takes no channel (log entry 14). -/
def appendChannel (ch : Channel) (s : State) : State :=
  if s.bmu.conversions.length < conversionCapacity then
    startConversion { s with bmu := { s.bmu with conversions := s.bmu.conversions ++ [ch] } }
  else s

/-- At a light frame BMU appends the current of the next light in rotation (R85). -/
def appendLight (s : State) : State :=
  appendChannel (.lightI s.bmu.lightIndex) { s with bmu := { s.bmu with lightIndex := s.bmu.lightIndex + 1 } }

/-- SMOKE_TICK (R85, R122): BMU appends HEATER_T, HEATER_I and FAN_I, and the tick timer runs on. -/
def execSmokeTick (s : State) : Out :=
  whenReleased (fun s =>
    onExpiry s.smu.tickTimer (fun s =>
      let s := { s with smu := { s.smu with tickTimer := s.smu.tickTimer.again Config.smokePeriod } }
      appendChannel .fanI (appendChannel .heaterI (appendChannel .heaterT s))) s) s

/-- DIE_TIMER_EXPIRY (R84): BMU appends DIE_T, and the die timer runs on. -/
def execDieTimerExpiry (s : State) : Out :=
  whenReleased (fun s =>
    onExpiry s.bmu.dieTimer (fun s =>
      appendChannel .dieT { s with bmu := { s.bmu with dieTimer := s.bmu.dieTimer.again Config.diePeriod } }) s) s

end Sys2Proof.Machine
end

