-- ==== Sys2Proof/Machine/Lights.lean ====
section
/-! DEFINITION. The Light Controller (chapter 8): patterns, the firebox, the flash clock, the base layer, composition, scenes, and
SCENE_WRITE. -/

namespace Sys2Proof.Machine

/-- LTC with its own state changed. -/
def onLtc (f : Ltc → Ltc) (s : State) : State := { s with ltc := f s.ltc }

/-- LTC with one light changed. -/
def Ltc.mapLight (l : Ltc) (n : Fin 12) (f : Light → Light) : Ltc := { l with lights := l.lights.set n (f l.lights[n]) }

/-- LTC with every light changed. -/
def Ltc.mapLights (l : Ltc) (f : Fin 12 → Light → Light) : Ltc := { l with lights := Vector.ofFn fun n => f n l.lights[n] }

/-! ## Pattern values (8.2, 8.3, 8.4) -/

/-- The flash clock is on (R144). -/
def Ltc.flashOn (l : Ltc) : Bool := decide (l.flashCounter < l.flashCycle / 2)

/-- The six-bit number of the flicker generator for an output (R143). -/
def flickerBits (reg : Word16) (n : Fin 12) : Nat := (reg.toNat >>> (n.val % 10)) % 64

/-- The flicker value at an effective level (R143). -/
def flickerValue (reg : Word16) (n : Fin 12) (level : Nat) : Nat := level * (192 + flickerBits reg n) / 256

/-- The value of a PULSE pattern (R140). -/
def pulseValue (level period t : Nat) : Nat :=
  if t < period / 2 then 2 * t * level / period else min level (2 * (period - t) * level / period)

/-- The value of a pattern at an effective level (R139, R140, R143). -/
def Pattern.value (p : Pattern) (level : Nat) (t : Nat) (flashOn : Bool) (reg : Word16) (n : Fin 12) (flare : Nat) : Nat :=
  match p.kind with
  | .steady => level
  | .flash => if flashOn != p.invert then level else 0
  | .strobe => if t = 0 ∨ t = 1 ∨ t = 4 ∨ t = 5 then level else 0
  | .pulse => pulseValue level p.period t
  | .firebox => max (flickerValue reg n level) flare

/-- The flicker generator advances once (R142). -/
def advanceFlicker (reg : Word16) : Word16 :=
  let b := reg.getLsbD 0 != (reg.getLsbD 2 != (reg.getLsbD 3 != reg.getLsbD 5))
  (reg >>> 1) ||| (if b then 0x8000#16 else 0#16)

/-- The flash clock advances (R144). -/
def Ltc.advanceFlash (l : Ltc) : Ltc :=
  if l.flashCounter + 1 < l.flashCycle then { l with flashCounter := l.flashCounter + 1 }
  else { l with flashCounter := 0, flashCycle := if 0 < l.runSpeed then 48 else 16 }

/-! ## Composition (R145, R146, R148) -/

/-- The key a light map names is on; no key needs none. -/
def enabled (keys : KeySet) : Option (Fin 32) → Bool
  | none => true
  | some k => keyOn keys k

/-- The RUN_DIRECTION in which a light map lights. -/
def LightDirection.admits : LightDirection → Direction → Bool
  | .any, _ => true
  | .forward, d => decide (d = .forward)
  | .reverse, d => decide (d = .reverse)

/-- A pattern at its full LEVEL; ID 0 names none. -/
def chosen (c : Configuration) (id : Fin 16) : Option LastPattern := (c.pattern id).map fun p => ⟨id, p.level⟩

/-- What the base layer chooses for an output (R145, R146). -/
def Ltc.base (l : Ltc) (c : Configuration) (n : Fin 12) : Option LastPattern :=
  let m := c.lightMaps[n]
  if enabled l.keysView m.enableKey && m.direction.admits l.runDirection && decide (m.speedLow ≤ l.runSpeed)
      && decide (l.runSpeed ≤ m.speedHigh) then
    (chosen c m.pattern).map fun p =>
      match m.dimKey with
      | some k => if keyOn l.keysView k then { p with level := p.level / 2 } else p
      | none => p
  else none

/-- The code the scene layer shows on an output; 0 is transparent. -/
def Ltc.sceneCode (l : Ltc) (n : Fin 12) : Fin 16 :=
  match l.player, l.latch with
  | .playing, some step => step.codes[n]
  | _, _ => 0

/-- The pattern the layers choose for an output, with its effective level (R148). -/
def Ltc.choose (l : Ltc) (c : Configuration) (n : Fin 12) : Option LastPattern :=
  if (l.lights[n]).faultView.holdsOff then none
  else if l.failsafeView && c.failsafeMask.getLsbD (4 + n.val) then chosen c c.failsafePattern
  else if l.sceneCode n ≠ 0 then chosen c (l.sceneCode n)
  else l.base c n

/-- The phase of a frame (R141). -/
def Light.nextPhase (x : Light) (choice : Option LastPattern) (period : Nat) : Nat :=
  match choice, x.last with
  | some p, some q => if p.id = q.id then (x.phase + 1) % period else 0
  | some _, none => 0
  | none, _ => x.phase

/-- The shed stage scales a value (R148). -/
def shedLight (stage value : Nat) : Nat := if stage ≤ 1 then value else if stage ≤ 3 then value / 2 else 0

/-- One output in the compose stage (R138, R141, R148). -/
def Ltc.compose (l : Ltc) (c : Configuration) (n : Fin 12) (x : Light) : Light :=
  let choice := l.choose c n
  match choice.bind fun p => (c.pattern p.id).map fun q => (p, q) with
  | none => { x with level := 0, last := none }
  | some (p, q) =>
    let t := x.nextPhase choice q.period
    let value := q.value p.level t l.flashOn l.flicker n x.flare
    { x with level := shedLight l.shedView value, last := some p, phase := t }

/-! ## Scenes (8.7) -/

/-- A scene row. -/
def Ltc.sceneRow (l : Ltc) : SceneRow → Vector SceneStep 16
  | .a => l.rowA
  | .b => l.rowB

/-- LTC with a step of a row replaced. -/
def Ltc.setStep (l : Ltc) (r : SceneRow) (i : Nat) (x : SceneStep) : Ltc :=
  match r with
  | .a => { l with rowA := setEntry l.rowA i x }
  | .b => { l with rowB := setEntry l.rowB i x }

/-- A step is latched at its start (R151). -/
def Ltc.latchStep (l : Ltc) (r : SceneRow) (i : Nat) : Ltc :=
  let x := entryOf (l.sceneRow r) i
  { l with player := .playing, row := r, stepIndex := i, remaining := x.duration, latch := some x }

/-- The player turns to a row at its step 0: it plays it, or waits on it (R150, R152), then with no frames remaining (log entry 37). -/
def enterRow (r : SceneRow) (s : State) : State :=
  if 0 < (entryOf (s.ltc.sceneRow r) 0).duration then onLtc (·.latchStep r 0) s
  else
    pushNotice (.sceneWaiting r)
      (onLtc (fun l => { l with player := .waiting, row := r, stepIndex := 0, remaining := 0, latch := none }) s)

/-- The scene player's run condition (R150). -/
def State.sceneRuns (s : State) : Bool :=
  match s.cfg.sceneKey with
  | none => false
  | some k => keyOn s.ltc.keysView k

/-- LTC evaluates the run condition (R150). A STOPPED player stands at row A, step 0, with no frames remaining (log entry 37). -/
def evaluateScene (s : State) : State :=
  if s.sceneRuns then
    if s.ltc.player = .stopped then enterRow .a s else s
  else onLtc (fun l => { l with player := .stopped, row := .a, stepIndex := 0, remaining := 0, latch := none }) s

/-- A row ends (R152). -/
def endRow (s : State) : State := enterRow s.ltc.row.other (pushNotice (.rowDone s.ltc.row) s)

/-- The player turns to the next step index of its row (R151). -/
def nextStep (s : State) : State :=
  let i := s.ltc.stepIndex + 1
  if 16 ≤ i then endRow s
  else if (entryOf (s.ltc.sceneRow s.ltc.row) i).duration = 0 then endRow s
  else onLtc (fun l => l.latchStep l.row i) s

/-- The step timer in the advance stage (R151, R154). -/
def advanceScene (s : State) : State :=
  if s.ltc.player = .playing ∧ s.ltc.shedView < 4 then
    let s := onLtc (fun l => { l with remaining := l.remaining - 1 }) s
    if s.ltc.remaining = 0 then nextStep s else s
  else s

/-- The number of the player's state in the answer to a SCENE_WRITE (R149). -/
def Ltc.playerCode (l : Ltc) : Nat :=
  match l.player with
  | .stopped => 0
  | .playing => 1 + l.row.code
  | .waiting => 3

/-- SCENE_WRITE (R149, R153). -/
def serveSceneWrite (row stepIndex duration : Byte) (codes : Vector Byte 12) (s : State) : Answer × State :=
  match SceneRow.ofByte row with
  | none => (refusal .badValue, s)
  | some r =>
    if 15 < stepIndex.toNat ∨ codes.toList.any (fun c => decide (15 < c.toNat)) then (refusal .badValue, s)
    else
      let x : SceneStep := ⟨duration.toNat, Vector.ofFn fun n => Fin.ofNat 16 (codes[n]).toNat⟩
      let s := onLtc (·.setStep r stepIndex.toNat x) s
      let ends := decide (s.ltc.player = .waiting) && decide (s.ltc.row = r) && decide (stepIndex.toNat = 0) && decide (0 < x.duration)
      let s := if ends then onLtc (·.latchStep r 0) s else s
      (doneWith {} (be1 s.ltc.playerCode), s)

/-! ## What LTC takes from other blocks (R143, R147) -/

/-- LTC takes a KEYS publication. -/
def lightsTakeKeys (keys : KeySet) (s : State) : State := evaluateScene (onLtc (fun l => { l with keysView := keys }) s)

/-- LTC takes a FAILSAFE publication. -/
def lightsTakeFailsafe (b : Bool) (s : State) : State := onLtc (fun l => { l with failsafeView := b }) s

/-- LTC takes what MOC publishes. -/
def lightsTakeMotion (speed : Nat) (d : Direction) (s : State) : State :=
  onLtc (fun l => { l with runSpeed := speed, runDirection := d }) s

/-- LTC takes a shed-stage publication; a rise to 4 darkens every output at once. -/
def Ltc.takeShed (l : Ltc) (stage : Nat) : Ltc :=
  let l' := { l with shedView := stage }
  if stage = 4 ∧ l.shedView < 4 then l'.mapLights fun _ x => { x with level := 0, pwm := x.pwm.command 0 } else l'

/-- LTC takes the fault state of a light. -/
def lightsTakeFault (n : Fin 12) (st : FaultState) (s : State) : State :=
  onLtc (·.mapLight n fun x => { x with faultView := st }) s

/-- The kind of a pattern an ID names is FIREBOX. -/
def isFirebox (c : Configuration) (id : Fin 16) : Bool :=
  match c.pattern id with
  | some p => decide (p.kind = .firebox)
  | none => false

/-- LTC takes a beat event: a firebox flares (R143). The kind of the last pattern is the present configuration's (log entry 39). -/
def lightsTakeBeat (s : State) : State :=
  onLtc (·.mapLights fun _ x =>
    match x.last with
    | some p => if isFirebox s.cfg p.id then { x with flare := p.level } else x
    | none => x) s

/-! ## The light frame (R138) -/

/-- The drive stage hands an output's level to its output. -/
def Light.driven (x : Light) : Light := { x with pwm := x.pwm.command x.level }

/-- The flare of a light falls (R143). -/
def Light.fade (x : Light) : Light := { x with flare := x.flare - 32 }

/-- Every light's level is handed to ODU. -/
def handLevels (s : State) : State := allLights.foldl (fun s n => takeCommand (.light n) (s.ltc.lights[n]).level s) s

/-- The three stages of one light frame (R138). -/
def lightFrame (s : State) : State :=
  let s := onLtc (fun l => l.mapLights fun n x => (l.compose s.cfg n x).driven) s
  let s := handLevels s
  let s := onLtc (fun l => { l.mapLights (fun _ x => x.fade) with flicker := advanceFlicker l.flicker }.advanceFlash) s
  advanceScene s

/-- LIGHT_FRAME (R138); BMU takes the same expiry (R85). -/
def execLightFrame (s : State) : Out :=
  whenReleased (fun s =>
    onExpiry s.ltc.frameTimer (fun s =>
      appendLight (lightFrame (onLtc (fun l => { l with frameTimer := l.frameTimer.again Config.lightPeriod }) s))) s) s

/-- LIGHT_PWM_PERIOD_START (R137). -/
def execLightPwmPeriodStart (n : Fin 12) (s : State) : Out :=
  whenReleased (fun s => onLtc (·.mapLight n fun x => { x with pwm := Pwm.atPeriod x.level (s.heldOff (.light n)) }) s) s

/-- LIGHT_PWM_COMPARE (R137). -/
def execLightPwmCompare (n : Fin 12) (s : State) : Out :=
  whenReleased (onLtc (·.mapLight n fun x => { x with pwm := x.pwm.off })) s

end Sys2Proof.Machine
end

