-- ==== Sys2Proof/Machine/Smoke.lean ====
section
/-! DEFINITION. The Smoke Unit (chapter 7): smoke states, the regulation step, the fluid estimate, the fan, and REFILL. -/

namespace Sys2Proof.Machine

/-- SMU with its own state changed. -/
def onSmu (f : Smu → Smu) (s : State) : State := { s with smu := f s.smu }

/-- T*, the target temperature of a level; none at level 0 (7.1). -/
def smokeTarget (c : Configuration) (level : Nat) : Option Nat :=
  if level = 0 then none else some (entryOf c.smokeTemps (level - 1))

/-- T* of the level SMU holds, 0 where there is none. -/
def State.smokeTarget (s : State) : Nat := (Machine.smokeTarget s.cfg s.smu.levelView).getD 0

/-- The smoke state heats the element. -/
def SmokeState.heats : SmokeState → Bool
  | .warming => true
  | .regulating => true
  | _ => false

/-- The state that the level and the stage call for (R123). -/
def State.calledSmoke (s : State) : SmokeState :=
  if s.smu.fluid = 0 then .dry
  else if s.smu.levelView = 0 then .off
  else if 2 ≤ s.smu.shedView then .held
  else if s.smu.tView + 15 < s.smokeTarget then .warming
  else .regulating

/-- The heater duty h, handed to the heater output and to ODU (R128). -/
def setHeater (h : Nat) (s : State) : State :=
  takeCommand .heater h (onSmu (fun u => { u with heater := h, heaterPwm := u.heaterPwm.command h }) s)

/-- The fan command, handed to the fan output and to ODU (R134). -/
def setFan (level : Nat) (s : State) : State :=
  takeCommand .fan level (onSmu (fun u => { u with fan := level, fanPwm := u.fanPwm.command level }) s)

/-- The between-puff level of the fan (R133). -/
def betweenLevel (c : Configuration) (m : MotionState) : Nat :=
  match m with
  | .driving => c.fanBetweenLevel
  | .reversing => c.fanBetweenLevel
  | .idle => c.fanIdleLevel
  | .emergency => c.fanIdleLevel
  | .suspended => c.fanIdleLevel

/-- The fan goes to its between-puff level. -/
def fanBetween (s : State) : State := setFan (betweenLevel s.cfg s.smu.motionView) s

/-- The puff timer is STOPPED. -/
def stopPuff (s : State) : State := onSmu (fun u => { u with puffTimer := .stopped }) s

/-- A transition of the smoke state (R123, R133); one that leaves the state as it was does nothing. -/
def enterSmoke (st : SmokeState) (s : State) : State :=
  if st = s.smu.state then s
  else
    let s := onSmu (fun u => { u with state := st }) s
    let s := pushNotice (.smokeState st) (publish (fun v => { v with smokeState := st }) s)
    let s := if st.heats then s else setHeater 0 s
    let s := stopPuff s
    if st = .regulating then fanBetween s else setFan 0 s

/-- The dry check becomes DISARMED. -/
def disarmDry (s : State) : State := onSmu (fun u => { u with dryArmed := false }) s

/-- FLUID takes a new value, handed to RCU (R130). -/
def setFluid (n : Nat) (s : State) : State :=
  publish (fun v => { v with fluid := n }) (onSmu (fun u => { u with fluid := n }) s)

/-! ## What SMU takes from other blocks -/

/-- SMU takes a SMOKE_LEVEL publication (R124). DEDUCED: a lowered T* disarms the dry check in WARMING and REGULATING alone, as R124 says;
R129 names no state for this event (log entry 47). -/
def smokeTakeLevel (level : Nat) (s : State) : State :=
  let old := s.smokeTarget
  let lowers := decide (s.smu.levelView ≠ 0) && decide (level ≠ 0)
  let s := onSmu (fun u => { u with levelView := level }) s
  match s.smu.state with
  | .off => if level = 0 then s else enterSmoke s.calledSmoke s
  | .warming | .regulating =>
    let s := if lowers && decide (s.smokeTarget < old) then disarmDry s else s
    if level = 0 then enterSmoke .off s
    else enterSmoke (if s.smu.tView + 15 < s.smokeTarget then .warming else .regulating) s
  | .held => if level = 0 then enterSmoke .off s else s
  | .dry => s
  | .fault => s

/-- SMU takes a shed-stage publication (R125). -/
def smokeTakeShed (stage : Nat) (s : State) : State :=
  let old := s.smu.shedView
  let s := onSmu (fun u => { u with shedView := stage }) s
  if 2 ≤ stage then
    if s.smu.state.heats then enterSmoke .held s else s
  else if 2 ≤ old then
    if s.smu.state = .held then enterSmoke s.calledSmoke s else s
  else if stage = 1 ∧ old = 0 ∧ 127 < s.smu.heater then setHeater 127 s
  else s

/-- SMU takes a fault record of the heater (R126). -/
def smokeTakeFault (r : FaultRecord) (s : State) : State :=
  let s := onSmu (fun u => { u with faultView := r.state, shortView := r.shorted }) s
  if r.state.holdsOff then enterSmoke .fault s
  else if s.smu.state = .fault ∧ r.shorted = false then enterSmoke s.calledSmoke s
  else s

/-- SMU takes a motion state (R133, motion change). -/
def smokeTakeMotion (m : MotionState) (s : State) : State :=
  let s := onSmu (fun u => { u with motionView := m }) s
  if s.smu.state = .regulating ∧ s.smu.puffTimer = .stopped then fanBetween s else s

/-- SMU takes a beat event (R133, puff). -/
def smokeTakeBeat (s : State) : State :=
  if s.smu.state = .regulating then
    let s := setFan s.cfg.fanPuffLevel s
    onSmu (fun u => { u with puffTimer := s.timer (Config.ms (10 * s.cfg.puffLength)) }) s
  else s

/-! ## REFILL -/

/-- REFILL (R131). -/
def serveRefill (amount : Word16) (s : State) : Answer × State :=
  let taken := max 1 (min amount.toNat 60000)
  let sum := s.smu.fluid + taken
  let s' := setFluid (min sum s.cfg.fluidCapacity) s
  let s' := if s'.smu.state = .dry then enterSmoke (disarmDry s').calledSmoke (disarmDry s') else s'
  (doneWith { clamped := decide (taken ≠ amount.toNat), saturated := decide (s.cfg.fluidCapacity < sum) } (be2 s'.smu.fluid), s')

/-! ## Changes of configuration (R132, R135) -/

/-- A change of SMOKE_TEMPS, from an old T*: a lowered T* disarms the dry check (R129, R135). -/
def smokeTempsChanged (oldTarget : Nat) (s : State) : State :=
  if s.smu.state.heats && decide (s.smu.levelView ≠ 0) && decide (s.smokeTarget < oldTarget) then disarmDry s else s

/-- A change of FLUID_CAPACITY (R132). -/
def capacityChanged (s : State) : State :=
  if s.cfg.fluidCapacity < s.smu.fluid then setFluid s.cfg.fluidCapacity s else s

/-- A change of FAN_PUFF_LEVEL (R135). -/
def fanPuffChanged (s : State) : State :=
  if s.smu.state = .regulating ∧ s.smu.puffTimer ≠ .stopped then setFan s.cfg.fanPuffLevel s else s

/-- A change of FAN_BETWEEN_LEVEL or FAN_IDLE_LEVEL (R135): the level the motion view selects is taken. -/
def fanLevelChanged (s : State) : State :=
  if s.smu.state = .regulating ∧ s.smu.puffTimer = .stopped then fanBetween s else s

/-! ## The regulation step (R127) -/

/-- Stage 6: the heater duty (R128). -/
def heaterDuty (target tView gain shed : Nat) : Nat :=
  (clampInt (((target : Int) - tView) * gain) 0 (if shed = 0 then 255 else 127)).toNat

/-- Stages 5 and 6. -/
def regulateHeat (s : State) : State :=
  let s := if s.smu.state = .warming ∧ s.smokeTarget ≤ s.smu.tView + 15 then enterSmoke .regulating s else s
  setHeater (heaterDuty s.smokeTarget s.smu.tView s.cfg.heaterGain s.smu.shedView) s

/-- Stage 4 and the stages after it (R129). -/
def regulateDry (s : State) : State :=
  if s.smu.dryArmed then
    if s.smokeTarget + 40 < s.smu.tView then enterSmoke .dry s else regulateHeat s
  else if s.smu.tView ≤ s.smokeTarget + 15 then regulateHeat (onSmu (fun u => { u with dryArmed := true }) s)
  else regulateHeat s

/-- Stage 2: the debit of the tick just ended (R130). -/
def debitFluid (s : State) : State :=
  let debit := s.smu.heater * s.cfg.fluidRate / 256
  if debit = 0 then s else setFluid (s.smu.fluid - debit) s

/-- One regulation step, with the HEATER_T result of its tick (R127). -/
def regulationStep (result : Nat) (s : State) : State :=
  let s := debitFluid (onSmu (fun u => { u with tView := result }) s)
  if s.smu.state.heats then
    if s.smu.fluid = 0 then enterSmoke .dry s else regulateDry s
  else s

/-- REGULATION_STEP (R127): SMU takes the oldest HEATER_T result handed to it. -/
def execRegulationStep (s : State) : Out :=
  whenReleased (fun s =>
    match s.smu.results with
    | [] => s
    | t :: rest => regulationStep t (onSmu (fun u => { u with results := rest }) s)) s

/-- PUFF_TIMER_EXPIRY (R133). -/
def execPuffTimerExpiry (s : State) : Out :=
  whenReleased (fun s => onExpiry s.smu.puffTimer (fun s => fanBetween (stopPuff s)) s) s

/-! ## The PWM of the heater and the fan -/

/-- HEATER_PWM_PERIOD_START (R128). -/
def execHeaterPwmPeriodStart (s : State) : Out :=
  whenReleased (fun s => onSmu (fun u => { u with heaterPwm := Pwm.atPeriod u.heater (s.heldOff .heater) }) s) s

/-- HEATER_PWM_COMPARE (R128). -/
def execHeaterPwmCompare (s : State) : Out :=
  whenReleased (onSmu fun u => { u with heaterPwm := u.heaterPwm.off }) s

/-- FAN_PWM_PERIOD_START (R134). -/
def execFanPwmPeriodStart (s : State) : Out :=
  whenReleased (fun s => onSmu (fun u => { u with fanPwm := Pwm.atPeriod u.fan (s.heldOff .fan) }) s) s

/-- FAN_PWM_COMPARE (R134). -/
def execFanPwmCompare (s : State) : Out :=
  whenReleased (onSmu fun u => { u with fanPwm := u.fanPwm.off }) s

end Sys2Proof.Machine
end

