-- ==== Sys2Proof/Machine/Sound.lean ====
section
/-! DEFINITION. The Sound Sequencer (chapter 6): voices, bindings, chuffs, motion events, the PLAY request, the mixer, the Clip Memory
Port and the clip header. -/

namespace Sys2Proof.Machine

/-! ## Voices -/

/-- Every start of a voice (R104). -/
def Voice.begin (v : Voice) (clip : Fin 64) (gain : Nat) (owner : Option (Fin 16)) : Voice :=
  { v with state := .start, clip := clip, gain := gain, owner := owner, fetchPos := 0, fetch := .active, buffer := [],
           awaiting := true, queued := none, burst := none }

/-- A jump of position back to the loop (R104, R110). -/
def Voice.jump (v : Voice) (loopStart : Nat) : Voice :=
  { v with state := .loop, fetchPos := loopStart, fetch := .active, buffer := [], awaiting := true, queued := none, burst := none }

/-- A voice silenced by shedding (R119). -/
def Voice.silence (v : Voice) : Voice :=
  { v with state := .silent, owner := none, fetch := .done, buffer := [], awaiting := false, queued := none, burst := none }

/-- A voice enters TAIL at its present position; at the clip length the fetch is DONE at once (R105). -/
def Voice.enterTail (v : Voice) (d : Descriptor) : Voice :=
  { v with state := .tail, fetch := if d.length ≤ v.fetchPos then .done else .active }

/-- A clip has a loop (R99). -/
def Descriptor.loops (d : Descriptor) : Bool := d.loopEnd != 0

/-- The boundary ahead is a loop end, not the clip length (R105). -/
def Voice.boundaryIsLoop (v : Voice) (d : Descriptor) : Bool :=
  match v.state with
  | .start => d.loops && v.owner.isSome
  | .loop => true
  | .tail => false
  | .silent => false

/-- The boundary at which a voice's fetch stops (R105). -/
def Voice.boundary (v : Voice) (d : Descriptor) : Nat := if v.boundaryIsLoop d then d.loopEnd else d.length

/-- A voice is held: its owner's key is on in the KEYS view (R103). -/
def Voice.held (v : Voice) (c : Configuration) (keys : KeySet) : Bool :=
  match v.owner with
  | none => false
  | some b =>
    match c.keyBindings[b].key with
    | none => false
    | some k => keyOn keys k

/-- The decision at a boundary the fetch has reached (R105). -/
def Voice.continuation (v : Voice) (d : Descriptor) (held : Bool) : Voice :=
  if v.boundaryIsLoop d then
    if held then
      if v.queued.isSome then { v with state := .loop, fetch := .paused }
      else { v with state := .loop, fetchPos := d.loopStart }
    else v.enterTail d
  else { v with fetch := .done }

/-- What a voice becomes when it has yielded the last sample of its buffer (R108). -/
def Voice.ranOut (v : Voice) : Voice :=
  match v.fetch with
  | .done => { v with state := .silent, owner := none }
  | .paused =>
    match v.queued with
    | some (clip, gain) => v.begin clip gain none
    | none => v
  | .active => v

/-- What a voice yields at an audio sample: the sample, the voice after it, and whether an underrun is counted (R108). -/
def Voice.sample (v : Voice) : Int × Voice × Bool :=
  if v.state = .silent then (0, v, false)
  else if v.awaiting then (0, v, false)
  else
    match v.buffer with
    | b :: rest =>
      let v' := { v with buffer := rest }
      (b.toInt, if rest.isEmpty then v'.ranOut else v', false)
    | [] =>
      match v.fetch with
      | .active => (0, v, true)
      | .paused => (0, v.ranOut, false)
      | .done => (0, v.ranOut, false)

/-- A voice is eligible for a burst (R106). -/
def Voice.eligible (v : Voice) : Bool :=
  decide (v.state ≠ .silent) && decide (v.fetch = .active) && v.burst.isNone && decide (v.buffer.length ≤ 32)

/-- SSQ with one voice changed. -/
def Ssq.mapVoice (q : Ssq) (i : Fin 6) (f : Voice → Voice) : Ssq := { q with voices := q.voices.set i (f q.voices[i]) }

/-- The descriptor of a voice's clip. -/
def Ssq.descriptorOf (q : Ssq) (v : Voice) : Descriptor := (q.clips[v.clip]).getD ⟨0, 0, 0, 0⟩

/-- Triggers are ignored: sound is unavailable, or the shed stage view is 4 (R101, R119). -/
def Ssq.ignores (q : Ssq) : Bool := q.soundFault || q.shedView == 4

/-- A trigger starts a clip on a voice, where the clip is USABLE (R102, R104). -/
def Ssq.startClip (q : Ssq) (voice : Fin 6) (clip : Fin 64) (gain : Nat) (owner : Option (Fin 16)) : Ssq :=
  if (q.clips[clip]).isSome then q.mapVoice voice (·.begin clip gain owner) else q

/-! ## Function keys -/

/-- An on-edge of a binding's key (R110, R112). -/
def Ssq.onEdge (q : Ssq) (i : Fin 16) (b : KeyBinding) : Ssq :=
  match q.clips[b.clip] with
  | none => q
  | some d =>
    match b.mode with
    | .oneshot => q.startClip b.voice b.clip b.gain none
    | .hold =>
      let v := q.voices[b.voice]
      if v.owner = some i ∧ d.loops then
        if v.state = .tail then q.mapVoice b.voice (·.jump d.loopStart) else q
      else q.startClip b.voice b.clip b.gain (some i)

/-- An off-edge of a binding's key (R111, R112). -/
def Ssq.offEdge (q : Ssq) (i : Fin 16) (b : KeyBinding) : Ssq :=
  match b.mode with
  | .oneshot => q
  | .hold =>
    let v := q.voices[b.voice]
    if v.owner = some i then
      let v' := { v with queued := none }
      q.mapVoice b.voice fun _ => if v.fetch = .paused then v'.enterTail (q.descriptorOf v) else v'
    else q

/-- What one binding does with a KEYS publication (R109). -/
def Ssq.bindingEdge (c : Configuration) (old new : KeySet) (q : Ssq) (i : Fin 16) : Ssq :=
  let b := c.keyBindings[i]
  match b.key with
  | none => q
  | some k =>
    if !keyOn old k && keyOn new k then q.onEdge i b
    else if keyOn old k && !keyOn new k then q.offEdge i b
    else q

/-- The key bindings in ascending number. -/
def allBindings : List (Fin 16) := [0, 1, 2, 3, 4, 5, 6, 7, 8, 9, 10, 11, 12, 13, 14, 15]

/-- SSQ takes a KEYS publication (R109). -/
def Ssq.takeKeys (q : Ssq) (c : Configuration) (new : KeySet) : Ssq :=
  let old := q.keysView
  let q := { q with keysView := new }
  if q.ignores then q else allBindings.foldl (Ssq.bindingEdge c old new) q

/-- A change of a key binding takes the voices it owns from it (R120). -/
def Ssq.disown (q : Ssq) (i : Fin 16) : Ssq :=
  { q with voices := Vector.ofFn fun n =>
      let v := q.voices[n]
      if v.owner = some i then
        let v' := { v with owner := none, queued := none }
        if v.fetch = .paused then v'.enterTail (q.descriptorOf v) else v'
      else v }

/-! ## Beats and motion events -/

/-- The chuff class of an effort, as the entry of CHUFF_CLIPS: LIGHT 0, MEDIUM 1, HEAVY 2, DRIFT 3 (R113). -/
def chuffClass (c : Configuration) (u ff : Nat) : Fin 4 :=
  if u = 0 then 3
  else if (c.heavyThreshold : Int) ≤ u - ff then 2
  else if (u : Int) - ff ≤ -(c.lightThreshold : Int) then 0
  else 1

/-- SSQ takes a beat event (R113). -/
def Ssq.takeBeat (q : Ssq) (c : Configuration) : Ssq :=
  if q.ignores then q
  else
    match c.chuffClips[chuffClass c q.effortU q.effortFF] with
    | none => q
    | some clip => q.startClip 0 clip c.chuffGain none

/-- The motion events that have a binding, in the order of EVENT_BINDINGS (6.1). -/
inductive Trigger where
  | start
  | stop
  | reverse
  | slip
  | squeal
deriving DecidableEq, Repr

/-- A trigger's entry of EVENT_BINDINGS. -/
def Trigger.entry : Trigger → Fin 5
  | .start => 0
  | .stop => 1
  | .reverse => 2
  | .slip => 3
  | .squeal => 4

/-- SSQ takes a motion trigger (R114). -/
def Ssq.takeTrigger (q : Ssq) (c : Configuration) (t : Trigger) : Ssq :=
  if q.ignores then q
  else
    let b := c.eventBindings[t.entry]
    match b.clip with
    | none => q
    | some clip => q.startClip b.voice clip b.gain none

/-- SSQ takes what MOC publishes at the end of a control step, and forms the squeal (R115). -/
def Ssq.takeMotion (q : Ssq) (c : Configuration) (u ff speed : Nat) (fell : Bool) (brake : Nat) : Ssq :=
  let q := { q with effortU := u, effortFF := ff, runSpeed := speed, fell := fell, brakeView := brake }
  if q.squealArmed && fell && decide (8 ≤ brake) && decide (speed < c.squealSpeed) then
    { q with squealArmed := false }.takeTrigger c .squeal
  else if !q.squealArmed && decide (c.squealSpeed < speed) then { q with squealArmed := true }
  else q

/-- SSQ takes a shed-stage publication (R119). -/
def Ssq.takeShed (q : Ssq) (stage : Nat) : Ssq :=
  if stage = 4 ∧ q.shedView < 4 then
    { q with shedView := stage, voices := Vector.ofFn fun n => (q.voices[n]).silence, outputCompare := 512 }
  else { q with shedView := stage }

/-- MOC raises a trigger to SSQ. -/
def raiseTrigger (t : Trigger) (s : State) : State := { s with ssq := s.ssq.takeTrigger s.cfg t }

/-! ## The PLAY request -/

/-- The number of a voice's state in the answer to a PLAY (R116). -/
def Voice.playCode (v : Voice) : Nat :=
  match v.state with
  | .silent => 0
  | .start => 1
  | .loop => if v.owner.isSome then 2 else 4
  | .tail => 3

/-- The clip a clip byte names, where it is USABLE. -/
def Ssq.usableClip (q : Ssq) (clip : Byte) : Option (Fin 64) :=
  if h : clip.toNat < 64 then
    if (q.clips[clip.toNat]).isSome then some ⟨clip.toNat, h⟩ else none
  else none

/-- PLAY (R116, R117). -/
def servePlay (voice clip : Byte) (gain : Word16) (timing : Byte) (s : State) : Answer × State :=
  let q := s.ssq
  if q.soundFault then (refusal .failed, s)
  else if hv : 1 ≤ voice.toNat ∧ voice.toNat ≤ 5 ∧ timing.toNat ≤ 1 then
    let vi : Fin 6 := ⟨voice.toNat, by omega⟩
    match q.usableClip clip with
    | none => (refusal .badValue, s)
    | some cl =>
      if q.shedView = 4 then (refusal .power, s)
      else
        let g := clampTop gain.toNat 255
        let v := q.voices[vi]
        let answer := doneWith (clampFlags gain.toNat 255) (be1 v.playCode)
        if timing.toNat = 1 ∧ v.state = .loop ∧ v.owner.isSome then
          (answer, { s with ssq := q.mapVoice vi fun v => { v with queued := some (cl, g) } })
        else (answer, { s with ssq := q.mapVoice vi (·.begin cl g none) })
  else (refusal .badValue, s)

/-! ## The audio sample -/

/-- The voices in order. -/
def allVoices : List (Fin 6) := [0, 1, 2, 3, 4, 5]

/-- The sum of the yielded samples times their gains (R118). -/
def mixSum (voices : Vector Voice 6) : Int :=
  (allVoices.map fun i => (voices[i]).sample.1 * ((voices[i]).gain : Int)).sum

/-- The scaled value of the mix, before the clamp (R118). -/
def mixScaled (acc : Int) (volume : Nat) : Int := floorDiv (acc * volume) 16384

/-- The underruns of one audio sample. -/
def underrunsOf (voices : Vector Voice 6) : Nat := (allVoices.filter fun i => (voices[i]).sample.2.2).length

/-- The voices as the Clip Memory Port looks at them, beginning after the last served (R106). -/
def servingOrder (last : Fin 6) : List (Fin 6) := [last + 1, last + 2, last + 3, last + 4, last + 5, last]

/-- The bytes the port sends as a read transfer begins: the read command 0x03 and the address, high byte first (R100). -/
def Transfer.command : Transfer → List Byte
  | .header => 0x03 :: be3 0
  | .burst _ address _ => 0x03 :: be3 address

/-- The port starts a burst for the next eligible voice (R106). A transfer still in progress keeps the port. -/
def Ssq.startBurst (q : Ssq) : Ssq :=
  if q.transfer.isSome then q
  else
    match (servingOrder q.lastServed).find? fun i => (q.voices[i]).eligible with
    | none => q
    | some i =>
      let v := q.voices[i]
      let d := q.descriptorOf v
      let n := min 32 (v.boundary d - v.fetchPos)
      { q.mapVoice i (fun v => { v with burst := some n }) with
          lastServed := i, transfer := some (.burst i (d.start + v.fetchPos) n) }

/-- The three stages of one audio sample (R108, R118); at shed stage 4 nothing runs (R119). A queued clip that starts in the
first stage is eligible for the burst of the third (log entry 44). -/
def Ssq.audioSample (q : Ssq) : Ssq :=
  if q.shedView = 4 then q
  else
    let y := mixScaled (mixSum q.voices) q.volumeView
    let clipped := y < -512 ∨ 511 < y
    let q' := { q with
      voices := Vector.ofFn fun n => (q.voices[n]).sample.2.1
      underruns := min (q.underruns + underrunsOf q.voices) 65535
      soundClips := if clipped then countUp q.soundClips 65535 else q.soundClips
      outputCompare := (clampInt y (-512) 511 + 512).toNat }
    q'.startBurst

/-- SSQ hands its counters to RCU (R108). -/
def publishSound (s : State) : State :=
  publish (fun v => { v with soundClips := s.ssq.soundClips, soundUnderruns := s.ssq.underruns }) s

/-- AUDIO_SAMPLE (R108). -/
def execAudioSample (s : State) : Out :=
  whenReleased (fun s =>
    onExpiry s.ssq.sampleTimer (fun s =>
      publishSound { s with ssq := { s.ssq.audioSample with sampleTimer := s.ssq.sampleTimer.again Config.samplePeriod } }) s) s

/-- `n` bytes clocked in from the flash; one that is not there reads as all ones (R101). -/
def clockedIn (bytes : List Byte) (n : Nat) : List Byte := (List.range n).map fun i => bytes.getD i 0xFF

/-- A burst's transfer ends (R107). -/
def Ssq.burstLands (q : Ssq) (c : Configuration) (samples : List Byte) : Ssq :=
  match q.transfer with
  | none => q
  | some .header => q
  | some (.burst i _ _) =>
    let q := { q with transfer := none }
    let v := q.voices[i]
    match v.burst with
    | none => q
    | some n =>
      let v := { v with buffer := v.buffer ++ clockedIn samples n, fetchPos := v.fetchPos + n, burst := none, awaiting := false }
      let d := q.descriptorOf v
      q.mapVoice i fun _ =>
        if v.boundary d ≤ v.fetchPos then v.continuation d (v.held c q.keysView) else v

/-- BURST_LANDS (R107). -/
def execBurstLands (samples : List Byte) (s : State) : Out :=
  whenReleased (fun s => { s with ssq := s.ssq.burstLands s.cfg samples }) s

/-! ## The clip header -/

/-- The fixed signature (R190). -/
def clipSignature : List Byte := [0x53, 0x43, 0x4C, 0x50]

/-- A descriptor's twelve bytes (R99, R190). -/
def descriptorAt (bytes : List Byte) (i : Nat) : Descriptor :=
  let field (k : Nat) := beNat (clockedIn (bytes.drop (5 + 12 * i + 3 * k)) 3)
  ⟨field 0, field 1, field 2, field 3⟩

/-- A descriptor is valid (R102). -/
def Descriptor.valid (d : Descriptor) (flashSize : Nat) : Bool :=
  decide (1 ≤ d.length) && decide (d.start + d.length ≤ 65536 * flashSize)
    && (decide (d.loopEnd = 0) || (decide (d.loopStart < d.loopEnd) && decide (d.loopEnd ≤ d.length)))

/-- The clip count of a header. -/
def clipCount (bytes : List Byte) : Nat := (bytes.getD 4 0xFF).toNat

/-- The header is good (R101). -/
def headerGood (bytes : List Byte) : Bool :=
  let n := clipCount bytes
  decide (clockedIn bytes 4 = clipSignature) && decide (1 ≤ n ∧ n ≤ 64)
    && decide ((crc16 (clockedIn bytes (5 + 12 * n))).toNat = beNat (clockedIn (bytes.drop (5 + 12 * n)) 2))

/-- The clip table a good header gives (R102). -/
def clipTableOf (bytes : List Byte) (flashSize : Nat) : Vector (Option Descriptor) 64 :=
  Vector.ofFn fun i =>
    let d := descriptorAt bytes i.val
    if i.val < clipCount bytes ∧ d.valid flashSize then some d else none

/-- SSQ takes the header, and its read transfer is over (R100, R101, R102). -/
def Ssq.takeHeader (q : Ssq) (c : Configuration) (bytes : List Byte) : Ssq :=
  let q := { q with transfer := none }
  if headerGood bytes then { q with clips := clipTableOf bytes c.flashSize, soundFault := false }
  else { q with clips := Vector.replicate 64 none, soundFault := true }

/-- CLIP_HEADER_READ (R101): during LOAD, once, after the working configuration is loaded; SSQ reports to PWS (R157). -/
def execClipHeaderRead (bytes : List Byte) (s : State) : Out :=
  whenReleased (fun s =>
    if s.pws.powerState = .load ∧ s.pws.storeReport.isSome ∧ s.pws.soundReport.isNone then
      let q := s.ssq.takeHeader s.cfg bytes
      { s with ssq := q, pws := { s.pws with soundReport := some (!q.soundFault) } }
    else s) s

end Sys2Proof.Machine
end

