-- ==== Sys2Proof/Machine/Beats.lean ====
section
/-! DEFINITION. The Beat Generator (chapter 5). -/

namespace Sys2Proof.Machine

/-- BTG with its own state changed. -/
def onBtg (f : Btg → Btg) (s : State) : State := { s with btg := f s.btg }

/-- Q, the accumulator value that makes one beat (5.1). -/
def beatInterval (b : Nat) : Nat := 65536 / b

/-- Sensor mode (R91). -/
def State.sensorMode (s : State) : Bool := decide (s.cfg.beatSource = .sensor)

/-- The source truck in back-EMF mode (R91). -/
def sourceTruck (src : BeatSource) (heldF heldR : Bool) : Truck :=
  match src with
  | .rear => if heldR && !heldF then .front else if heldR && heldF then .front else .rear
  | _ => if heldF && !heldR then .rear else .front

/-- The increment of B for one gap sample (R92). -/
def beatIncrement (emf scale : Nat) : Nat := emf * scale / 256

/-- BTG hands RCU both counters, as one publication (R95). -/
def publishBeats (s : State) : State :=
  publish (fun v => { v with beatCount := s.btg.beatCount, odometer := s.btg.odometer }) s

/-- BTG's counters after one beat (R95). -/
def Btg.countBeat (b : Btg) : Btg :=
  let c := (b.beatIndex + 1) % beatsOf b.beatsInUse
  { b with beatCount := b.beatCount + 1, beatIndex := c, odometer := if c = 0 then b.odometer + 1 else b.odometer }

/-- One beat (R95): the counters, their publication, and the beat event to SSQ, SMU and LTC. -/
def emitBeat (s : State) : State :=
  let s := publishBeats (onBtg (·.countBeat) s)
  let s := { s with ssq := s.ssq.takeBeat s.cfg }
  lightsTakeBeat (smokeTakeBeat s)

/-- A change of BEATS_PER_REV is taken before the sample's accumulation (R97). -/
def Btg.takeBeatsPerRev (b : Btg) (i : Fin 4) : Btg :=
  if i = b.beatsInUse then b else { b with beatsInUse := i, accumulator := 0, beatIndex := 0 }

/-- BTG takes one gap sample (R92, R94, R97). -/
def beatSample (g : GapSample) (s : State) : State :=
  let s := onBtg (·.takeBeatsPerRev s.cfg.beatsPerRev) s
  if s.sensorMode then
    if s.btg.pendingFlag then emitBeat (onBtg (fun b => { b with pendingFlag := false }) s) else s
  else
    let emf :=
      match sourceTruck s.cfg.beatSource s.btg.heldF s.btg.heldR with
      | .front => g.emfF
      | .rear => g.emfR
    let q := beatInterval (beatsOf s.btg.beatsInUse)
    let sum := s.btg.accumulator + beatIncrement emf s.cfg.wheelScale
    if q ≤ sum then emitBeat (onBtg (fun b => { b with accumulator := sum - q }) s)
    else onBtg (fun b => { b with accumulator := sum }) s

/-- BEAT_SAMPLE (R92): BTG takes the oldest gap sample published to it. -/
def execBeatSample (s : State) : Out :=
  whenReleased (fun s =>
    match s.btg.samples with
    | [] => s
    | g :: rest => beatSample g (onBtg (fun b => { b with samples := rest }) s)) s

/-- An edge at a time is accepted (R93). -/
def Btg.accepts (b : Btg) (now : Time) : Bool :=
  match b.lastEdge with
  | none => true
  | some t => decide (t + Config.sensorDebounce ≤ now)

/-- SENSOR_EDGE (R93). -/
def execSensorEdge (s : State) : Out :=
  whenReleased (fun s =>
    if s.btg.watching && s.sensorMode && s.btg.accepts s.now then
      onBtg (fun b => { b with pendingFlag := true, lastEdge := some s.now }) s
    else s) s

/-- BTG takes the fault state of a truck into its hold-off view (R91). -/
def beatsTakeFault (t : Truck) (st : FaultState) (s : State) : State :=
  onBtg (fun b =>
    match t with
    | .front => { b with heldF := st.holdsOff }
    | .rear => { b with heldR := st.holdsOff }) s

/-- A change of BEAT_SOURCE into or out of SENSOR (R97). -/
def beatSourceChanged (old : BeatSource) (s : State) : State :=
  if old ≠ .sensor ∧ s.sensorMode then
    onBtg (fun b => { b with pendingFlag := false, lastEdge := none, accumulator := 0 }) s
  else if old = .sensor ∧ !s.sensorMode then onBtg (fun b => { b with pendingFlag := false, accumulator := 0 }) s
  else s

end Sys2Proof.Machine
end

