-- ==== Sys2Proof/Machine/Bridges.lean ====
section
/-! DEFINITION. The motor bridges (4.2 to 4.4): the PWM counter, compare values, modes, dead intervals, hold-offs, and the opening and
closing of a gap. -/

namespace Sys2Proof.Machine

/-- The bridge of a truck. -/
def Bmu.bridge (m : Bmu) : Truck → Bridge
  | .front => m.front
  | .rear => m.rear

/-- BMU with the bridge of a truck replaced. -/
def Bmu.setBridge (m : Bmu) (t : Truck) (b : Bridge) : Bmu :=
  match t with
  | .front => { m with front := b }
  | .rear => { m with rear := b }

/-- The part with the bridge of a truck replaced. -/
def setBridge (t : Truck) (b : Bridge) (s : State) : State := { s with bmu := s.bmu.setBridge t b }

/-- The PWM counter: 0 while the schedule is STOPPED, and the counts since the period start while it runs (R73). -/
def State.pwmCounter (s : State) : Nat :=
  if s.bmu.running then min (s.now - s.bmu.periodStart) (s.bmu.modulus.counts - 1) else 0

/-- The compare value of a duty at a modulus (R74). -/
def compareValue (duty : Nat) (m : Modulus) : Nat := duty * m.counts / 1024

/-! ## Legs (4.3, R76) -/

/-- A leg turned toward a switch: at once, or after a dead interval when its partner was on (R76). From a leg that is off it is at once,
however short the leg has been off, and a leg in its dead interval keeps the interval's end under its new switch (log entry 36). -/
def LegState.toward (l : LegState) (side : Side) (now : Time) : LegState :=
  match l with
  | .off => .on side
  | .on old => if old = side then .on side else .dead side (now + Config.deadInterval)
  | .dead _ due => .dead side due

/-- A leg kept off for a dead interval before a switch turns on. -/
def LegState.after (side : Side) (now : Time) : LegState := .dead side (now + Config.deadInterval)

/-- Whether a switch of a leg is on. -/
def LegState.isOn : LegState → Bool
  | .on _ => true
  | _ => false

/-- The switches of legs A and B while a bridge drives (4.3). -/
def driveSides : Direction → Side × Side
  | .forward => (.high, .low)
  | .reverse => (.low, .high)

/-- Whether a switch of the bridge is on (R90). -/
def Bridge.anyOn (b : Bridge) : Bool := b.legA.isOn || b.legB.isOn

/-- Whether the drive of the present period has not ended: a switch is on, or a dead interval will turn one on. -/
def Bridge.driveOpen (b : Bridge) : Bool := decide (b.output = .driving) && (decide (b.legA ≠ .off) || decide (b.legB ≠ .off))

/-- A bridge whose switches are all off; a dead interval under way ends with it (log entry 36). -/
def Bridge.allOff (b : Bridge) : Bridge := { b with legA := .off, legB := .off, drivenSince := none }

/-- A bridge whose low-side switches are turned on (BRAKING). -/
def Bridge.brake (b : Bridge) (now : Time) : Bridge :=
  { b with output := .braking, legA := b.legA.toward .low now, legB := b.legB.toward .low now, drivenSince := none }

/-- A bridge whose drive begins (DRIVING): each leg toward its switch, and the drive counted from when both are on. A compare value
of 0 gives no drive. -/
def Bridge.drive (b : Bridge) (polarity : Direction) (now : Time) : Bridge :=
  let b := { b with output := .driving }
  if b.compare = 0 then b.allOff
  else
    let a := b.legA.toward (driveSides polarity).1 now
    let z := b.legB.toward (driveSides polarity).2 now
    { b with legA := a, legB := z, drivenSince := if a.isOn && z.isOn then some now else none }

/-! ## The current accumulators (R80) -/

/-- A drive that ends at a time, with the charge it carried, joins the accumulators; one of no counts carried none. -/
def Bridge.accumulate (b : Bridge) (since finish charge : Nat) : Bridge :=
  { b with charge := if since < finish then b.charge + charge else b.charge
           driveCounts := b.driveCounts + (finish - since), drivenSince := none }

/-- A drive cut short by something other than its compare match: its counts are known, and its charge is the free value
`Config.cutCharge` (log entry 7), but for a drive of no counts, whose sum is 0 (R80). -/
def cutDrive (t : Truck) (s : State) : State :=
  let b := s.bmu.bridge t
  match b.drivenSince with
  | none => s
  | some since =>
    let finish := min s.now (s.bmu.periodStart + b.compare)
    if since < finish then
      { setBridge t (b.accumulate since finish (Config.cutCharge s.freeIndex)) s with freeIndex := s.freeIndex + 1 }
    else setBridge t { b with drivenSince := none } s

/-- The mean current of a truck since the last gap, in 2 mA units (R80). -/
def Bridge.meanCurrent (b : Bridge) : Nat := if b.driveCounts = 0 then 0 else min (b.charge / b.driveCounts) 8191

/-! ## What takes a bridge out of its schedule at once -/

/-- The gap keeps both bridges off (R75). -/
def GapState.keepsOff : GapState → Bool
  | .settling => true
  | .converting => true
  | .resuming => true
  | _ => false

/-- A bridge switched OFF at once. -/
def switchOff (t : Truck) (s : State) : State :=
  let s := cutDrive t s
  setBridge t { (s.bmu.bridge t).allOff with output := .off } s

/-- ODU switches a truck's output off: the hold-off is held and the bridge is OFF at once (R77). -/
def holdBridge (t : Truck) (s : State) : State :=
  let s := switchOff t s
  setBridge t { s.bmu.bridge t with heldOff := true } s

/-- ODU releases a truck's output: the bridge follows its shadows from the next period start (R77). -/
def releaseBridge (t : Truck) (s : State) : State := setBridge t { s.bmu.bridge t with heldOff := false } s

/-- MOC hands a bridge a mode: COAST and SHORT_BRAKE act at once, but for a gap or a hold-off (R76, R82). A SHORT_BRAKE handed after a
release brakes within the period of the release (log entry 35). -/
def handMode (t : Truck) (mode : BridgeMode) (s : State) : State :=
  let s := setBridge t { s.bmu.bridge t with modeShadow := mode } s
  let b := s.bmu.bridge t
  if !s.bmu.running || b.heldOff || s.bmu.gap.keepsOff then s
  else
    match mode with
    | .drive => s
    | .coast => switchOff t s
    | .shortBrake =>
      if b.output = .braking then s
      else
        let s := cutDrive t s
        setBridge t ((s.bmu.bridge t).brake s.now) s

/-- MOC hands a bridge a duty, placed in its shadow (R74). -/
def handDuty (t : Truck) (duty : Nat) (s : State) : State := setBridge t { s.bmu.bridge t with dutyShadow := duty } s

/-- MOC hands BMU the run direction (R75). -/
def handPolarity (d : Direction) (s : State) : State := { s with bmu := { s.bmu with polarityShadow := d } }

/-! ## The period start (R73, R75, R78, R81) -/

/-- What a bridge does from a period start on (R75); `resumes` tells that a gap closes at it. A bridge that was BRAKING when the gap
opened returns to BRAKING with the dead interval (R78). -/
def Bridge.chooseOutput (b : Bridge) (gap : GapState) (polarity : Direction) (resumes : Bool) (now : Time) : Bridge :=
  if b.heldOff || gap.keepsOff then { b.allOff with output := .off }
  else
    match b.modeShadow with
    | .coast => { b.allOff with output := .off }
    | .shortBrake =>
      if resumes && b.brakedAtGap then
        { b with output := .braking, legA := .after .low now, legB := .after .low now, drivenSince := none, brakedAtGap := false }
      else b.brake now
    | .drive => b.drive polarity now

/-- A bridge at a period start: its compare value, then its output. -/
def Bridge.atPeriod (b : Bridge) (modulus : Modulus) (gap : GapState) (polarity : Direction) (opens resumes : Bool) (now : Time) :
    Bridge :=
  let b := { b with compare := compareValue b.dutyShadow modulus
                    brakedAtGap := if opens then decide (b.output = BridgeOutput.braking) else b.brakedAtGap }
  b.chooseOutput gap polarity resumes now

/-- The gap state after a period start: a requested gap opens, and a gap whose sample is published closes (R78, R81). -/
def GapState.atPeriod : GapState → GapState
  | .requested => .settling
  | .resuming => .closed
  | g => g

/-- A period start (R73): the modulus, the gap, then each bridge. -/
def periodStart (s : State) : State :=
  let s := cutDrive .rear (cutDrive .front s)
  let m := s.bmu
  let modulus := s.cfg.pwmModulus
  let gap := m.gap.atPeriod
  let opens := decide (m.gap = .requested)
  let resumes := decide (m.gap = .resuming)
  { s with bmu := { m with
      periodStart := s.now
      modulus := modulus
      gap := gap
      settleTimer := if opens then s.timer (Config.us (50 * s.cfg.gapSettle)) else m.settleTimer
      front := m.front.atPeriod modulus gap m.polarityShadow opens resumes s.now
      rear := m.rear.atPeriod modulus gap m.polarityShadow opens resumes s.now } }

/-- PWM_PERIOD_START (R73). -/
def execPwmPeriodStart (s : State) : Out :=
  whenReleased (fun s =>
    if s.bmu.running then periodStart (s.reach (s.bmu.periodStart + s.bmu.modulus.counts)) else s) s

/-- PWM_COMPARE_MATCH (R74): a driving bridge turns off for the rest of the period, and the drive joins the accumulators (R80). -/
def execPwmCompareMatch (t : Truck) (charge : Nat) (s : State) : Out :=
  whenReleased (fun s =>
    let b := s.bmu.bridge t
    if s.bmu.running && b.driveOpen then
      let s := s.reach (s.bmu.periodStart + b.compare)
      let finish := s.bmu.periodStart + b.compare
      let b :=
        match b.drivenSince with
        | none => b
        | some since => b.accumulate since finish charge
      setBridge t b.allOff s
    else s) s

/-- The leg of a bridge. -/
def Bridge.leg (b : Bridge) : Leg → LegState
  | .a => b.legA
  | .b => b.legB

/-- A bridge with a leg replaced. -/
def Bridge.setLeg (b : Bridge) (l : Leg) (x : LegState) : Bridge :=
  match l with
  | .a => { b with legA := x }
  | .b => { b with legB := x }

/-- A leg whose dead interval has ended: its switch turns on, unless the bridge is DRIVING and the counter has reached the compare
value (R76). -/
def Bridge.endDead (b : Bridge) (l : Leg) (side : Side) (counter : Nat) (now : Time) : Bridge :=
  match b.output with
  | .off => b.setLeg l .off
  | .braking => b.setLeg l (.on side)
  | .driving =>
    if b.compare ≤ counter then b.allOff
    else
      let b := b.setLeg l (.on side)
      { b with drivenSince := if b.legA.isOn && b.legB.isOn then some now else none }

/-- DEAD_INTERVAL_END (R76). -/
def execDeadIntervalEnd (t : Truck) (l : Leg) (s : State) : Out :=
  whenReleased (fun s =>
    match (s.bmu.bridge t).leg l with
    | .dead side due =>
      let s := s.reach due
      setBridge t ((s.bmu.bridge t).endDead l side s.pwmCounter s.now) s
    | .off => s
    | .on _ => s) s

end Sys2Proof.Machine
end

