-- ==== Sys2Proof/Machine/Motion.lean ====
section
/-! DEFINITION. The Motion Controller (chapter 3): what it takes from other blocks at once, and the nine stages of its control
step. -/

namespace Sys2Proof.Machine

/-- MOC with its own state changed. -/
def onMoc (f : Moc → Moc) (s : State) : State := { s with moc := f s.moc }

/-- What MOC holds for a truck. -/
def Moc.truck (m : Moc) : Truck → TruckControl
  | .front => m.front
  | .rear => m.rear

/-- MOC with what it holds for a truck changed. -/
def Moc.mapTruck (m : Moc) (t : Truck) (f : TruckControl → TruckControl) : Moc :=
  match t with
  | .front => { m with front := f m.front }
  | .rear => { m with rear := f m.rear }

/-- MOC with what it holds for both trucks changed. -/
def Moc.mapTrucks (m : Moc) (f : Truck → TruckControl → TruckControl) : Moc :=
  { m with front := f .front m.front, rear := f .rear m.rear }

/-- The other truck. -/
def otherTruck : Truck → Truck
  | .front => .rear
  | .rear => .front

/-- ODU holds a truck's output off, as MOC last took it. -/
def Moc.held (m : Moc) (t : Truck) : Bool := (m.truck t).faultView.holdsOff

/-! ## Target speed (R50) -/

/-- V, the target speed of a notch under a speed curve (R50). -/
def speedTarget (curve : Vector Nat 17) (n : Nat) : Nat :=
  if n = 0 then 0
  else
    let low := entryOf curve (n / 16)
    let high := entryOf curve (n / 16 + 1)
    ((low : Int) + floorDiv (((high : Int) - (low : Int)) * ((n % 16 : Nat) : Int)) 16).toNat

/-- V of the notch MOC holds, under the curve of the last control step: a change of SPEED_CURVE is used from the next one (R50). -/
def State.notchSpeed (s : State) : Nat := speedTarget s.moc.curve s.moc.notch

/-- P*, the target ramp value (R50). -/
def State.rampTarget (s : State) : Nat := if s.moc.reversalPending then 0 else 16 * s.notchSpeed

/-- MOC is in EMERGENCY or in SUSPENDED. -/
def Moc.stands (m : Moc) : Bool := decide (m.motionState = .emergency) || decide (m.motionState = .suspended)

/-- The beat-source truck, by the beat source of the last control step: a change applies from the next one (R63). -/
def Moc.beatTruck (m : Moc) : Truck :=
  let t : Truck :=
    match m.beatSource with
    | .front => .front
    | .rear => .rear
    | .sensor => .front
  if m.held t then
    if m.held (otherTruck t) then .front else otherTruck t
  else t

/-! ## The motion state (R58) -/

/-- The motion state that holds (R58). -/
def State.motionStateNow (s : State) : MotionState :=
  if s.moc.shedView = 4 then .suspended
  else if s.moc.emergencyLatch then .emergency
  else if s.moc.reversalPending then .reversing
  else if 0 < s.moc.ramp ∨ 0 < 16 * s.notchSpeed then .driving
  else .idle

/-- MOC evaluates its state; a change is published and noticed (R58). -/
def evaluateMotion (s : State) : State :=
  let m := s.motionStateNow
  if m = s.moc.motionState then s
  else
    let s := publish (fun v => { v with motionState := m }) (onMoc (fun x => { x with motionState := m }) s)
    pushNotice (.motionState m) (smokeTakeMotion m s)

/-! ## The flip of RUN_DIRECTION (R57) -/

/-- Both integrators are set to 0. -/
def zeroIntegrators (s : State) : State := onMoc (·.mapTrucks fun _ x => { x with integral := 0 }) s

/-- RUN_DIRECTION takes the DIRECTION view; no reversal is pending after it (R57). -/
def flipDirection (s : State) : State :=
  let d := s.moc.directionView
  let s := zeroIntegrators (onMoc (fun m => { m with runDirection := d, reversalPending := false }) s)
  let s := publish (fun v => { v with runDirection := d }) s
  let s := lightsTakeMotion s.ltc.runSpeed d (handPolarity d s)
  raiseTrigger .reverse s

/-- A pending reversal is completed (R57). -/
def completeReversal (s : State) : State := if s.moc.reversalPending then flipDirection s else s

/-! ## The end of a slip (R68) -/

/-- SLIP_STATE is GRIP from here on; the end of a slip is noticed and published (R68). -/
def endSlip (s : State) : State :=
  match s.moc.slipState with
  | .grip => onMoc (fun m => { m with slipCount := 0 }) s
  | .slip t =>
    let s := onMoc (fun m => { m with slipState := .grip, slipCount := 0, slipCap := 1023 }) s
    pushNotice (.slip true t) (publish (fun v => { v with slipState := .grip }) s)

/-! ## Bridge modes (R69) -/

/-- The mode of a bridge (R69). -/
def Moc.mode (m : Moc) (t : Truck) : BridgeMode :=
  if m.held t then .coast
  else if m.motionState = .suspended then .coast
  else if m.motionState = .emergency then .shortBrake
  else if m.coastHold then .coast
  else .drive

/-- MOC hands a bridge a duty and its mode (R69), and ODU the same duty (R172). -/
def handDrive (t : Truck) (duty : Nat) (s : State) : State :=
  takeCommand (.truck t) duty (handMode t (s.moc.mode t) (handDuty t duty s))

/-- Both bridges are handed duty 0 and their modes, between two control steps (R60, R62). -/
def handIdle (s : State) : State := handDrive .rear 0 (handDrive .front 0 s)

/-! ## Publications of RCU -/

/-- MOC takes an accepted drive write of TARGET_NOTCH (R49, R60); a write that changed TARGET_NOTCH ends a BRAKE loss action
(R52). -/
def motionTakeDriveWrite (n : Nat) (changed : Bool) (s : State) : State :=
  let latched := s.moc.emergencyLatch
  let s := onMoc (fun m => { m with notch := n, lossBrake := !changed && m.lossBrake, emergencyLatch := false }) s
  if latched then handIdle (evaluateMotion s) else s

/-- MOC takes the TARGET_NOTCH publication of a RELEASE with STOP (R18, R49, R52). -/
def motionTakeStop (s : State) : State := onMoc (fun m => { m with notch := 0, lossBrake := false }) s

/-- MOC takes a BRAKE publication (R49, R52). -/
def motionTakeBrake (n : Nat) (s : State) : State := onMoc (fun m => { m with brakeView := n, lossBrake := false }) s

/-- MOC takes a DIRECTION publication (R54, R56, R57). -/
def motionTakeDirection (d : Direction) (s : State) : State :=
  let s := onMoc (fun m => { m with directionView := d, lossBrake := false }) s
  if s.moc.motionState = .suspended then s
  else if s.moc.ramp = 0 then
    if d = s.moc.runDirection then s else flipDirection s
  else if s.moc.motionState = .emergency then s
  else if d = s.moc.runDirection then
    if s.moc.reversalPending then evaluateMotion (onMoc (fun m => { m with reversalPending := false }) s) else s
  else evaluateMotion (onMoc (fun m => { m with reversalPending := true }) s)

/-- MOC takes a HALT_NOW (R59). The integrators, which EMERGENCY holds at 0, are set to 0 with it (log entry 15). -/
def motionHalt (s : State) : State :=
  let s := onMoc (fun m => { m with notch := 0, emergencyLatch := true, ramp := 0 }) s
  let s := if s.moc.shedView = 4 then s else completeReversal s
  let s := zeroIntegrators (onMoc (fun m => { m with lossBrake := false, coastHold := false }) s)
  let s := endSlip s
  let s := if s.moc.shedView = 4 then s else handMode .rear .shortBrake (handMode .front .shortBrake s)
  evaluateMotion s

/-- MOC takes a COAST loss action (R53). A MOTION_STATE notice of the reversal it completes stands before the SLIP end (log entry 18).
The integrators stay until the next control step (log entry 42). -/
def motionCoast (s : State) : State :=
  let pending := s.moc.reversalPending && decide (s.moc.motionState ≠ .suspended)
  let s := onMoc (fun m => { m with ramp := 0, lossBrake := false, coastHold := true }) s
  let s := if pending then evaluateMotion (completeReversal s) else s
  let s := endSlip s
  if s.moc.motionState = .emergency then s else handMode .rear .coast (handMode .front .coast s)

/-- MOC takes the loss action of a lease expiry, with N = 0 (R52, R53). -/
def motionTakeLoss (a : LossAction) (s : State) : State :=
  let s := onMoc (fun m => { m with notch := 0 }) s
  match a with
  | .ramp => s
  | .brake => onMoc (fun m => { m with lossBrake := true }) s
  | .coast => motionCoast s

/-! ## Publications of PWS, ODU and CFS -/

/-- Suspension (R61). -/
def suspendMotion (s : State) : State :=
  let s := evaluateMotion (zeroIntegrators (onMoc (fun m => { m with shedView := 4, ramp := 0, lossBrake := false }) s))
  endSlip (handMode .rear .coast (handMode .front .coast s))

/-- The seed of P at the end of suspension (R62). -/
def State.rampSeed (s : State) : Nat :=
  if s.moc.emergencyLatch then s.moc.ramp
  else min (16 * (s.moc.truck s.moc.beatTruck).emf) (16 * s.notchSpeed)

/-- The end of suspension (R62). A reversal that was pending, and whose direction was written back meanwhile, is no longer under way
(log entry 16). -/
def resumeMotion (stage : Nat) (s : State) : State :=
  let s := onMoc (fun m => { m with shedView := stage, ramp := s.rampSeed }) s
  let s :=
    if s.moc.directionView = s.moc.runDirection then onMoc (fun m => { m with reversalPending := false }) s
    else if 0 < s.moc.ramp then onMoc (fun m => { m with reversalPending := true }) s
    else flipDirection s
  handIdle (evaluateMotion s)

/-- MOC takes a shed-stage publication (R61, R62); one that neither starts nor ends suspension evaluates the state (R58). -/
def motionTakeShed (stage : Nat) (s : State) : State :=
  if s.moc.shedView = 4 then
    if stage = 4 then s else resumeMotion stage s
  else if stage = 4 then suspendMotion s
  else evaluateMotion (onMoc (fun m => { m with shedView := stage }) s)

/-- MOC takes the power state. -/
def motionTakePower (p : PowerState) (s : State) : State := onMoc (fun m => { m with powerView := p }) s

/-- A truck's regulator after a fault state of its output: one that returns to OK starts from J = 0 (R65). -/
def TruckControl.takeFault (x : TruckControl) (st : FaultState) : TruckControl :=
  { x with faultView := st, integral := if x.faultView.holdsOff && !st.holdsOff then 0 else x.integral }

/-- MOC takes the fault state of a truck; one that is held off ends a slip (R68). -/
def motionTakeFault (t : Truck) (st : FaultState) (s : State) : State :=
  let s := onMoc (·.mapTruck t (·.takeFault st)) s
  if st.holdsOff then endSlip s else s

/-! ## The control step (R48) -/

/-- What the step takes from the working configuration first: the speed curve (R50) and the beat source (R63). -/
def motionTakeSettings (s : State) : State :=
  onMoc (fun m => { m with curve := s.cfg.speedCurve, beatSource := s.cfg.beatSource }) s

/-- Stage 1: the sample. -/
def stageSample (g : GapSample) (s : State) : State :=
  onMoc (fun m => { m with front := { m.front with emf := g.emfF, current := g.currentF },
                           rear := { m.rear with emf := g.emfR, current := g.currentR } }) s

/-- The fall of P in one step under the brake (R51). -/
def brakedDecel (d brake : Nat) : Nat := if brake = 0 then d else min 255 (d + 16 * brake)

/-- P moved toward P* (R51). -/
def moveRamp (p target accel decel brake : Nat) (lossBrake : Bool) : Nat :=
  if p < target then
    if accel = 0 then target else min (p + accel) target
  else if target < p then
    if lossBrake then max (p - 255) target
    else if decel = 0 then target
    else max (p - brakedDecel decel brake) target
  else p

/-- Stages 2 and 3: target and momentum (R50, R51, R53, R55, R70). A coast-hold marker is cleared by the first step that leaves P above 0,
also where the end of suspension seeded P (log entry 34); a loss-brake marker by the first that leaves P at 0, also where P was 0 before it,
but by none in EMERGENCY or SUSPENDED (log entry 40). -/
def stageMomentum (s : State) : State :=
  if s.moc.stands then onMoc (fun m => { m with ramp := 0, fell := false }) s
  else
    let p := s.moc.ramp
    let q := moveRamp p s.rampTarget s.cfg.accel s.cfg.decel s.moc.brakeView s.moc.lossBrake
    let s := onMoc (fun m => { m with
      ramp := q, fell := decide (q < p)
      coastHold := m.coastHold && decide (q = 0)
      lossBrake := m.lossBrake && decide (q ≠ 0) }) s
    if p = 0 ∧ 0 < q then raiseTrigger .start s
    else if 0 < p ∧ q = 0 then completeReversal (raiseTrigger .stop s)
    else s

/-- FF, the feedforward (R64). -/
def feedforwardOf (pint kff : Nat) : Nat := pint * kff / 4096

/-- The candidate integrator I' (R64). -/
def candidateIntegral (j e : Int) (ki : Nat) : Int := clampInt (j + e * ki) (-4194304) 4194303

/-- The output that an integrator gives, before its clamp (R64). -/
def rawOutput (ff : Nat) (e : Int) (kp : Nat) (j : Int) : Int := ff + floorDiv (e * kp) 64 + floorDiv j 4096

/-- One truck's regulator: the integrator and the output u (R64). -/
def regulate (c : Configuration) (pint ff emf : Nat) (j : Int) : Int × Nat :=
  let e : Int := (pint : Int) - emf
  let i := candidateIntegral j e c.ki
  let u := rawOutput ff e c.kp i
  if (1023 < u ∧ 0 < e) ∨ (u < 0 ∧ e < 0) then (j, (clampInt (rawOutput ff e c.kp j) 0 1023).toNat)
  else (i, (clampInt u 0 1023).toNat)

/-- A truck after its regulator (R64, R65). -/
def TruckControl.regulated (x : TruckControl) (c : Configuration) (pint ff : Nat) (stands : Bool) : TruckControl :=
  if pint = 0 ∨ stands ∨ x.faultView.holdsOff then { x with integral := 0, output := 0 }
  else
    let r := regulate c pint ff x.emf x.integral
    { x with integral := r.1, output := r.2 }

/-- Stage 5: regulation. FF is formed also where both trucks are held off (log entry 43). -/
def stageRegulation (s : State) : State :=
  let pint := s.moc.ramp / 16
  let ff := feedforwardOf pint s.cfg.kff
  onMoc (fun m => { m.mapTrucks (fun _ x => x.regulated s.cfg pint ff m.stands) with feedforward := ff }) s

/-- The ceiling after a step (R66). -/
def nextCeiling (l current limit : Nat) : Nat := if limit < current then l - l / 8 - 1 else min 1023 (l + 8)

/-- Stage 6: the limiter. -/
def stageLimiter (s : State) : State :=
  onMoc (·.mapTrucks fun _ x => { x with ceiling := nextCeiling x.ceiling x.current s.cfg.currentLimit }) s

/-- |E_F − E_R|. -/
def Moc.emfDifference (m : Moc) : Nat := (m.front.emf - m.rear.emf) + (m.rear.emf - m.front.emf)

/-- Slip detection is active (R67). -/
def State.slipActive (s : State) : Bool :=
  !s.moc.held .front && !s.moc.held .rear && decide (0 < s.moc.ramp) && decide (0 < s.cfg.slipThreshold)

/-- A slip starts (R67). -/
def startSlip (s : State) : State :=
  let t : Truck := if s.moc.rear.emf < s.moc.front.emf then .front else .rear
  let s := onMoc (fun m => { m with slipState := .slip t, slipCount := 0, slipCap := (m.truck (otherTruck t)).output }) s
  let s := publish (fun v => { v with slipState := .slip t }) (raiseTrigger .slip s)
  pushNotice (.slip false t) s

/-- Stage 7: slip (R67, R68). -/
def stageSlip (s : State) : State :=
  if s.slipActive then
    match s.moc.slipState with
    | .grip =>
      if s.moc.emfDifference ≤ s.cfg.slipThreshold then onMoc (fun m => { m with slipCount := 0 }) s
      else if 4 ≤ s.moc.slipCount + 1 then startSlip s
      else onMoc (fun m => { m with slipCount := m.slipCount + 1 }) s
    | .slip t =>
      let s := onMoc (fun m => { m with slipCap := (m.truck (otherTruck t)).output }) s
      if s.cfg.slipThreshold / 2 < s.moc.emfDifference then onMoc (fun m => { m with slipCount := 0 }) s
      else if 4 ≤ s.moc.slipCount + 1 then endSlip s
      else onMoc (fun m => { m with slipCount := m.slipCount + 1 }) s
  else endSlip s

/-- C_shed (R69). -/
def shedCap (stage : Nat) : Nat := if stage ≤ 2 then 1023 else if stage = 3 then 511 else 0

/-- D, the applied duty of a truck (R69). -/
def State.appliedDuty (s : State) (t : Truck) : Nat :=
  let m := s.moc
  if m.stands || m.held t then 0
  else
    let d := min (m.truck t).output (min (m.truck t).ceiling (shedCap m.shedView))
    let d := if m.powerView = .bridge then min d s.cfg.bridgeDutyCap else d
    if m.slipState = .slip t then min d m.slipCap else d

/-- A truck's duty is formed and handed to BMU, with its mode, and to ODU (R69, R172). -/
def driveTruck (t : Truck) (s : State) : State :=
  let d := s.appliedDuty t
  handDrive t d (onMoc (·.mapTruck t fun x => { x with duty := d }) s)

/-- Stage 8: duty. -/
def stageDuty (s : State) : State := driveTruck .rear (driveTruck .front s)

/-- MOC's published values, as RCU holds them (R70). -/
def Moc.published (m : Moc) (v : Views) : Views :=
  { v with
    runSpeed := m.ramp / 16, runDirection := m.runDirection, motionState := m.motionState, speedF := m.front.emf,
    speedR := m.rear.emf, dutyF := m.front.duty, dutyR := m.rear.duty, slipState := m.slipState }

/-- Stage 9: publication (R70). -/
def stagePublication (s : State) : State :=
  let m := s.moc
  let s := publish m.published s
  let u := (m.truck m.beatTruck).output
  let s := { s with ssq := s.ssq.takeMotion s.cfg u m.feedforward (m.ramp / 16) m.fell m.brakeView }
  smokeTakeMotion m.motionState (lightsTakeMotion (m.ramp / 16) m.runDirection s)

/-- One control step, on one gap sample (R48). -/
def controlStep (g : GapSample) (s : State) : State :=
  let s := evaluateMotion (stageMomentum (stageSample g (motionTakeSettings s)))
  stagePublication (stageDuty (stageSlip (stageLimiter (stageRegulation s))))

/-- CONTROL_STEP (R48): MOC takes the oldest gap sample published to it. -/
def execControlStep (s : State) : Out :=
  whenReleased (fun s =>
    match s.moc.samples with
    | [] => s
    | g :: rest => controlStep g (onMoc (fun m => { m with samples := rest }) s)) s

end Sys2Proof.Machine
end

