-- ==== Sys2Proof/Machine/Diagnosis.lean ====
section
/-! DEFINITION. The Output Diagnosis Unit (chapter 10): shorts and retries, opens, publication of records, and CLEAR_FAULTS. -/

namespace Sys2Proof.Machine

/-- A fault record shows a fault. -/
def FaultRecord.faulty (r : FaultRecord) : Bool := r.opened || r.shorted

/-- FAULT_SUMMARY: the outputs whose OPEN or SHORT flag is set (R169). -/
def Odu.faultSet (d : Odu) : OutputSet :=
  allOutputs.foldl (fun acc o => if (d.watch o).record.faulty then acc ||| (1#16 <<< (outputIndex o).val) else acc) 0#16

/-- What ODU holds for an output, changed. -/
def mapWatch (o : Output) (f : Watch → Watch) (s : State) : State :=
  { s with odu := s.odu.setWatch o (f (s.odu.watch o)) }

/-! ## Publication (R169) -/

/-- The consumers of an output's record, besides RCU (R169). -/
def consumeRecord (o : Output) (r : FaultRecord) (s : State) : State :=
  match o with
  | .truck t => beatsTakeFault t r.state (motionTakeFault t r.state s)
  | .heater => smokeTakeFault r s
  | .fan => s
  | .light n => lightsTakeFault n r.state s

/-- ODU publishes an output's record, whole (R169). -/
def publishRecord (o : Output) (s : State) : State :=
  let r := (s.odu.watch o).record
  consumeRecord o r (publish (fun v => { v with faults := v.faults.set (outputIndex o) r }) s)

/-- ODU hands RCU the fault summary when it changed, and RCU passes it on to RIF (R6, R169). -/
def publishSummary (s : State) : State :=
  let set := s.odu.faultSet
  if set = s.odu.summary then s
  else
    publish (fun v => { v with faultSummary := set })
      { s with odu := { s.odu with summary := set }, rif := { s.rif with summaryView := set } }

/-- A record that changed is published, with the fault summary (R169). -/
def publishFault (o : Output) (s : State) : State := publishSummary (publishRecord o s)

/-! ## Switching (R77, R170, R171) -/

/-- The driver of an output is switched off at once. -/
def switchOutputOff (o : Output) (s : State) : State :=
  match o with
  | .truck t => holdBridge t s
  | .heater => onSmu (fun u => { u with heaterPwm := u.heaterPwm.off }) s
  | .fan => onSmu (fun u => { u with fanPwm := u.fanPwm.off }) s
  | .light n => onLtc (·.mapLight n fun x => { x with pwm := x.pwm.off }) s

/-- An output is released: a truck's hold-off becomes free, and another driver follows its command from its next period start (R171, R175).
DESIGN CHOICE: before the next control step or light frame R171 gives a truck duty 0 and a light LTC's next composed level, where R77 gives
the duty last handed and R137 the level held; R77 and R137 are followed (log entry 45, unsafe). -/
def releaseOutput (o : Output) (s : State) : State :=
  match o with
  | .truck t => releaseBridge t s
  | _ => s

/-! ## Shorts (R90, R170, R171) -/

/-- The short threshold of an output, in 2 mA units (R90). -/
def shortThreshold : Output → Nat
  | .truck _ => 4000
  | .heater => 1500
  | .fan => 500
  | .light _ => 250

/-- A switch of the output is on (R90). -/
def State.switchOn (s : State) : Output → Bool
  | .truck t => (s.bmu.bridge t).anyOn
  | .heater => s.smu.heaterPwm.isOn
  | .fan => s.smu.fanPwm.isOn
  | .light n => (s.ltc.lights[n]).pwm.isOn

/-- The output's short comparator trips (R90). -/
def State.trips (s : State) (o : Output) (current : Nat) : Bool :=
  s.switchOn o && !s.heldOff o && decide (shortThreshold o < current)

/-- A trip latches an output on probation whose retries are spent (R170). -/
def Watch.latches (w : Watch) : Bool := w.probation.isRunning && decide (w.record.retries = 3)

/-- A watch whose output has tripped (R170). -/
def Watch.tripped (w : Watch) (retry : Timer) : Watch :=
  { w with
    record := { w.record with shorted := true, state := if w.latches then .latched else .shortWait }
    retry := if w.latches then .stopped else retry
    probation := .stopped
    openTimer := .stopped }

/-- ODU takes a trip (R170): the output is off, the record published, and then the FAULT notice pushed, after the notices that the
publication brings (log entry 18). -/
def takeTrip (o : Output) (s : State) : State :=
  let kind : FaultKind := if (s.odu.watch o).latches then .latched else .short
  let s := switchOutputOff o s
  let s := mapWatch o (·.tripped (s.timer Config.retryTime)) s
  pushNotice (.fault o kind) (publishFault o s)

/-- SHORT_COMPARATOR_TRIP (R170). -/
def execShortComparatorTrip (o : Output) (current : Nat) (s : State) : Out :=
  whenReleased (fun s => if s.trips o current then takeTrip o s else s) s

/-- A watch whose output is retried (R171). -/
def Watch.retried (w : Watch) (probation : Timer) : Watch :=
  { w with record := { w.record with state := .ok, retries := countUp w.record.retries 3 }, retry := .stopped, probation := probation }

/-- RETRY_TIMER_EXPIRY (R171). -/
def execRetryTimerExpiry (o : Output) (s : State) : Out :=
  whenReleased (fun s =>
    onExpiry (s.odu.watch o).retry (fun s =>
      publishFault o (releaseOutput o (mapWatch o (·.retried (s.timer Config.probationTime)) s))) s) s

/-- PROBATION_TIMER_EXPIRY (R171): the record is published again. -/
def execProbationTimerExpiry (o : Output) (s : State) : Out :=
  whenReleased (fun s =>
    onExpiry (s.odu.watch o).probation (fun s =>
      publishFault o (mapWatch o (fun w => { w with probation := .stopped }) s)) s) s

/-! ## Opens (R172, R173, R174) -/

/-- A current is low: below the open level (R172). -/
def currentLow (o : Output) (current : Nat) : Bool :=
  match o with
  | .truck _ => decide (current < 200)
  | .heater => decide (current < 75)
  | .fan => decide (current < 25)
  | .light _ => decide (current ≤ 12)

/-- ODU takes a measurement of an output (R173, R174). -/
def takeMeasurement (o : Output) (current : Nat) (s : State) : State :=
  let w := s.odu.watch o
  if w.record.state ≠ .ok then s
  else if w.record.opened then
    if !currentLow o current && decide (0 < w.command) then
      publishFault o (mapWatch o (fun w => { w with record := { w.record with opened := false } }) s)
    else s
  else if currentLow o current then
    if openCommandLevel o ≤ w.command ∧ w.openTimer = .stopped then
      mapWatch o (fun w => { w with openTimer := s.timer Config.openTime }) s
    else s
  else mapWatch o (fun w => { w with openTimer := .stopped }) s

/-- OPEN_TIMER_EXPIRY (R173). -/
def execOpenTimerExpiry (o : Output) (s : State) : Out :=
  whenReleased (fun s =>
    onExpiry (s.odu.watch o).openTimer (fun s =>
      pushNotice (.fault o .opened)
        (publishFault o (mapWatch o (fun w => { w with record := { w.record with opened := true }, openTimer := .stopped }) s))) s) s

/-! ## CLEAR_FAULTS (R175) -/

/-- One output is cleared: released where it was held off, its record clean, its timers STOPPED, and its record published. -/
def clearOutput (o : Output) (s : State) : State :=
  let s := if s.heldOff o then releaseOutput o s else s
  let s := mapWatch o (fun w => { w with record := {}, retry := .stopped, probation := .stopped, openTimer := .stopped }) s
  publishRecord o s

/-- The outputs of a mask, in output-set order. -/
def outputsOf (mask : OutputSet) : List Output := allOutputs.filter fun o => mask.getLsbD (outputIndex o).val

/-- CLEAR_FAULTS (R175). -/
def serveClearFaults (mask : OutputSet) (s : State) : Answer × State :=
  (doneWith {} (be2 s.odu.summary.toNat), publishSummary ((outputsOf mask).foldl (fun s o => clearOutput o s) s))

end Sys2Proof.Machine
end

