-- ==== Sys2Proof/Machine/Power.lean ====
section
/-! DEFINITION. The Power Supervisor (chapter 9): the power states, the qualification of the track, the shed stage and its three
contributions, and the end of LOAD. -/

namespace Sys2Proof.Machine

/-- PWS with its own state changed. -/
def onPws (f : Pws → Pws) (s : State) : State := { s with pws := f s.pws }

/-! ## The shed stage (R164) -/

/-- The greatest of the three contributions. -/
def Pws.stageNow (p : Pws) : Nat := max p.powerPart (max p.sagPart p.thermalPart)

/-- The consumers take a shed stage (R164): SSQ's view stands before MOC acts, so that a REVERSE trigger of the end of suspension meets
the new stage (R62, R70; log entry 18). -/
def consumeStage (stage : Nat) (s : State) : State :=
  onLtc (·.takeShed stage) (smokeTakeShed stage (motionTakeShed stage { s with ssq := s.ssq.takeShed stage }))

/-- PWS forms the shed stage anew; a change is published and noticed (R164). -/
def formStage (s : State) : State :=
  let stage := s.pws.stageNow
  if stage = s.pws.shedStage then s
  else
    let s := publish (fun v => { v with shedStage := stage }) (onPws (fun p => { p with shedStage := stage }) s)
    consumeStage stage (pushNotice (.shedStage stage) s)

/-! ## The sag contribution (R165) -/

/-- The sag timer by the table of R165, with its full time. -/
def setSagTimer (s : State) : State :=
  onPws (fun p =>
    if p.sagView then
      if 0 < p.sagPart then { p with sagTimer := s.timer Config.sagLowerTime, sagRaise := false }
      else { p with sagTimer := .stopped }
    else if p.sagPart < 3 then { p with sagTimer := s.timer Config.sagRaiseTime, sagRaise := true }
    else { p with sagTimer := .stopped }) s

/-- The sag timer expires: the contribution moves one step, and the timer is set again. -/
def stepSag (s : State) : State :=
  let s := onPws (fun p => { p with sagPart := if p.sagRaise then countUp p.sagPart 3 else p.sagPart - 1 }) s
  formStage (setSagTimer s)

/-- SAG_TIMER_EXPIRY (R165). -/
def execSagTimerExpiry (s : State) : Out := whenReleased (fun s => onExpiry s.pws.sagTimer stepSag s) s

/-! ## The power states (R160, R161, R162) -/

/-- The power contribution of a power state (9.4). -/
def powerPartOf : PowerState → Nat
  | .load => 4
  | .run => 0
  | .bridge => 2
  | .halt => 4
  | .settle => 4

/-- A change of power state (R162), with the sag timing that entering or leaving RUN sets (R165). -/
def enterPower (p : PowerState) (s : State) : State :=
  let s := onPws (fun w => { w with powerState := p, sagTimer := .stopped }) s
  let s := motionTakePower p (publish (fun v => { v with powerState := p }) s)
  let s := pushNotice (.powerState p) { s with cfs := { s.cfs with powerView := p } }
  let s := onPws (fun w => { w with powerPart := powerPartOf p }) s
  formStage (if p = .run then setSagTimer s else s)

/-- PWS enters HALT: the bridge limit timer, the settle timer and the settle phase end (R160, R161). -/
def enterHalt (s : State) : State :=
  enterPower .halt (onPws (fun p => { p with bridgeTimer := .stopped, settleTimer := .stopped, settlePhase := .none }) s)

/-- PWS enters RUN. -/
def enterRun (s : State) : State :=
  enterPower .run (onPws (fun p => { p with bridgeTimer := .stopped, settleTimer := .stopped, settlePhase := .none }) s)

/-- PWS enters BRIDGE, and its limit timer starts (R160). -/
def enterBridge (s : State) : State :=
  enterPower .bridge (onPws (fun p => { p with bridgeTimer := s.timer (Config.ms (100 * s.cfg.bridgeLimit)) }) s)

/-- The settle delay starts (R161). -/
def startDelay (s : State) : State :=
  onPws (fun p => { p with settlePhase := .delaying, settleTimer := s.timer (Config.ms (10 * s.cfg.settleDelay)) }) s

/-- PWS enters SETTLE, in the phase the capacitor-resume view chooses (R161). -/
def enterSettle (s : State) : State :=
  enterPower .settle (if s.pws.resumeView then startDelay s else onPws (fun p => { p with settlePhase := .charging }) s)

/-- A track-lost event (R160, R161). -/
def trackLost (s : State) : State :=
  match s.pws.powerState with
  | .run => if s.pws.reserveView then enterBridge s else enterHalt s
  | .settle => enterHalt s
  | .load => s
  | .bridge => s
  | .halt => s

/-- A track-present event (R160, R161). -/
def trackPresent (s : State) : State :=
  match s.pws.powerState with
  | .bridge => enterRun s
  | .halt => enterSettle s
  | .load => s
  | .run => s
  | .settle => s

/-- The track status takes the value the qualification timed toward (R159). -/
def qualifyTrack (s : State) : State :=
  let old := s.pws.trackPresent
  let s := onPws (fun p => { p with qualification := .stopped, trackPresent := p.towardPresent }) s
  if s.pws.trackPresent = old then s
  else if s.pws.trackPresent then trackPresent s
  else trackLost s

/-- TRACK_QUALIFICATION_EXPIRY (R159). -/
def execTrackQualificationExpiry (s : State) : Out :=
  whenReleased (fun s => onExpiry s.pws.qualification qualifyTrack s) s

/-- BRIDGE_LIMIT_EXPIRY (R160). -/
def execBridgeLimitExpiry (s : State) : Out := whenReleased (fun s => onExpiry s.pws.bridgeTimer enterHalt s) s

/-- SETTLE_TIMER_EXPIRY (R161). -/
def execSettleTimerExpiry (s : State) : Out := whenReleased (fun s => onExpiry s.pws.settleTimer enterRun s) s

/-! ## Comparator changes (R89, R159, R160, R161, R165) -/

/-- The track-present view changed: the qualification restarts (R159). -/
def powerTakePresent (high : Bool) (s : State) : State :=
  onPws (fun p => { p with
    presentView := high, towardPresent := high
    qualification := s.timer (if high then Config.returnQualification else Config.lossQualification) }) s

/-- The track-sag view changed: in RUN its timing restarts (R165). -/
def powerTakeSag (high : Bool) (s : State) : State :=
  let s := onPws (fun p => { p with sagView := high }) s
  if s.pws.powerState = .run then setSagTimer s else s

/-- The capacitor-reserve view changed: its fall ends BRIDGE (R160). -/
def powerTakeReserve (high : Bool) (s : State) : State :=
  let s := onPws (fun p => { p with reserveView := high }) s
  if s.pws.powerState = .bridge ∧ high = false then enterHalt s else s

/-- The capacitor-resume view changed: SETTLE waits or delays by it (R161). -/
def powerTakeResume (high : Bool) (s : State) : State :=
  let s := onPws (fun p => { p with resumeView := high }) s
  if s.pws.powerState = .settle then
    if high then startDelay s else onPws (fun p => { p with settlePhase := .charging, settleTimer := .stopped }) s
  else s

/-- PWS takes a comparator change (R89). -/
def powerTakeComparator (c : Comparator) (high : Bool) (s : State) : State :=
  match c with
  | .trackPresent => powerTakePresent high s
  | .trackSag => powerTakeSag high s
  | .capReserve => powerTakeReserve high s
  | .capResume => powerTakeResume high s

/-! ## The die temperature (R167) -/

/-- The thermal contribution after a DIE_T result (R167). -/
def thermalPartOf (held : Nat) (t : Int) (warning : Nat) : Nat :=
  if held = 0 then
    if 140 ≤ t then 4 else if (warning : Int) ≤ t then 2 else 0
  else if held = 2 then
    if 140 ≤ t then 4 else if t < (warning : Int) - 10 then 0 else 2
  else if t < (warning : Int) - 10 then 0
  else if t < 125 then 2
  else 4

/-- PWS takes a DIE_T result (R157, R167). -/
def powerTakeDie (t : Int) (s : State) : State :=
  let s := publish (fun v => { v with temperature := t }) (onPws (fun p => { p with temperature := some t, dieReport := true }) s)
  formStage (onPws (fun p => { p with thermalPart := thermalPartOf p.thermalPart t s.cfg.thermalWarning }) s)

/-! ## The end of LOAD (R157, R158) -/

/-- PWS holds all five start-up reports (R157). -/
def Pws.allReports (p : Pws) : Bool :=
  p.storeReport.isSome && p.recordReport && p.soundReport.isSome && p.comparatorReport && p.dieReport

/-- LOAD ends (R158). -/
def endLoad (s : State) : State :=
  let s := pushNotice (.started (s.pws.storeReport.getD false) (s.pws.soundReport.getD false)) s
  if s.pws.trackPresent then enterSettle s else enterHalt s

/-- LOAD_END (R158). -/
def execLoadEnd (s : State) : Out :=
  whenReleased (fun s => if s.pws.powerState = .load ∧ s.pws.allReports then endLoad s else s) s

end Sys2Proof.Machine
end

