-- ==== Sys2Proof/Machine/Measure.lean ====
section
/-! DEFINITION. The measurements of BMU (4.4 to 4.8): the gap, the general converter's results, the supervision comparators, and the
MEASURE request. -/

namespace Sys2Proof.Machine

/-- BMU with its own state changed. -/
def onBmu (f : Bmu → Bmu) (s : State) : State := { s with bmu := f s.bmu }

/-! ## Spot measures (R86, R87) -/

/-- A slot is completed by a conversion that gives these values. -/
def SpotSlot.completes (value : Channel → Option Int) (x : SpotSlot) : Bool := (value x.channel).isSome && !x.skipCurrent

/-- A slot that a conversion of its channel did not complete awaits the next one. -/
def SpotSlot.passed (value : Channel → Option Int) (x : SpotSlot) : SpotSlot :=
  if (value x.channel).isSome then { x with skipCurrent := false } else x

/-- BMU completes every slot that a conversion's values complete, in the order in which the MEASUREs were taken (R87). -/
def completeSlots (value : Channel → Option Int) (s : State) : State :=
  let slots := s.bmu.slots
  let s := onBmu (fun m => { m with slots := (slots.filter fun x => !x.completes value).map (SpotSlot.passed value) }) s
  (slots.filter (SpotSlot.completes value)).foldl
    (fun s x => pushCompletion .measure x.tag .done (BitVec.ofInt 16 ((value x.channel).getD 0)) s) s

/-- The conversion of a channel that is under way when a MEASURE is taken does not complete it (R86). -/
def Bmu.inProgress (m : Bmu) (ch : Channel) : Bool :=
  match ch with
  | .backEmf _ => decide (m.gap = .converting)
  | .current _ => false
  | _ =>
    match m.converting with
    | some (c, _) => decide (c = ch)
    | none => false

/-- MEASURE (R86). -/
def serveMeasure (posted : Bool) (tag channel : Byte) (s : State) : Answer × State :=
  if posted then (refusal .badKind, s)
  else
    match Channel.ofByte channel with
    | none => (refusal .badValue, s)
    | some ch =>
      let s := onBmu (fun m => { m with slots := m.slots ++ [⟨ch, tag, m.inProgress ch⟩] }) s
      ({ code := .accepted }, { s with hpt := { s.hpt with slots := s.hpt.slots ++ [⟨.measure, tag⟩] } })

/-! ## The gap (R78, R79, R80) -/

/-- CONTROL_PERIOD_EXPIRY (R78, R84). -/
def execControlPeriodExpiry (s : State) : Out :=
  whenReleased (fun s =>
    onExpiry s.bmu.controlTimer (fun s =>
      let s := onBmu (fun m => { m with
        controlTimer := m.controlTimer.again Config.controlPeriod
        gap := if m.gap = .closed then .requested else m.gap }) s
      appendChannel .capV (appendChannel .trackV s)) s) s

/-- GAP_SETTLE_EXPIRY (R79): both motor voltages are held. -/
def execGapSettleExpiry (voltsF voltsR : Int) (s : State) : Out :=
  whenReleased (fun s =>
    onExpiry s.bmu.settleTimer (fun s =>
      onBmu (fun m => { m with
        gap := .converting, settleTimer := .stopped, gapConversion := s.timer Config.conversionTime
        front := { m.front with heldVolts := voltsF }, rear := { m.rear with heldVolts := voltsR } }) s) s) s

/-- E of a motor voltage in mV (R79). -/
def emfOf (volts : Int) : Nat := min 4095 (4096 * volts.natAbs / 25000)

/-- The gap sample (R80). -/
def Bmu.sample (m : Bmu) : GapSample :=
  ⟨emfOf m.front.heldVolts, emfOf m.rear.heldVolts, m.front.meanCurrent, m.rear.meanCurrent⟩

/-- The value a gap sample gives a channel. -/
def GapSample.value (g : GapSample) : Channel → Option Int
  | .backEmf .front => some g.emfF
  | .backEmf .rear => some g.emfR
  | .current .front => some g.currentF
  | .current .rear => some g.currentR
  | _ => none

/-- A bridge whose accumulators are set to 0. -/
def Bridge.cleared (b : Bridge) : Bridge := { b with charge := 0, driveCounts := 0 }

/-- The gap sample is published to MOC, BTG and ODU, and completes the MEASUREs on its channels (R80, R87). -/
def publishSample (s : State) : State :=
  let g := s.bmu.sample
  let s := onBmu (fun m => { m with
    gap := .resuming, gapConversion := .stopped, front := m.front.cleared, rear := m.rear.cleared }) s
  let s := onMoc (fun m => { m with samples := m.samples ++ [g] }) s
  let s := onBtg (fun b => { b with samples := if b.watching then b.samples ++ [g] else b.samples }) s
  let s := takeMeasurement (.truck .rear) g.currentR (takeMeasurement (.truck .front) g.currentF s)
  completeSlots g.value s

/-- GAP_CONVERSION_END (R80). -/
def execGapConversionEnd (s : State) : Out :=
  whenReleased (fun s => onExpiry s.bmu.gapConversion publishSample s) s

/-! ## The general converter (R83, R84, R85) -/

/-- The range of a channel (4.6). -/
def Channel.range : Channel → Int × Int
  | .backEmf _ => (0, 4095)
  | .current _ => (0, 8191)
  | .trackV => (0, 4095)
  | .capV => (0, 4095)
  | .heaterT => (0, 511)
  | .heaterI => (0, 2047)
  | .fanI => (0, 1023)
  | .lightI _ => (0, 511)
  | .dieT => (-40, 150)

/-- A measured quantity taken in its channel's range (4.6). -/
def Channel.clamp (ch : Channel) (value : Int) : Int := clampInt value ch.range.1 ch.range.2

/-- A channel's consumers take its result (4.6). -/
def consumeResult (ch : Channel) (value : Int) (s : State) : State :=
  match ch with
  | .backEmf _ => s
  | .current _ => s
  | .trackV => onBmu (fun m => { m with trackPin := value.toNat }) s
  | .capV => onBmu (fun m => { m with capPin := value.toNat }) s
  | .heaterT => onSmu (fun u => { u with results := u.results ++ [value.toNat] }) s
  | .heaterI => takeMeasurement .heater value.toNat s
  | .fanI => takeMeasurement .fan value.toNat s
  | .lightI n => takeMeasurement (.light n) value.toNat s
  | .dieT => powerTakeDie value s

/-- A conversion of a channel ends with a value (R83, R87): its consumers take it, with the notices that brings, before the COMPLETIONs
are pushed (log entry 18). -/
def endConversion (ch : Channel) (value : Int) (s : State) : State :=
  let v := ch.clamp value
  let s := onBmu (fun m => { m with converting := none }) s
  startConversion (completeSlots (fun c => if c = ch then some v else none) (consumeResult ch v s))

/-- CONVERSION_END (R83). -/
def execConversionEnd (value : Int) (s : State) : Out :=
  whenReleased (fun s =>
    match s.bmu.converting with
    | none => s
    | some (ch, due) => endConversion ch value (s.reach due)) s

/-! ## The supervision comparators (R89) -/

/-- A comparator's output at a voltage (R89). -/
def comparatorOutput (c : Comparator) (level v : Nat) (old : Bool) : Bool :=
  if level ≤ v then true else if v + hysteresis c < level then false else old

/-- A comparator's present output. -/
def Bmu.output (m : Bmu) : Comparator → Bool
  | .trackPresent => m.trackPresent
  | .trackSag => m.trackSag
  | .capReserve => m.capReserve
  | .capResume => m.capResume

/-- BMU with a comparator's output set. -/
def Bmu.setOutput (m : Bmu) (c : Comparator) (high : Bool) : Bmu :=
  match c with
  | .trackPresent => { m with trackPresent := high }
  | .trackSag => { m with trackSag := high }
  | .capReserve => { m with capReserve := high }
  | .capResume => { m with capResume := high }

/-- The voltage on the pin a comparator watches. -/
def Bmu.pin (m : Bmu) : Comparator → Nat
  | .trackPresent => m.trackPin
  | .trackSag => m.trackPin
  | .capReserve => m.capPin
  | .capResume => m.capPin

/-- BMU with the voltage on the pin a comparator watches. -/
def Bmu.setPin (m : Bmu) (c : Comparator) (v : Nat) : Bmu :=
  match c with
  | .trackPresent => { m with trackPin := v }
  | .trackSag => { m with trackPin := v }
  | .capReserve => { m with capPin := v }
  | .capResume => { m with capPin := v }

/-- A comparator is judged by its present level and voltage; a change is handed to PWS (R89). -/
def judgeComparator (c : Comparator) (s : State) : State :=
  let high := comparatorOutput c (s.cfg.level c) (s.bmu.pin c) (s.bmu.output c)
  if !s.bmu.running || high == s.bmu.output c then s
  else powerTakeComparator c high (onBmu (·.setOutput c high) s)

/-- SUPERVISION_COMPARATOR_CHANGE (R89). -/
def execSupervisionComparatorChange (c : Comparator) (v : Nat) (s : State) : Out :=
  whenReleased (fun s => judgeComparator c (onBmu (·.setPin c v) s)) s

end Sys2Proof.Machine
end

