-- ==== Sys2Proof/Machine/Store.lean ====
section
/-! DEFINITION. The Configuration Store (chapter 11): CONFIG_READ, CONFIG_WRITE, COMMIT and the end of a commit, with what a change
does in the block that owns the item. -/

namespace Sys2Proof.Machine

/-- CFS with its own state changed. -/
def onCfs (f : Cfs → Cfs) (s : State) : State := { s with cfs := f s.cfs }

/-- The value of STORE_STATUS: DIRTY, then the commit state (R178, R190). -/
def Cfs.status (c : Cfs) : List Byte := beBool c.dirty ++ beBool c.writing

/-- CONFIG_READ (R178). -/
def serveConfigRead (item entry : Byte) (s : State) : Answer × State :=
  match Item.ofByte item with
  | none => (refusal .badField, s)
  | some i =>
    if !i.entryFits entry then (refusal .badValue, s)
    else if i = .storeStatus then (doneWith {} s.cfs.status, s)
    else (doneWith {} (s.cfg.encode i entry.toNat), s)

/-- The owner of an item takes a change of it, from the configuration before it (R180; R65, R89, R97, R120, R132, R135, R155). The
items not named here are read where they are used. -/
def ownerTakes (i : Item) (e : Nat) (old : Configuration) (s : State) : State :=
  match i with
  | .ki => zeroIntegrators s
  | .trackPresentLevel => judgeComparator .trackPresent s
  | .trackSagLevel => judgeComparator .trackSag s
  | .capReserveLevel => judgeComparator .capReserve s
  | .capResumeLevel => judgeComparator .capResume s
  | .beatSource => beatSourceChanged old.beatSource s
  | .keyBindings => { s with ssq := s.ssq.disown (Fin.ofNat 16 e) }
  | .smokeTemps => smokeTempsChanged ((smokeTarget old s.smu.levelView).getD 0) s
  | .fluidCapacity => capacityChanged s
  | .fanPuffLevel => fanPuffChanged s
  | .fanBetweenLevel => fanLevelChanged s
  | .fanIdleLevel => fanLevelChanged s
  | .sceneKey => evaluateScene s
  | _ => s

/-- A configuration value is set, as one event (R180). -/
def applyConfig (i : Item) (e : Nat) (ns : List Nat) (s : State) : State :=
  let old := s.cfg
  let new := old.put i e ns
  let s := onCfs (fun c => { c with working := new, dirty := true, writtenDuring := c.writtenDuring || c.writing }) s
  if new.get i e = old.get i e then s else ownerTakes i e old s

/-- The numbers a write takes, each numeric field at the nearer end of its range (R179). -/
def takenFields (i : Item) (ns : List Nat) : List Nat := List.zipWith FieldSpec.clamp i.fields ns

/-- The value in the answer to a CONFIG_WRITE: the prior value of one number or one choice, and 0 otherwise (R179). -/
def priorValue (i : Item) (e : Nat) (c : Configuration) : List Byte := if i.answersPrior then c.encode i e else be1 0

/-- Checks 4 and 5 of R179, and the write. -/
def writeItem (i : Item) (e : Nat) (ns : List Nat) (s : State) : Answer × State :=
  if !(List.zipWith FieldSpec.legal i.fields ns).all id then (refusal .badValue, s)
  else if !(s.cfg.put i e ns).consistent i e then (refusal .badValue, s)
  else
    let taken := takenFields i ns
    (doneWith { clamped := decide (taken ≠ ns) } (priorValue i e s.cfg), applyConfig i e taken s)

/-- CONFIG_WRITE (R179); the length of the value is judged between checks 3 and 4 (R39, R185). -/
def serveConfigWrite (item entry : Byte) (value : List Byte) (s : State) : Answer × State :=
  match Item.ofByte item with
  | none => (refusal .badField, s)
  | some i =>
    if i = .storeStatus then (refusal .readOnly, s)
    else if !i.entryFits entry then (refusal .badValue, s)
    else
      match splitFields i.fields value with
      | none => (refusal .badValue, s)
      | some ns => writeItem i entry.toNat ns s

/-- A commit starts (R181). -/
def startCommit (origin : CommitOrigin) (s : State) : State :=
  onCfs (fun c => { c with writing := true, origin := origin, writtenDuring := false, snapshot := c.working }) s

/-- COMMIT (R181). -/
def serveCommit (src : Source) (posted : Bool) (tag : Byte) (s : State) : Answer × State :=
  if posted && decide (src = .host) then (refusal .badKind, s)
  else if s.cfs.powerView ≠ .run then (refusal .power, s)
  else if s.cfs.writing then (refusal .busy, s)
  else
    match src with
    | .host =>
      let s := startCommit (.host tag) s
      ({ code := .accepted }, { s with hpt := { s.hpt with slots := s.hpt.slots ++ [⟨.commit, tag⟩] } })
    | .throttle id => ({ code := .accepted }, startCommit (.throttle id) s)

/-- An image whose CRC is not that of its items. -/
def badImage (c : Configuration) : Image := ⟨c, ~~~c.crc⟩

/-- The image at the end of a commit (R182). -/
def Cfs.imageAfter (c : Cfs) (good : Bool) : Image := if good then ⟨c.snapshot, c.snapshot.crc⟩ else badImage c.snapshot

/-- A commit ends (R182). -/
def endCommit (good : Bool) (s : State) : State :=
  let origin := s.cfs.origin
  let code : Code := if good then .done else .failed
  let s := onCfs (fun c => { c with
    image := c.imageAfter good, dirty := if good && !c.writtenDuring then false else true
    writing := false, origin := .none, writtenDuring := false }) s
  match origin with
  | .none => s
  | .host tag => pushCompletion .commit tag code 0 s
  | .throttle id => pushNotice (.radioCommitDone id code) s

/-- COMMIT_END (R182). -/
def execCommitEnd (good : Bool) (s : State) : Out :=
  whenReleased (fun s => if s.cfs.writing then endCommit good s else s) s

end Sys2Proof.Machine
end

