-- ==== Sys2Proof/Machine/Throttles.lean ====
section
/-! DEFINITION. The throttle table (2.5): how a frame is heard (R35), and how the table takes a new drive holder (R36). -/

namespace Sys2Proof.Machine

/-- RIF with its own state changed. -/
def onRif (f : Rif → Rif) (s : State) : State := { s with rif := f s.rif }

/-- The holder of the claim, as a source's entry of the throttle table names it. -/
def Holder.names (h : Holder) (id : Byte) : Bool := decide (h = .throttle id)

/-! ## A frame is heard (R35) -/

/-- The entry of a throttle in the throttle table. -/
def Rif.entry (r : Rif) (id : Byte) : Option ThrottleEntry := r.throttles.find? fun e => e.id == id

/-- An entry that goes before another when one is evicted: the older, and of two as old the lower ID (R35). -/
def ThrottleEntry.before (a b : ThrottleEntry) : Bool :=
  decide (a.lastHeard < b.lastHeard) || (decide (a.lastHeard = b.lastHeard) && decide (a.id.toNat < b.id.toNat))

/-- The entry to evict among candidates. -/
def oldestEntry : List ThrottleEntry → Option ThrottleEntry
  | [] => none
  | e :: es =>
    match oldestEntry es with
    | none => some e
    | some o => if o.before e then some o else some e

/-- The table less the entry an eviction takes (R35). -/
def Rif.evict (r : Rif) : List ThrottleEntry :=
  match oldestEntry (r.throttles.filter fun e => !r.holderView.names e.id) with
  | none => r.throttles
  | some o => r.throttles.filter fun e => e.id != o.id

/-- The throttle table after a frame is accepted (R35). -/
def Rif.hear (r : Rif) (id seq : Byte) (t : Time) : Rif :=
  if (r.entry id).isSome then
    { r with throttles := r.throttles.map fun e => if e.id = id then ⟨id, seq, t⟩ else e }
  else if r.throttles.length < Config.throttleEntries then { r with throttles := r.throttles ++ [⟨id, seq, t⟩] }
  else { r with throttles := r.evict ++ [⟨id, seq, t⟩] }

/-! ## A new drive holder (R36) -/

/-- The throttle in whose frame a request came, if one sent it. -/
def frameOf : Source → Option Byte
  | .host => none
  | .throttle id => some id

/-- RIF handles an accepted frame of a throttle: the one that brings the present request, or one it has been kept in (R37). Such a frame
has renewed its throttle's entry, which does not age until RIF is through with it (R36). DEDUCED (log entry 49). -/
def Rif.handles (r : Rif) (frame : Option Byte) (id : Byte) : Bool := frame == some id || r.handling.any fun run => run.thr == id

/-- RIF takes a new DRIVE_HOLDER; the former holder's entry is FREE at once when it has aged (R36), but for a throttle whose frame RIF
handles; `frame` is the throttle in whose frame the change came. -/
def radioTakeHolder (frame : Option Byte) (h : Holder) (s : State) : State :=
  let old := s.rif.holderView
  { s with rif := { s.rif with
      holderView := h
      throttles := s.rif.throttles.filter fun e =>
        !(old.names e.id && decide (e.lastHeard + Config.entryAge < s.now) && !s.rif.handles frame e.id) } }

end Sys2Proof.Machine
end

