-- ==== Sys2Proof/Machine/Record.lean ====
section
/-! DEFINITION. The Record Unit (chapter 1): the kinds it owns, the drive claim, the lease, and what it hands to the other blocks
(R6). -/

namespace Sys2Proof.Machine

/-- RCU with its own state changed. -/
def onRcu (f : Rcu → Rcu) (s : State) : State := { s with rcu := f s.rcu }

/-! ## Changes of fields, each with its publication (R6) -/

/-- A drive write of TARGET_NOTCH by the holder. -/
def setNotch (n : Nat) (s : State) : State :=
  let changed := decide (n ≠ s.rcu.targetNotch)
  motionTakeDriveWrite n changed (onRcu (fun r => { r with targetNotch := n }) s)

/-- A change of BRAKE. -/
def setBrake (n : Nat) (s : State) : State :=
  if n = s.rcu.brake then s else motionTakeBrake n (onRcu (fun r => { r with brake := n }) s)

/-- A change of DIRECTION. -/
def setDirection (d : Direction) (s : State) : State :=
  if d = s.rcu.direction then s else motionTakeDirection d (onRcu (fun r => { r with direction := d }) s)

/-- A change of KEYS: SSQ and LTC take one publication. -/
def setKeys (k : KeySet) (s : State) : State :=
  if k = s.rcu.keys then s
  else
    let s := onRcu (fun r => { r with keys := k }) s
    lightsTakeKeys k { s with ssq := s.ssq.takeKeys s.cfg k }

/-- A change of SMOKE_LEVEL. -/
def setSmokeLevel (n : Nat) (s : State) : State :=
  if n = s.rcu.smokeLevel then s else smokeTakeLevel n (onRcu (fun r => { r with smokeLevel := n }) s)

/-- A change of VOLUME. -/
def setVolume (n : Nat) (s : State) : State :=
  if n = s.rcu.volume then s else { onRcu (fun r => { r with volume := n }) s with ssq := { s.ssq with volumeView := n } }

/-- A change of FAILSAFE. -/
def setFailsafe (b : Bool) (s : State) : State := lightsTakeFailsafe b (onRcu (fun r => { r with failsafe := b }) s)

/-- A change of DRIVE_HOLDER: the notice, and the publication to RIF (R17, R18, R20). `frame` is the throttle in whose frame it came. -/
def setHolder (frame : Option Byte) (h : Holder) (s : State) : State :=
  if h = s.rcu.holder then s
  else radioTakeHolder frame h (pushNotice (.claimChanged h) (onRcu (fun r => { r with holder := h }) s))

/-- The lease starts or is refreshed (R17, R19). -/
def startLease (s : State) : State := onRcu (fun r => { r with lease := s.timer (Config.ms (100 * s.cfg.leaseTime)) }) s

/-- A source is the drive holder. -/
def State.holds (s : State) (src : Source) : Bool := decide (s.rcu.holder = holderOf src)

/-! ## Reading (R8, R190) -/

/-- The encoded value of a field; none where the selector names nothing (R5). -/
def State.readField (s : State) (f : Field) (selector : Byte) : Option (List Byte) :=
  let r := s.rcu
  let v := r.views
  match f with
  | .targetNotch => some (be1 r.targetNotch)
  | .direction => some (be1 r.direction.code)
  | .brake => some (be1 r.brake)
  | .keys => some (be4 r.keys.toNat)
  | .smokeLevel => some (be1 r.smokeLevel)
  | .volume => some (be1 r.volume)
  | .restarted => some (beBool r.restarted)
  | .driveHolder => some [r.holder.byte]
  | .failsafe => some (beBool r.failsafe)
  | .runSpeed => some (be2 v.runSpeed)
  | .runDirection => some (be1 v.runDirection.code)
  | .motionState => some (be1 v.motionState.code)
  | .speedF => some (be2 v.speedF)
  | .speedR => some (be2 v.speedR)
  | .dutyF => some (be2 v.dutyF)
  | .dutyR => some (be2 v.dutyR)
  | .slipState => some (be1 v.slipState.code)
  | .odometer => some (be4 v.odometer.toNat)
  | .beatCount => some (be4 v.beatCount.toNat)
  | .powerState => some (be1 v.powerState.code)
  | .shedStage => some (be1 v.shedStage)
  | .temperature => some (beSigned2 v.temperature)
  | .faultSummary => some (be2 v.faultSummary.toNat)
  | .fault => (outputOfSelector selector).map fun o => (v.faults[outputIndex o]).bytes
  | .smokeState => some (be1 v.smokeState.code)
  | .fluid => some (be2 v.fluid)
  | .soundClips => some (be2 v.soundClips)
  | .soundUnderruns => some (be2 v.soundUnderruns)
  | .radioCounts => (v.radioCounts.select selector).map be2

/-- READ (R7, R8). -/
def serveRead (posted : Bool) (field selector : Byte) (s : State) : Answer × State :=
  if posted then (refusal .badKind, s)
  else
    match Field.ofByte field with
    | none => (refusal .badField, s)
    | some f =>
      match s.readField f selector with
      | none => (refusal .badValue, s)
      | some bytes => (doneWith {} bytes, s)

/-! ## Changing fields (R9 to R13) -/

/-- The present value of a numeric field that WRITE, ADD and SWAP change; 0 for the others. -/
def State.numeric (s : State) : Field → Nat
  | .targetNotch => s.rcu.targetNotch
  | .brake => s.rcu.brake
  | .smokeLevel => s.rcu.smokeLevel
  | .volume => s.rcu.volume
  | _ => 0

/-- A numeric field takes a value in its range. -/
def setNumeric (f : Field) (n : Nat) (s : State) : State :=
  match f with
  | .targetNotch => setNotch n s
  | .brake => setBrake n s
  | .smokeLevel => setSmokeLevel n s
  | .volume => setVolume n s
  | _ => s

/-- A write of a number to a numeric field with the given top (R9, R13). -/
def writeNumeric (f : Field) (top n : Nat) (s : State) : Answer × State :=
  (doneWith (clampFlags n top) (be1 (s.numeric f)), setNumeric f (clampTop n top) s)

/-- The direction a number names. -/
def directionOf (n : Nat) : Option Direction := if n = 0 then some .forward else if n = 1 then some .reverse else none

/-- WRITE on DIRECTION (R9). -/
def writeDirection (n : Nat) (s : State) : Answer × State :=
  match directionOf n with
  | none => (refusal .badValue, s)
  | some d => (doneWith {} (be1 s.rcu.direction.code), setDirection d s)

/-- WRITE on RESTARTED: "no" alone is taken (R4, R9). -/
def writeRestarted (n : Nat) (s : State) : Answer × State :=
  if n = 0 then (doneWith {} (beBool s.rcu.restarted), onRcu (fun r => { r with restarted := false }) s)
  else (refusal .badValue, s)

/-- KEYS takes a whole new set, and the answer holds the prior one (R9, R11, R12). -/
def changeKeys (new : KeySet) (s : State) : Answer × State :=
  (doneWith { changed := decide (new ≠ s.rcu.keys) } (be4 s.rcu.keys.toNat), setKeys new s)

/-- A field's writability and, for a drive field, the claim (checks 2, 3 and 5 of R7), then the change; `defined` is check 4. -/
def guardField (src : Source) (field : Byte) (defined : Field → Bool) (s : State) (k : Field → Answer × State) :
    Answer × State :=
  match Field.ofByte field with
  | none => (refusal .badField, s)
  | some f =>
    if !f.writable then (refusal .readOnly, s)
    else if !defined f then (refusal .badField, s)
    else if f.isDrive && !s.holds src then (refusal .notHolder, s)
    else k f

/-- WRITE (R9). -/
def serveWrite (src : Source) (field : Byte) (value : Word32) (s : State) : Answer × State :=
  guardField src field (fun _ => true) s fun f =>
    match f with
    | .direction => writeDirection value.toNat s
    | .keys => changeKeys value s
    | .restarted => writeRestarted value.toNat s
    | _ => writeNumeric f (f.top.getD 0) value.toNat s

/-- ADD (R10). -/
def serveAdd (src : Source) (field : Byte) (imm : Word16) (s : State) : Answer × State :=
  guardField src field (fun f => f.top.isSome) s fun f =>
    let top := f.top.getD 0
    let prior := s.numeric f
    (doneWith (addFlags prior imm top) (be1 prior), setNumeric f (addResult prior imm top) s)

/-- SWAP (R13). -/
def serveSwap (src : Source) (posted : Bool) (field : Byte) (value : Word32) (s : State) : Answer × State :=
  if posted then (refusal .badKind, s)
  else guardField src field (fun f => f.top.isSome) s fun f => writeNumeric f (f.top.getD 0) value.toNat s

/-- The key set after a KEYS request (R11). -/
def maskedKeys (old mask states : KeySet) : KeySet := (old &&& ~~~mask) ||| (states &&& mask)

/-- KEYS (R11). -/
def serveKeys (src : Source) (field : Byte) (mask states : KeySet) (s : State) : Answer × State :=
  guardField src field (fun f => decide (f = .keys)) s fun _ => changeKeys (maskedKeys s.rcu.keys mask states) s

/-- FLIP (R12). -/
def serveFlip (src : Source) (field : Byte) (mask : KeySet) (s : State) : Answer × State :=
  guardField src field (fun f => decide (f = .keys)) s fun _ => changeKeys (s.rcu.keys ^^^ mask) s

/-! ## The drive claim (1.5) -/

/-- A throttle is in the dispatcher list. -/
def Configuration.dispatches (c : Configuration) (id : Byte) : Bool := c.dispatchers.toList.any fun d => d == some id

/-- The rank of a holder as a number; NONE has none (1.5.1). -/
def Configuration.rank (c : Configuration) : Holder → Nat
  | .none => 0
  | .throttle id => if c.dispatches id then 2 else 1
  | .hostProcessor => 1 + c.hostRank.code

/-- A CLAIM that names the requester succeeds (R16). -/
def State.claimSucceeds (s : State) (src : Source) (expected : Byte) : Bool :=
  decide (s.rcu.holder = Holder.ofByte expected)
    && (decide (s.rcu.holder = .none) || s.holds src || decide (s.cfg.rank s.rcu.holder < s.cfg.rank (holderOf src)))

/-- The effects of a successful CLAIM (R17). -/
def takeClaim (src : Source) (s : State) : State := setHolder (frameOf src) (holderOf src) (setFailsafe false (startLease s))

/-- CLAIM (R16). -/
def serveClaim (src : Source) (posted : Bool) (expected newHolder : Byte) (s : State) : Answer × State :=
  if posted then (refusal .badKind, s)
  else
    let found := [s.rcu.holder.byte]
    if newHolder ≠ (holderOf src).byte then ({ code := .denied, value := found }, s)
    else if s.claimSucceeds src expected then (doneWith { claimOk := true } found, takeClaim src s)
    else (doneWith {} found, s)

/-- RELEASE with STOP sets TARGET_NOTCH to 0 (R18). -/
def stopNotch (s : State) : State :=
  if s.rcu.targetNotch = 0 then s else motionTakeStop (onRcu (fun r => { r with targetNotch := 0 }) s)

/-- RELEASE (R18). -/
def serveRelease (src : Source) (choice : Byte) (s : State) : Answer × State :=
  if 1 < choice.toNat then (refusal .badValue, s)
  else if !s.holds src then (refusal .notHolder, s)
  else
    let found := [s.rcu.holder.byte]
    let s := if choice = 1 then stopNotch s else s
    (doneWith {} found, setHolder (frameOf src) .none (onRcu (fun r => { r with lease := .stopped }) s))

/-- HALT_NOW (R24). -/
def serveHalt (s : State) : Answer × State := (doneWith {} [], motionHalt (onRcu (fun r => { r with targetNotch := 0 }) s))

/-! ## The lease expiry (R20) -/

/-- The lease expires (R20). MOC executes the loss action as it takes it, in part 1 of R20, and so the MOTION_STATE notice of a COAST
that completes a reversal and the end of a SLIP stand in the queue before the LEASE_EXPIRED of part 4. DESIGN CHOICE: R20 has no order for
MOC's notices and RCU's (log entry 18). -/
def expireLease (s : State) : State :=
  let lost := s.rcu.holder
  let action := s.cfg.lossAction
  let s := motionTakeLoss action (onRcu (fun r => { r with targetNotch := 0, lease := .stopped }) s)
  setHolder none .none (pushNotice (.leaseExpired lost action) (setFailsafe true s))

/-- LEASE_EXPIRY (R20). -/
def execLeaseExpiry (s : State) : Out := whenReleased (fun s => onExpiry s.rcu.lease expireLease s) s

end Sys2Proof.Machine
end

