-- ==== Sys2Proof/Machine/Requests.lean ====
section
/-! DEFINITION. Requests from their port to their owner and back: the owner of each kind (1.4), the Host Port (chapter 12), and the
requests of a throttle taken one at a time. -/

namespace Sys2Proof.Machine

/-! ## The owner of a request -/

/-- The owner of a request's kind applies or refuses it (1.4, R7). -/
def serveOwner (src : Source) (posted : Bool) (tag : Byte) (b : Body) (s : State) : Answer × State :=
  match b with
  | .read f sel => serveRead posted f sel s
  | .write f v => serveWrite src f v s
  | .add f imm => serveAdd src f imm s
  | .keys f m st => serveKeys src f m st s
  | .flip f m => serveFlip src f m s
  | .swap f v => serveSwap src posted f v s
  | .claim e n => serveClaim src posted e n s
  | .release c => serveRelease src c s
  | .haltNow => serveHalt s
  | .measure ch => serveMeasure posted tag ch s
  | .play v c g t => servePlay v c g t s
  | .refill a => serveRefill a s
  | .sceneWrite r st d codes => serveSceneWrite r st d codes s
  | .clearFaults m => serveClearFaults m s
  | .configRead i e => serveConfigRead i e s
  | .configWrite i e v => serveConfigWrite i e v s
  | .commit => serveCommit src posted tag s

/-- An accepted request from the drive holder refreshes the lease (R19), after its effect: the holder's own change of LEASE_TIME is refreshed
with the new time (log entry 41). -/
def refreshLease (src : Source) (code : Code) (s : State) : State :=
  if !code.refuses && s.holds src then startLease s else s

/-- A request is applied or refused by its owner, and refreshes the lease where R19 says so. -/
def serve (src : Source) (posted : Bool) (tag : Byte) (b : Body) (s : State) : Answer × State :=
  let r := serveOwner src posted tag b s
  (r.1, refreshLease src r.1.code r.2)

/-- A kind that is taken as posted, whatever its record says (R24). -/
def Kind.alwaysPosted (k : Kind) : Bool := decide (k = .haltNow)

/-- A kind whose completion comes later at the Host Port (R185). -/
def Kind.deferred (k : Kind) : Bool := decide (k = .measure) || decide (k = .commit)

/-! ## The length of a record (R39, R185) -/

/-- The LENGTH byte of a record is below what its head alone takes. -/
def recordTooShort (h : Head) : Bool := decide (h.length.toNat < headBytes h.posted)

/-- The LENGTH byte is the one the kind's layout requires. -/
def recordFits (h : Head) (b : Body) : Bool := decide (h.length.toNat = headBytes h.posted + b.operandBytes)

/-- The request to hand on, or none where its length refuses it. A CONFIG_WRITE that carries its item is handed on with an empty value,
which CFS refuses after checks 1 to 3 of R179; one that ends after the item names no entry (log entry 31). -/
def handOn (h : Head) (b : Body) : Option Body :=
  if recordFits h b then some b
  else
    match b with
    | .configWrite i e _ =>
      if headBytes h.posted + 2 ≤ h.length.toNat then some (.configWrite i e [])
      else if headBytes h.posted + 1 ≤ h.length.toNat then some (.configWrite i noEntry [])
      else none
    | _ => none

/-! ## REQUEST transactions (R184, R185) -/

/-- The port can begin a transaction: the select line has fallen and no byte has come. A command that comes in IDLE brings the fall
with it (log entry 17). -/
def Hpt.fresh (h : Hpt) : Bool :=
  match h.transaction with
  | .idle => !h.selectLow
  | .kind => true
  | _ => false

/-- The port can take a request record. -/
def Hpt.takesRecord (h : Hpt) : Bool := h.fresh || decide (h.transaction = .receiving)

/-- HPT with its own state changed. -/
def onHpt (f : Hpt → Hpt) (s : State) : State := { s with hpt := f s.hpt }

/-- Byte `i` of those the part shifts out from here on: its answer, and 0xFF beyond its end and where it has none (R184). -/
def Hpt.shifted (h : Hpt) (i : Nat) : Byte := h.out.getD i 0xFF

/-- HPT counts a framing error and enters FILLING (R184, R185). -/
def framingError (s : State) : State :=
  onHpt (fun h => { h with framingErrors := countUp h.framingErrors 255, transaction := .filling, selectLow := true, out := [] }) s

/-- What HPT does with a request whose record is complete (R185). -/
def hostServe (h : Head) (b : Body) (s : State) : Answer × State :=
  if s.rcu.views.powerState = .load then (refusal .busy, s)
  else
    match handOn h b with
    | none => (refusal .badValue, s)
    | some b' =>
      if b.kind.deferred && decide (Config.deferredSlots ≤ s.hpt.slots.length) then (refusal .busy, s)
      else serve .host h.posted h.tag b' s

/-- A record is complete: HPT enters TURNAROUND, with its two bytes of 0x00 to shift out (R185). -/
def Hpt.turnAround (h : Hpt) : Hpt := { h with transaction := .turnaround, selectLow := true, out := [0x00, 0x00] }

/-- HPT enters SENDING, with these bytes after those it has to shift out (R185, R188). -/
def Hpt.send (h : Hpt) (bytes : List Byte) : Hpt := { h with transaction := .sending, selectLow := true, out := h.out ++ bytes }

/-- The answer of a request leaves by the Host Port: TURNAROUND, then SENDING with the response record, or with nothing for a posted
request, whose refusal is an ERROR notice (R26, R185; log entry 17). -/
def hostAnswer (kind : Byte) (posted : Bool) (tag : Byte) (r : Answer × State) : State :=
  let s := if posted && r.1.code.refuses then pushNotice (.error kind r.1.code) r.2 else r.2
  onHpt (fun h => h.turnAround.send (if posted then [] else Response.bytes ⟨tag, r.1⟩)) s

/-- A REQUEST transaction receives a record. -/
def hostRequest (h : Head) (b : Body) (s : State) : State :=
  if !s.hpt.takesRecord then s
  else if recordTooShort h then framingError s
  else hostAnswer b.kind.byte (h.posted || b.kind.alwaysPosted) h.tag (hostServe h b s)

/-! ## Requests of a throttle (R7, R39) -/

/-- RIF refuses a kind from a throttle (R39). -/
def radioDenies (c : Configuration) (id : Byte) (k : Kind) : Bool :=
  match k with
  | .measure => true
  | .configWrite => !c.dispatches id
  | .commit => !c.dispatches id
  | _ => false

/-- A kind that may not be posted (check 1 of R7). -/
def Kind.neverPosted (k : Kind) : Bool := decide (k = .read) || decide (k = .swap) || decide (k = .claim)

/-- A request of a defined kind from a throttle: check 1 of R7, R39, then its owner. `body` is none where its length is wrong: that is
judged after both refusals, which R39 leaves open (log entry 31). -/
def radioServe (id : Byte) (posted : Bool) (tag : Byte) (k : Kind) (body : Option Body) (s : State) : Answer × State :=
  if posted && k.neverPosted then (refusal .badKind, s)
  else if radioDenies s.cfg id k then (refusal .denied, s)
  else
    match body with
    | none => (refusal .badValue, s)
    | some b => serve (.throttle id) posted tag b s

/-- The entry a request leaves in a reply: its response, or an error entry for a refused posted request (R26, R43). -/
def replyEntry (kind : Byte) (posted : Bool) (tag : Byte) (a : Answer) : Option ReplyEntry :=
  if posted then (if a.code.refuses then some (.error kind a.code) else none) else some (.response ⟨tag, a⟩)

/-- A throttle ID lies in 1 to 254. -/
def throttleId (id : Byte) : Bool := decide (id ≠ 0) && decide (id ≠ 255)

/-- The frame's arrival is handed to RCU (R19, R37). -/
def frameArrives (id : Byte) (s : State) : State := if s.holds (.throttle id) then startLease s else s

/-- The accepted frame that a request of a throttle taken alone comes in: where RIF holds no entry of the throttle, the frame is heard with
the command, as R35 and R37 have it heard before anything of it is handed on. It is complete at this moment, and its SEQ, which the command
does not carry, is a free value. A throttle that has an entry is taken to have been heard (log entry 4). -/
def hearThrottle (id : Byte) (s : State) : State :=
  if (s.rif.entry id).isSome then s
  else
    frameArrives id { s with
      rif := s.rif.hear id (Config.frameSeq s.freeIndex) s.now, freeIndex := s.freeIndex + 1 }

/-- A request of a throttle taken alone (log entry 4): what a locomotive-addressed frame's run does with it, outside LOAD. Its throttle
has an entry of the throttle table before it is handed on (R35, R36). While RIF handles a frame it takes no other (R37). -/
def radioRequest (id : Byte) (h : Head) (b : Body) (s : State) : State :=
  if !throttleId id || decide (s.rcu.views.powerState = .load) || recordTooShort h || s.rif.handling.isSome then s
  else
    let r := radioServe id h.posted h.tag b.kind (handOn h b) (hearThrottle id s)
    { r.2 with rif := { r.2.rif with lastEntry := replyEntry b.kind.byte (h.posted || b.kind.alwaysPosted) h.tag r.1 } }

/-- A request record arrives at its port. -/
def takeRequest (h : Head) (b : Body) (s : State) : State :=
  match h.source with
  | .host => hostRequest h b s
  | .throttle id => radioRequest id h b s

/-! ## The request commands -/

/-- READ (R8). -/
def execRead (h : Head) (field selector : Byte) (s : State) : Out := whenReleased (takeRequest h (.read field selector)) s

/-- WRITE (R9). -/
def execWrite (h : Head) (field : Byte) (value : Word32) (s : State) : Out := whenReleased (takeRequest h (.write field value)) s

/-- ADD (R10). -/
def execAdd (h : Head) (field : Byte) (imm : Word16) (s : State) : Out := whenReleased (takeRequest h (.add field imm)) s

/-- KEYS (R11). -/
def execKeys (h : Head) (field : Byte) (mask states : KeySet) (s : State) : Out :=
  whenReleased (takeRequest h (.keys field mask states)) s

/-- FLIP (R12). -/
def execFlip (h : Head) (field : Byte) (mask : KeySet) (s : State) : Out := whenReleased (takeRequest h (.flip field mask)) s

/-- SWAP (R13). -/
def execSwap (h : Head) (field : Byte) (value : Word32) (s : State) : Out := whenReleased (takeRequest h (.swap field value)) s

/-- CLAIM (R16). -/
def execClaim (h : Head) (expected newHolder : Byte) (s : State) : Out :=
  whenReleased (takeRequest h (.claim expected newHolder)) s

/-- RELEASE (R18). -/
def execRelease (h : Head) (choice : Byte) (s : State) : Out := whenReleased (takeRequest h (.release choice)) s

/-- HALT_NOW (R24). -/
def execHaltNow (h : Head) (s : State) : Out := whenReleased (takeRequest h .haltNow) s

/-- MEASURE (R86). -/
def execMeasure (h : Head) (channel : Byte) (s : State) : Out := whenReleased (takeRequest h (.measure channel)) s

/-- PLAY (R116). -/
def execPlay (h : Head) (voice clip : Byte) (gain : Word16) (timing : Byte) (s : State) : Out :=
  whenReleased (takeRequest h (.play voice clip gain timing)) s

/-- REFILL (R131). -/
def execRefill (h : Head) (amount : Word16) (s : State) : Out := whenReleased (takeRequest h (.refill amount)) s

/-- SCENE_WRITE (R149). -/
def execSceneWrite (h : Head) (row stepIndex duration : Byte) (codes : Vector Byte 12) (s : State) : Out :=
  whenReleased (takeRequest h (.sceneWrite row stepIndex duration codes)) s

/-- CLEAR_FAULTS (R175). -/
def execClearFaults (h : Head) (outputs : OutputSet) (s : State) : Out := whenReleased (takeRequest h (.clearFaults outputs)) s

/-- CONFIG_READ (R178). -/
def execConfigRead (h : Head) (item entry : Byte) (s : State) : Out := whenReleased (takeRequest h (.configRead item entry)) s

/-- CONFIG_WRITE (R179). -/
def execConfigWrite (h : Head) (item entry : Byte) (value : List Byte) (s : State) : Out :=
  whenReleased (takeRequest h (.configWrite item entry value)) s

/-- COMMIT (R181). -/
def execCommit (h : Head) (s : State) : Out := whenReleased (takeRequest h .commit) s

/-! ## The other transactions of the Host Port (R184, R188) -/

/-- The select line falls while the part is released. -/
def selectFall (s : State) : State :=
  if s.hpt.selectLow then s else onHpt (fun h => { h with selectLow := true, transaction := .kind, out := [] }) s

/-- HOST_SELECT_FALL (R184); in device reset the line alone changes (R189). -/
def execHostSelectFall (s : State) : Out :=
  .next (if s.inReset then onHpt (fun h => { h with selectLow := true }) s else selectFall s)

/-- The select line rises while the part is released; a record not complete is a framing error (R184, R185). -/
def selectRise (s : State) : State :=
  onHpt (fun h => { h with
    selectLow := false, transaction := .idle, out := []
    framingErrors := if h.transaction = .receiving then countUp h.framingErrors 255 else h.framingErrors }) s

/-- HOST_SELECT_RISE (R184); in device reset the line alone changes (R189). -/
def execHostSelectRise (s : State) : Out :=
  .next (if s.inReset then onHpt (fun h => { h with selectLow := false }) s else selectRise s)

/-- A NOTICE transaction may return this notice: any outside LOAD, and in LOAD an ERROR alone (R189). DESIGN CHOICE: R188 has NOTICE take
the oldest notice of all, and R150 may have pushed a SCENE_WAITING in LOAD; it waits there until LOAD has ended (log entry 33). -/
def State.offers (s : State) (n : Notice) : Bool :=
  decide (s.rcu.views.powerState ≠ .load)
    || match n with
      | .error .. => true
      | _ => false

/-- The bytes a NOTICE transaction shifts out: the oldest notice that it may return, or the empty marker (R188, R189). -/
def State.noticeBytes (s : State) : List Byte :=
  match s.hpt.notices.find? s.offers with
  | none => emptyMarker
  | some n => n.bytes

/-- The seven bytes of STATUS (R188, R190). -/
def State.statusBytes (s : State) : List Byte :=
  be1 s.hpt.notices.length ++ be1 s.hpt.lost ++ be1 s.rcu.views.powerState.code ++ be1 s.rcu.views.motionState.code
    ++ be1 s.hpt.framingErrors ++ be2 s.rif.counts.replyOverrun

/-- The three transactions of the Host Port (R184). -/
inductive TransactionKind where
  | request
  | notice
  | status
deriving DecidableEq, Repr

/-- The transaction that the first byte names (R184). -/
def TransactionKind.ofByte (b : Byte) : Option TransactionKind :=
  if b = 0x01 then some .request
  else if b = 0x02 then some .notice
  else if b = 0x03 then some .status
  else none

/-- The port receives the first byte of a transaction (R184): REQUEST goes on to its record; NOTICE takes the oldest notice it may
return off the queue and shifts it out; STATUS takes its values together and sets the lost-event count to 0 (R188); any other byte is a
framing error. -/
def takeFirstByte (b : Byte) (s : State) : State :=
  if s.hpt.fresh then
    match TransactionKind.ofByte b with
    | some .request => onHpt (fun h => { h with transaction := .receiving, selectLow := true, out := [] }) s
    | some .notice => onHpt (fun h => { { h with out := [] }.send s.noticeBytes with notices := h.notices.eraseP s.offers }) s
    | some .status => onHpt (fun h => { { h with out := [] }.send s.statusBytes with lost := 0 }) s
    | none => framingError s
  else s

/-- NOTICE (R188). -/
def execNotice (s : State) : Out := whenReleased (takeFirstByte 0x02) s

/-- STATUS (R188). -/
def execStatus (s : State) : Out := whenReleased (takeFirstByte 0x03) s

/-- TRANSACTION_FRAMING_ERROR (R184, R185): a first byte that names no transaction, or a record too short for its head. -/
def execTransactionFramingError (cause : FramingCause) (s : State) : Out :=
  whenReleased (fun s =>
    match cause with
    | .unknownKind first => if (TransactionKind.ofByte first).isNone then takeFirstByte first s else s
    | .badLength => if s.hpt.takesRecord then framingError s else s) s

/-- A complete record of an undefined kind (R7, R185, log entry 12): BUSY in LOAD, and otherwise BAD_KIND. -/
def undefinedRecord (r : UndefinedRecord) (s : State) : State :=
  if recordTooShort r.head then framingError s
  else
    let code : Code := if s.rcu.views.powerState = .load then .busy else .badKind
    hostAnswer r.kind r.head.posted r.head.tag (refusal code, s)

/-- REQUEST_KIND_BYTE (R184): a REQUEST transaction is named, and HPT receives a record. -/
def execRequestKindByte (undefined : Option UndefinedRecord) (s : State) : Out :=
  whenReleased (fun s =>
    if s.hpt.fresh then
      let s := takeFirstByte 0x01 s
      match undefined with
      | none => s
      | some r => if (Kind.ofByte r.kind).isSome then s else undefinedRecord r s
    else s) s

end Sys2Proof.Machine
end

