-- ==== Sys2Proof/Machine/Radio.lean ====
section
/-! DEFINITION. The Radio Interface (chapter 2): the receive assembler, the frame checks, the throttle table, the run of one accepted
frame, consists, and replies. -/

namespace Sys2Proof.Machine

/-! ## The receive assembler (R28, R29) -/

/-- LEN lies in 8 to 46. -/
def frameLength (b : Byte) : Bool := decide (8 ≤ b.toNat ∧ b.toNat ≤ 46)

/-- A frame that its last byte has completed, with what RIF finds at its completion (R28, R30, R33). DESIGN CHOICE: the address and the
consist number it is filtered by are those of its completion, as R33's last sentence says, though R33 and 2.1 also name the moment of the
check (log entry 48, unsafe). -/
def State.completedFrame (s : State) (bytes : List Byte) : CompletedFrame :=
  ⟨bytes, s.now, decide (s.rcu.views.powerState = .load), s.cfg.locoAddress, s.cfg.consistNumber⟩

/-- A byte in COLLECTING (R28). -/
def collectByte (b : Byte) (s : State) : State :=
  let bytes := s.rif.collected ++ [b]
  if s.rif.frameLen ≤ bytes.length then
    onRif (fun r => { r with
      assembly := .idle, frameLen := 0, collected := [], interByte := .stopped
      completed := r.completed ++ [s.completedFrame bytes] }) s
  else onRif (fun r => { r with collected := bytes, interByte := s.timer Config.interByte }) s

/-- A byte from the modem (R28). -/
def takeByte (b : Byte) (s : State) : State :=
  match s.rif.assembly with
  | .idle =>
    if frameLength b then
      onRif (fun r => { r with
        assembly := .collecting, frameLen := b.toNat, collected := [], interByte := s.timer Config.interByte }) s
    else
      countRadio (fun c => { c with frameLength := countUp c.frameLength 65535 })
        (onRif (fun r => { r with assembly := .discarding, interByte := s.timer Config.interByte }) s)
  | .collecting => collectByte b s
  | .discarding => onRif (fun r => { r with interByte := s.timer Config.interByte }) s

/-- RADIO_BYTE (R28). -/
def execRadioByte (b : Byte) (s : State) : Out := whenReleased (takeByte b) s

/-- The inter-byte timer expires (R29). -/
def gapOnLink (s : State) : State :=
  let counts := decide (s.rif.assembly = .collecting)
  let s := onRif (fun r => { r with assembly := .idle, frameLen := 0, collected := [], interByte := .stopped }) s
  if counts then countRadio (fun c => { c with frameGap := countUp c.frameGap 65535 }) s else s

/-- INTER_BYTE_TIMER_EXPIRY (R29). -/
def execInterByteTimerExpiry (s : State) : Out := whenReleased (fun s => onExpiry s.rif.interByte gapOnLink s) s

/-! ## The frame checks (R30) -/

/-- A received frame by its parts. -/
structure Frame where
  dest     : Nat
  thr      : Byte
  seq      : Byte
  count    : Nat
  /-- the bytes of the request records -/
  requests : List Byte
  crcOk    : Bool
deriving DecidableEq, Repr

/-- The parts of the bytes after LEN (R190). The assembler completes no frame of fewer than 8 bytes. -/
def parseFrame (bs : List Byte) : Frame :=
  let body := bs.take (bs.length - 2)
  { dest := beNat (bs.take 2), thr := bs.getD 2 0, seq := bs.getD 3 0, count := (bs.getD 4 0).toNat, requests := body.drop 5
    crcOk := decide ((crc16 body).toNat = beNat (bs.drop (bs.length - 2))) }

/-- The address filter (R33), with the address and the consist number of the frame's completion (log entry 48). -/
def addressing (dest address consistNumber : Nat) : Option Addressing :=
  if dest = address then some .locomotive
  else if 1 ≤ consistNumber ∧ dest = 10000 + consistNumber then some .consist
  else if dest = 0 then some .broadcast
  else none

/-- The frame is a duplicate (R34). -/
def Rif.duplicate (r : Rif) (thr seq : Byte) (completedAt : Time) : Bool :=
  match r.entry thr with
  | none => false
  | some e => decide (e.lastSeq = seq) && decide (completedAt ≤ e.lastHeard + Config.duplicateWindow)

/-- What the six checks make of a frame: a counter to raise, or its records and addressing (R30). -/
inductive Verdict where
  | notReady
  | crc
  | badThrottle
  | frameLength
  | notMine
  | duplicate
  | accepted (records : List RawRecord) (addr : Addressing)
deriving DecidableEq, Repr

/-- The checks of R30, in their order. -/
def judgeFrame (f : CompletedFrame) (r : Rif) : Verdict :=
  let p := parseFrame f.bytes
  if f.duringLoad then .notReady
  else if !p.crcOk then .crc
  else if !throttleId p.thr then .badThrottle
  else if p.count < 1 ∨ 4 < p.count then .frameLength
  else
    match splitRecords p.count p.requests with
    | none => .frameLength
    | some records =>
      match addressing p.dest f.address f.consistNumber with
      | none => .notMine
      | some addr => if r.duplicate p.thr p.seq f.completedAt then .duplicate else .accepted records addr

/-! ## The ageing of an entry (R36) -/

/-- An entry has aged out: its time has come to more than 60 s since it was heard (R36). The drive holder's does not age, nor that of a
throttle whose frame RIF handles (log entry 49). -/
def ageEntry (id : Byte) (s : State) : State :=
  match s.rif.entry id with
  | none => s
  | some e =>
    if s.rif.holderView.names id || s.rif.handles none id then s
    else
      onRif (fun r => { r with throttles := r.throttles.filter fun x => x.id != id }) (s.reach (e.lastHeard + Config.entryAge + 1))

/-- THROTTLE_ENTRY_AGEING (R36). -/
def execThrottleEntryAgeing (id : Byte) (s : State) : Out := whenReleased (ageEntry id) s

/-! ## The run of an accepted frame (R37 to R42) -/

/-- The consist inverts directions (R40). -/
def Configuration.inverts (c : Configuration) : Bool := decide (c.consistOrientation = .reversed)

/-- A request of a consist-addressed frame as it is handed on (R40, R41). -/
def consistBody (c : Configuration) (b : Body) : Body :=
  match b with
  | .write f v =>
    if Field.ofByte f = some .direction then .write f (if c.inverts && decide (v.toNat ≤ 1) then 1 - v else v)
    else if Field.ofByte f = some .keys then .keys f c.consistKeyMask v
    else b
  | .keys f m st => .keys f (m &&& c.consistKeyMask) st
  | .flip f m => .flip f (m &&& c.consistKeyMask)
  | _ => b

/-- Whether the value of a request's answer is a direction (R40). -/
def Body.answersDirection : Body → Bool
  | .read f _ => decide (Field.ofByte f = some .direction) || decide (Field.ofByte f = some .runDirection)
  | .write f _ => decide (Field.ofByte f = some .direction)
  | _ => false

/-- A direction byte inverted. -/
def invertByte (b : Byte) : Byte := 1 - b

/-- An answer to a consist-addressed frame (R40). -/
def consistAnswer (c : Configuration) (b : Body) (a : Answer) : Answer :=
  if c.inverts && b.answersDirection && !a.code.refuses then { a with value := a.value.map invertByte } else a

/-- The request of a record; none for an undefined kind or a wrong length. -/
def RawRecord.body (r : RawRecord) : Option Body := (Kind.ofByte r.kind).bind fun k => parseBody k r.operands

/-- One request record of an accepted frame that is no broadcast (R37, step 3). `consist` is the configuration of the frame's check where
the frame is addressed to the consist: its orientation and its key mask hold for the whole frame (2.1, R40, R41; log entry 32). -/
def radioRecord (id : Byte) (consist : Option Configuration) (r : RawRecord) (s : State) : Answer × State :=
  match Kind.ofByte r.kind with
  | none => (refusal .badKind, s)
  | some k => radioServe id r.posted r.tag k (r.body.map fun b => (consist.map fun c => consistBody c b).getD b) s

/-- A record is taken as posted (R24, R190). -/
def RawRecord.asPosted (r : RawRecord) : Bool := r.posted || r.kind == Kind.haltNow.byte

/-- The requests of a frame, in frame order, each whole before the next, with the entry each leaves for the reply (R37, R43). A HALT_NOW
is always posted (R24): one of a wrong length is refused by R39, and leaves the error entry of R26 (log entry 46). -/
def radioRun (id : Byte) (consist : Option Configuration) : List RawRecord → State → List (RawRecord × Option ReplyEntry) × State
  | [], s => ([], s)
  | r :: rs, s =>
    let x := radioRecord id consist r s
    let rest := radioRun id consist rs x.2
    ((r, replyEntry r.kind r.asPosted r.tag x.1) :: rest.1, rest.2)

/-- The entry of a request as it is placed in the reply (R43): a consist frame's direction is inverted where R40 says so, by the
configuration of that moment (2.1; log entry 32). DESIGN CHOICE: the error entry of a HALT_NOW of wrong length is placed, by R39 and R26,
though R43 says that HALT_NOW never has an entry of its own (log entry 46). -/
def placeEntry (c : Configuration) (consist : Bool) (r : RawRecord) (e : ReplyEntry) : ReplyEntry :=
  match e with
  | .response x => if consist then .response { x with answer := (r.body.map fun b => consistAnswer c b x.answer).getD x.answer } else e
  | .error _ _ => e

/-- The entries that the requests of a frame leave, in frame order (R43). -/
def placeEntries (c : Configuration) (consist : Bool) (answered : List (RawRecord × Option ReplyEntry)) : List ReplyEntry :=
  answered.filterMap fun x => x.2.map (placeEntry c consist x.1)

/-! ## Replies (R43, R44) -/

/-- The reply to a frame, every value taken now (R43). -/
def State.replyTo (s : State) (dest seq : Byte) (consist : Bool) (entries : List ReplyEntry) : Reply where
  dest := dest
  src := s.cfg.locoAddress
  seq := seq
  runSpeed := s.rcu.views.runSpeed
  motionState := s.rcu.views.motionState
  runDirection := if consist && s.cfg.inverts then s.rcu.views.runDirection.flipped else s.rcu.views.runDirection
  holder := s.rcu.holder
  faultPresent := decide (s.rif.summaryView ≠ 0)
  restarted := s.rcu.restarted
  powerState := s.rcu.views.powerState
  entries := entries

/-- A reply is offered to the reply queue (R44). -/
def offerReply (r : Reply) (s : State) : State :=
  if Config.replyCapacity ≤ s.rif.replies.length then
    countRadio (fun c => { c with replyOverrun := countUp c.replyOverrun 65535 }) s
  else onRif (fun x => { x with replies := x.replies ++ [r], sending := if x.sending.isSome then x.sending else some r }) s

/-- REPLY_SENT (R44): the frame sent leaves the queue, and the transmitter takes the next. -/
def execReplySent (s : State) : Out :=
  whenReleased (fun s =>
    if s.rif.sending.isSome then onRif (fun r => { r with replies := r.replies.tail, sending := r.replies.tail.head? }) s else s) s

/-- A frame is answered: it is locomotive-addressed, or consist-addressed at the lead (R42, R43). -/
def Configuration.answers (c : Configuration) : Addressing → Bool
  | .locomotive => true
  | .consist => c.consistLead
  | .broadcast => false

/-- The reply to a frame whose requests have run is built and offered, where the frame calls for one (R42, R43, R44). -/
def answerFrame (run : FrameRun) (s : State) : State :=
  let consist := decide (run.addr = .consist)
  let entries := placeEntries s.cfg consist run.answered
  if s.cfg.answers run.addr && !entries.isEmpty then offerReply (s.replyTo run.thr run.seq consist entries) s else s

/-- RIF hands on the next requests of the frame in handling: as many as the first of `frameBreaks` says, and all that wait where none is
left. After the last it builds the reply; before, it keeps the frame, and what the part takes until the next RADIO_FRAME falls between two of
the frame's requests (R37, log entry 5). -/
def continueFrame (run : FrameRun) (s : State) : State :=
  let n := s.frameBreaks.headD run.waiting.length
  let x := radioRun run.thr run.consist (run.waiting.take n) { s with frameBreaks := s.frameBreaks.tail }
  let run := { run with waiting := run.waiting.drop n, answered := run.answered ++ x.1 }
  if run.waiting.isEmpty then answerFrame run x.2 else onRif (fun r => { r with handling := some run }) x.2

/-- The requests of a frame that are handed on: of a broadcast the HALT_NOW alone (R37, R38). -/
def Addressing.handsOn (a : Addressing) (records : List RawRecord) : List RawRecord :=
  match a with
  | .broadcast => records.filter fun r => r.kind == Kind.haltNow.byte && r.operands.isEmpty
  | _ => records

/-- An accepted frame (R37). -/
def acceptFrame (p : Frame) (t : Time) (records : List RawRecord) (addr : Addressing) (s : State) : State :=
  let s := frameArrives p.thr (onRif (·.hear p.thr p.seq t) s)
  continueFrame
    { thr := p.thr, seq := p.seq, addr := addr, consist := if addr = .consist then some s.cfg else none
      waiting := addr.handsOn records, answered := [] } s

/-- A completed frame is checked, and counted or accepted (R30). -/
def handleFrame (f : CompletedFrame) (s : State) : State :=
  match judgeFrame f s.rif with
  | .notReady => countRadio (fun c => { c with notReady := countUp c.notReady 65535 }) s
  | .crc => countRadio (fun c => { c with crc := countUp c.crc 65535 }) s
  | .badThrottle => countRadio (fun c => { c with badThrottle := countUp c.badThrottle 65535 }) s
  | .frameLength => countRadio (fun c => { c with frameLength := countUp c.frameLength 65535 }) s
  | .notMine => countRadio (fun c => { c with notMine := countUp c.notMine 65535 }) s
  | .duplicate => countRadio (fun c => { c with duplicate := countUp c.duplicate 65535 }) s
  | .accepted records addr => acceptFrame (parseFrame f.bytes) f.completedAt records addr s

/-- The frame in handling goes on; without one, the oldest frame completed is checked (R37). -/
def takeFrame (s : State) : State :=
  match s.rif.handling, s.rif.completed with
  | some run, _ => continueFrame run (onRif (fun r => { r with handling := none }) s)
  | none, [] => s
  | none, f :: rest => handleFrame f (onRif (fun r => { r with completed := rest }) s)

/-- RADIO_FRAME (R30, R37). -/
def execRadioFrame (s : State) : Out := whenReleased takeFrame s

end Sys2Proof.Machine
end

