-- ==== Sys2Proof/Machine/Reset.lean ====
section
/-! DEFINITION. Device reset and its release (R156, R157, R189): what each block does when the part leaves reset. -/

namespace Sys2Proof.Machine

/-- The image that a device reset leaves: part-written where a commit was in flight (R183). -/
def Cfs.imageAtReset (c : Cfs) : Image := if c.writing then badImage c.snapshot else c.image

/-- Device reset (R156): every block at its values after reset. The image is nonvolatile; the select line, the voltages on the pins,
the waiting commands and their breaks, the time and the count of free values are not the part's. -/
def deviceReset (s : State) : State :=
  { State.reset with
    pending := s.pending, now := s.now, freeIndex := s.freeIndex, frameBreaks := s.frameBreaks
    bmu := { ({} : Bmu) with trackPin := s.bmu.trackPin, capPin := s.bmu.capPin }
    cfs := { ({} : Cfs) with image := s.cfs.imageAtReset }
    hpt := { ({} : Hpt) with selectLow := s.hpt.selectLow } }

/-- RESETN_LOW (R189). -/
def execResetnLow (s : State) : Out := .next (deviceReset s)

/-- LOGIC_SUPPLY_FAIL (R156). -/
def execLogicSupplyFail (s : State) : Out := .next (deviceReset s)

/-! ## The start of the blocks in LOAD (R157) -/

/-- The image is good (R177). -/
def Image.good (i : Image) : Bool := i.items.crc == i.crc

/-- CFS loads the working configuration and reports (R177). -/
def loadConfiguration (s : State) : State :=
  let good := s.cfs.image.good
  let s := onCfs (fun c => { c with
    working := if good then c.image.items else Configuration.defaults
    dirty := !good, writing := false, origin := .none, writtenDuring := false }) s
  onPws (fun p => { p with storeReport := some (!good) }) s

/-- RCU initialises the record, and KEYS and VOLUME reach SSQ and LTC without edges (R2, R121, R136). -/
def initRecord (s : State) : State :=
  let k := s.cfg.startKeys
  let v := s.cfg.startVolume
  let s := onRcu (fun r => { r with keys := k, volume := v, restarted := true }) s
  let s := { s with ssq := { s.ssq with keysView := k, volumeView := v } }
  onPws (fun p => { p with recordReport := true }) (onLtc (fun l => { l with keysView := k }) s)

/-- BMU's schedule starts, with its first DIE_T conversion (R72). -/
def startSchedule (s : State) : State :=
  let s := onBmu (fun m => { m with
    running := true, periodStart := s.now, modulus := s.cfg.pwmModulus
    controlTimer := s.timer Config.controlPeriod, dieTimer := s.timer Config.diePeriod }) s
  appendChannel .dieT s

/-- A comparator's output as the schedule starts: its voltage against its level (R89). -/
def firstOutput (c : Configuration) (m : Bmu) (k : Comparator) : Bool := decide (c.level k ≤ m.pin k)

/-- BMU's first comparator report, which sets the track status without qualification (R72, R157). -/
def firstReport (s : State) : State :=
  let out := firstOutput s.cfg s.bmu
  let s := onBmu (fun m => { m with
    trackPresent := out .trackPresent, trackSag := out .trackSag, capReserve := out .capReserve, capResume := out .capResume }) s
  onPws (fun p => { p with
    presentView := out .trackPresent, sagView := out .trackSag, reserveView := out .capReserve, resumeView := out .capResume
    trackPresent := out .trackPresent, comparatorReport := true }) s

/-- BTG starts watching (R98). -/
def startBeats (s : State) : State :=
  publishBeats (onBtg (fun b => { b with watching := true, beatsInUse := s.cfg.beatsPerRev }) s)

/-- SMU takes the tank to be full, publishes, and starts its tick timer (R122). -/
def startSmoke (s : State) : State :=
  let s := setFluid s.cfg.fluidCapacity (onSmu (fun u => { u with tickTimer := s.timer Config.smokePeriod }) s)
  publish (fun v => { v with smokeState := .off }) s

/-- LTC evaluates the scene player's run condition and starts its frames (R136). A SCENE_WAITING notice of R150 stands in the queue from
here on; no NOTICE returns it before LOAD has ended (R189; log entry 33). -/
def startLights (s : State) : State := onLtc (fun l => { l with frameTimer := s.timer Config.lightPeriod }) (evaluateScene s)

/-- The time base of the audio samples starts, and the clip header is read from offset 0 (R101); CLIP_HEADER_READ is the end of that
transfer. -/
def startSound (s : State) : State :=
  { s with ssq := { s.ssq with sampleTimer := s.timer Config.samplePeriod, transfer := some .header } }

/-- MOC takes the speed curve and the beat source of the working configuration just loaded (R50, R63). -/
def startMotion (s : State) : State := motionTakeSettings s

/-- The part leaves device reset, and LOAD begins: all that R157 lets happen without the outside. -/
def release (trackV capV : Nat) (s : State) : State :=
  let s := onBmu (fun m => { m with trackPin := trackV, capPin := capV }) { s with inReset := false }
  let s := firstReport (startSchedule (initRecord (loadConfiguration s)))
  startSound (startLights (startSmoke (startBeats (startMotion s))))

/-- RESET_RELEASE (R156): the part leaves reset where the capacitor holds 4.4 V or more. -/
def execResetRelease (trackV capV : Nat) (s : State) : Out :=
  .next (if s.inReset && decide (Config.releaseVoltage ≤ capV) then release trackV capV s else s)

end Sys2Proof.Machine
end

