-- ==== Sys2Proof/Machine/Dispatch.lean ====
section
/-! DEFINITION. The dispatch: one arm per command, one direct call of its meaning. -/

namespace Sys2Proof.Machine

def exec (i : Instr) (s : State) : Host.Outcome State Fault Refusal :=
  match i with
  | .resetnLow => Sys2Proof.Machine.execResetnLow s
  | .logicSupplyFail => Sys2Proof.Machine.execLogicSupplyFail s
  | .resetRelease trackV capV => Sys2Proof.Machine.execResetRelease trackV capV s
  | .clipHeaderRead bytes => Sys2Proof.Machine.execClipHeaderRead bytes s
  | .loadEnd => Sys2Proof.Machine.execLoadEnd s
  | .read h field selector => Sys2Proof.Machine.execRead h field selector s
  | .write h field value => Sys2Proof.Machine.execWrite h field value s
  | .add h field imm => Sys2Proof.Machine.execAdd h field imm s
  | .keys h field mask states => Sys2Proof.Machine.execKeys h field mask states s
  | .flip h field mask => Sys2Proof.Machine.execFlip h field mask s
  | .swap h field value => Sys2Proof.Machine.execSwap h field value s
  | .claim h expected newHolder => Sys2Proof.Machine.execClaim h expected newHolder s
  | .release h choice => Sys2Proof.Machine.execRelease h choice s
  | .haltNow h => Sys2Proof.Machine.execHaltNow h s
  | .measure h channel => Sys2Proof.Machine.execMeasure h channel s
  | .play h voice clip gain timing => Sys2Proof.Machine.execPlay h voice clip gain timing s
  | .refill h amount => Sys2Proof.Machine.execRefill h amount s
  | .sceneWrite h row stepIndex duration codes => Sys2Proof.Machine.execSceneWrite h row stepIndex duration codes s
  | .clearFaults h outputs => Sys2Proof.Machine.execClearFaults h outputs s
  | .configRead h item entry => Sys2Proof.Machine.execConfigRead h item entry s
  | .configWrite h item entry value => Sys2Proof.Machine.execConfigWrite h item entry value s
  | .commit h => Sys2Proof.Machine.execCommit h s
  | .commitEnd good => Sys2Proof.Machine.execCommitEnd good s
  | .hostSelectFall => Sys2Proof.Machine.execHostSelectFall s
  | .hostSelectRise => Sys2Proof.Machine.execHostSelectRise s
  | .transactionFramingError cause => Sys2Proof.Machine.execTransactionFramingError cause s
  | .notice => Sys2Proof.Machine.execNotice s
  | .status => Sys2Proof.Machine.execStatus s
  | .radioByte b => Sys2Proof.Machine.execRadioByte b s
  | .interByteTimerExpiry => Sys2Proof.Machine.execInterByteTimerExpiry s
  | .radioFrame => Sys2Proof.Machine.execRadioFrame s
  | .replySent => Sys2Proof.Machine.execReplySent s
  | .throttleEntryAgeing id => Sys2Proof.Machine.execThrottleEntryAgeing id s
  | .leaseExpiry => Sys2Proof.Machine.execLeaseExpiry s
  | .controlStep => Sys2Proof.Machine.execControlStep s
  | .pwmPeriodStart => Sys2Proof.Machine.execPwmPeriodStart s
  | .pwmCompareMatch t charge => Sys2Proof.Machine.execPwmCompareMatch t charge s
  | .deadIntervalEnd t leg => Sys2Proof.Machine.execDeadIntervalEnd t leg s
  | .controlPeriodExpiry => Sys2Proof.Machine.execControlPeriodExpiry s
  | .gapSettleExpiry voltsF voltsR => Sys2Proof.Machine.execGapSettleExpiry voltsF voltsR s
  | .gapConversionEnd => Sys2Proof.Machine.execGapConversionEnd s
  | .conversionEnd value => Sys2Proof.Machine.execConversionEnd value s
  | .dieTimerExpiry => Sys2Proof.Machine.execDieTimerExpiry s
  | .supervisionComparatorChange c v => Sys2Proof.Machine.execSupervisionComparatorChange c v s
  | .shortComparatorTrip o current => Sys2Proof.Machine.execShortComparatorTrip o current s
  | .retryTimerExpiry o => Sys2Proof.Machine.execRetryTimerExpiry o s
  | .probationTimerExpiry o => Sys2Proof.Machine.execProbationTimerExpiry o s
  | .openTimerExpiry o => Sys2Proof.Machine.execOpenTimerExpiry o s
  | .beatSample => Sys2Proof.Machine.execBeatSample s
  | .sensorEdge => Sys2Proof.Machine.execSensorEdge s
  | .audioSample => Sys2Proof.Machine.execAudioSample s
  | .burstLands samples => Sys2Proof.Machine.execBurstLands samples s
  | .smokeTick => Sys2Proof.Machine.execSmokeTick s
  | .regulationStep => Sys2Proof.Machine.execRegulationStep s
  | .puffTimerExpiry => Sys2Proof.Machine.execPuffTimerExpiry s
  | .heaterPwmPeriodStart => Sys2Proof.Machine.execHeaterPwmPeriodStart s
  | .fanPwmPeriodStart => Sys2Proof.Machine.execFanPwmPeriodStart s
  | .lightPwmPeriodStart n => Sys2Proof.Machine.execLightPwmPeriodStart n s
  | .lightFrame => Sys2Proof.Machine.execLightFrame s
  | .trackQualificationExpiry => Sys2Proof.Machine.execTrackQualificationExpiry s
  | .bridgeLimitExpiry => Sys2Proof.Machine.execBridgeLimitExpiry s
  | .settleTimerExpiry => Sys2Proof.Machine.execSettleTimerExpiry s
  | .sagTimerExpiry => Sys2Proof.Machine.execSagTimerExpiry s
  | .requestKindByte undefinedRecord => Sys2Proof.Machine.execRequestKindByte undefinedRecord s
  | .heaterPwmCompare => Sys2Proof.Machine.execHeaterPwmCompare s
  | .fanPwmCompare => Sys2Proof.Machine.execFanPwmCompare s
  | .lightPwmCompare n => Sys2Proof.Machine.execLightPwmCompare n s

end Sys2Proof.Machine
end

