-- ==== Sys2Proof/Safety.lean ====
section
/-! DEFINITION. What holds of the part between any two commands: the claim, the queues, the power and shed stage that all blocks agree
on, the heater and the fan, the bridges, the fault records, the deferred requests, and the ranges of the drive and of the sound. -/

namespace Sys2Proof.Machine

/-- The claim as every block holds it: the lease runs exactly while there is a holder (R19), FAILSAFE means there is none (R22), RIF and
LTC hold what RCU holds (R6), and a throttle that holds the claim has an entry of the throttle table (R36), as has one whose frame RIF is
kept in (R35, R37). -/
structure ClaimInv (s : State) : Prop where
  lease    : s.rcu.holder = .none ↔ s.rcu.lease = .stopped
  failsafe : s.rcu.failsafe = true → s.rcu.holder = .none
  radio    : s.rif.holderView = s.rcu.holder
  lights   : s.ltc.failsafeView = s.rcu.failsafe
  heard    : ∀ id, s.rcu.holder = .throttle id → ∃ e ∈ s.rif.throttles, e.id = id
  frame    : ∀ run, s.rif.handling = some run → ∃ e ∈ s.rif.throttles, e.id = run.thr

/-- The frame in handling: it came from a throttle, one to four of its requests wait (R30), and each lies whole in its LENGTH (R190). -/
structure FrameRun.Fits (run : FrameRun) : Prop where
  throttle : run.thr ≠ 0 ∧ run.thr ≠ 255
  more     : run.waiting ≠ []
  count    : run.answered.length + run.waiting.length ≤ 4
  whole    : ∀ r ∈ run.waiting, (if r.posted then 3 else 4) + r.operands.length ≤ 255

/-- The queues stay in their sizes: notices (R187), deferred slots (R186), the conversion list (R83), replies (R44), and the
throttle table, whose IDs are all different (2.5). Device reset holds
no frame, LOAD none but those to drop, and a frame is in handling outside both alone (R30, R37, R46). -/
structure QueueInv (s : State) : Prop where
  notices     : s.hpt.notices.length ≤ 16
  deferred    : s.hpt.slots.length ≤ 4
  conversions : s.bmu.conversions.length ≤ 8
  replies     : s.rif.replies.length ≤ 4
  throttles   : s.rif.throttles.length ≤ 8
  distinct    : (s.rif.throttles.map ThrottleEntry.id).Nodup
  completed   : s.inReset = true ∨ s.rcu.views.powerState = .load → ∀ f ∈ s.rif.completed, s.inReset = false ∧ f.duringLoad = true
  handling    : ∀ run, s.rif.handling = some run → run.Fits ∧ s.inReset = false ∧ s.rcu.views.powerState ≠ .load

/-- The power state and the shed stage: the power contribution follows the power state (R166), the stage is the greatest contribution
(R164), and every block that takes either holds what PWS holds (R162, R164). -/
structure StageInv (s : State) : Prop where
  part      : s.pws.powerPart = powerPartOf s.pws.powerState
  sag       : s.pws.sagPart ≤ 3
  thermal   : s.pws.thermalPart = 0 ∨ s.pws.thermalPart = 2 ∨ s.pws.thermalPart = 4
  greatest  : s.pws.shedStage = max s.pws.powerPart (max s.pws.sagPart s.pws.thermalPart)
  stageRcu  : s.rcu.views.shedStage = s.pws.shedStage
  stageMoc  : s.moc.shedView = s.pws.shedStage
  stageSmu  : s.smu.shedView = s.pws.shedStage
  stageLtc  : s.ltc.shedView = s.pws.shedStage
  stageSsq  : s.ssq.shedView = s.pws.shedStage
  powerRcu  : s.rcu.views.powerState = s.pws.powerState
  powerMoc  : s.moc.powerView = s.pws.powerState
  powerCfs  : s.cfs.powerView = s.pws.powerState

/-- The motion state at rest: SUSPENDED exactly at shed stage 4 (R58), EMERGENCY exactly while the latch is set below it (R58), and P
is 0 in both (R59, R61). -/
structure RestInv (s : State) : Prop where
  suspended : s.moc.motionState = .suspended ↔ s.moc.shedView = 4
  emergency : s.moc.motionState = .emergency ↔ s.moc.emergencyLatch = true ∧ s.moc.shedView ≠ 4
  rest      : s.moc.emergencyLatch = true ∨ s.moc.shedView = 4 → s.moc.ramp = 0

/-- The heater and the fan: the heater is driven in WARMING and REGULATING alone, under the cap of the shed stage (R123, R125), the fan
in REGULATING alone (R133), a command of 0 leaves the switch off (R128, R134), ODU holds the commands SMU holds (R172), and device reset
holds the state OFF (7.1). -/
structure SmokeInv (s : State) : Prop where
  heater   : s.smu.state.heats = false → s.smu.heater = 0
  cap      : s.smu.heater ≤ (if s.smu.shedView = 0 then 255 else if s.smu.shedView = 1 then 127 else 0)
  stage    : s.smu.state.heats = true → s.smu.shedView < 2 ∧ s.smu.levelView ≠ 0
  fan      : s.smu.state ≠ .regulating → s.smu.fan = 0 ∧ s.smu.puffTimer = .stopped
  offH     : s.smu.heater = 0 → s.smu.heaterPwm.isOn = false
  offF     : s.smu.fan = 0 → s.smu.fanPwm.isOn = false
  commandH : (s.odu.watch .heater).command = s.smu.heater
  commandF : (s.odu.watch .fan).command = s.smu.fan
  shown    : s.rcu.views.smokeState = s.smu.state
  held     : s.inReset = true → s.smu.state = .off

/-- A bridge whose four switches are off. -/
def Bridge.isOff (b : Bridge) : Prop := b.output = .off ∧ b.legA = .off ∧ b.legB = .off

/-- The bridges: all switches are off while the schedule is STOPPED (R72), in an open gap (R78), and under a hold-off (R77), which BMU
holds exactly while ODU holds the truck's output off (R170); the settle timer runs in SETTLING and the conversion in CONVERTING
(R78, R79). -/
structure BridgeInv (s : State) : Prop where
  stopped    : s.bmu.running = false → s.bmu.front.isOff ∧ s.bmu.rear.isOff
  gap        : s.bmu.gap.keepsOff = true → s.bmu.front.isOff ∧ s.bmu.rear.isOff
  heldF      : s.bmu.front.heldOff = true → s.bmu.front.isOff
  heldR      : s.bmu.rear.heldOff = true → s.bmu.rear.isOff
  settling   : s.bmu.settleTimer.isRunning = true ↔ s.bmu.gap = .settling
  converting : s.bmu.gapConversion.isRunning = true ↔ s.bmu.gap = .converting
  oduF       : s.bmu.front.heldOff = s.heldOff (.truck .front)
  oduR       : s.bmu.rear.heldOff = s.heldOff (.truck .rear)

/-- The fault records and their timers (R170, R171, R173), and every block that takes a record holding what ODU holds (R169): RCU, MOC,
BTG, LTC and SMU, which is in FAULT while the heater is held off (R126). -/
structure FaultInv (s : State) : Prop where
  waits     : ∀ o, (s.odu.watch o).record.state = .shortWait ↔ (s.odu.watch o).retry.isRunning = true
  probation : ∀ o, (s.odu.watch o).probation.isRunning = true → (s.odu.watch o).record.state = .ok
  openTest  : ∀ o, (s.odu.watch o).openTimer.isRunning = true →
                (s.odu.watch o).record.state = .ok ∧ (s.odu.watch o).record.opened = false
  shorted   : ∀ o, s.heldOff o = true → (s.odu.watch o).record.shorted = true
  retries   : ∀ o, (s.odu.watch o).record.retries ≤ 3
  shown     : ∀ o, s.rcu.views.faults[outputIndex o] = (s.odu.watch o).record
  motion    : ∀ t, (s.moc.truck t).faultView = (s.odu.watch (.truck t)).record.state
  beats     : s.btg.heldF = s.heldOff (.truck .front) ∧ s.btg.heldR = s.heldOff (.truck .rear)
  lights    : ∀ n, (s.ltc.lights[n]).faultView = (s.odu.watch (.light n)).record.state
  heater    : s.smu.faultView = (s.odu.watch .heater).record.state ∧ s.smu.shortView = (s.odu.watch .heater).record.shorted
  smoke     : s.heldOff .heater = true → s.smu.state = .fault
  summary   : s.odu.summary = s.odu.faultSet ∧ s.rcu.views.faultSummary = s.odu.summary ∧ s.rif.summaryView = s.odu.summary

/-- The deferred requests: a slot of the Host Port is HELD for each MEASURE that waits in BMU and for a commit of the host in flight,
and for nothing else (R86, R181, R186); device reset holds none (R88, R183, R189). -/
structure DeferredInv (s : State) : Prop where
  kinds    : ∀ x ∈ s.hpt.slots, x.kind = .measure ∨ x.kind = .commit
  measures : ∀ tag, s.hpt.slots.count ⟨.measure, tag⟩ = (s.bmu.slots.map SpotSlot.tag).count tag
  commits  : ∀ tag, s.hpt.slots.count ⟨.commit, tag⟩ = if s.cfs.origin = .host tag then 1 else 0
  idle     : s.cfs.writing = false → s.cfs.origin = .none
  held     : s.inReset = true → s.hpt.slots = [] ∧ s.bmu.slots = []

/-- A truck's regulator in its ranges (3.1): J, L, u and D. -/
structure TruckControl.InRange (x : TruckControl) : Prop where
  integral : -4194304 ≤ x.integral ∧ x.integral ≤ 4194303
  ceiling  : x.ceiling ≤ 1023
  output   : x.output ≤ 1023
  duty     : x.duty ≤ 1023

/-- The drive in its ranges (3.1, 4.1): both regulators, C_slip, the slip count, the duty shadows and the published duties. -/
structure DriveInv (s : State) : Prop where
  front     : s.moc.front.InRange
  rear      : s.moc.rear.InRange
  slipCap   : s.moc.slipCap ≤ 1023
  slipCount : s.moc.slipCount ≤ 3
  shadows   : s.bmu.front.dutyShadow ≤ 1023 ∧ s.bmu.rear.dutyShadow ≤ 1023
  shown     : s.rcu.views.dutyF ≤ 1023 ∧ s.rcu.views.dutyR ≤ 1023

/-- The sound (6.1): a buffer never holds more than 64 samples, a burst in flight counted (R106), the output compare lies in 0 to 1023
(R118), the counters saturate, and RCU holds what SSQ counts (R108); without sound no voice sounds (R101). -/
structure SoundInv (s : State) : Prop where
  buffers   : ∀ i : Fin 6, (s.ssq.voices[i]).buffer.length + ((s.ssq.voices[i]).burst.getD 0) ≤ 64
  compare   : s.ssq.outputCompare ≤ 1023
  clips     : s.ssq.soundClips ≤ 65535
  underruns : s.ssq.underruns ≤ 65535
  shown     : s.rcu.views.soundClips = s.ssq.soundClips ∧ s.rcu.views.soundUnderruns = s.ssq.underruns

end Sys2Proof.Machine
end

