-- ==== Sys2Proof/Certificates/Slice0/Obligations.lean ====
section
/-! DEFINITION. The statements for the provers. The words they are written in stand first, in `Sys2Proof.Spec`: each follows the rule it
cites, and none unfolds the meaning of a command. -/

open Sys2Proof Sys2Proof.Machine

namespace Sys2Proof.Spec

/-! ## Requests -/

/-- A request record of `operands` operand bytes lies whole at a port that takes it, outside device reset and outside LOAD: its LENGTH is
the one its layout requires (R190), the Host Port is receiving a REQUEST's record (R185), and a throttle's ID lies in 1 to 254, RIF has
heard it (R35), and RIF handles no frame, which it would finish first (R37; log entry 4). A throttle that RIF has not heard is in
RepliesLeaveAndEntriesAge. -/
structure Arrives (h : Head) (operands : Nat) (s : State) : Prop where
  released : s.inReset = false
  loaded   : s.rcu.views.powerState ≠ .load
  whole    : h.length.toNat = (if h.control.getLsbD 0 then 3 else 4) + operands
  port     : match h.source with
             | .host => s.hpt.transaction = .receiving
             | .throttle id => id ≠ 0 ∧ id ≠ 255 ∧ s.rif.handling = none ∧ ∃ e ∈ s.rif.throttles, e.id = id

/-- The answer of a request leaves (R14, R26, R185): at the Host Port the two bytes of 0x00 of TURNAROUND and then, in SENDING, the response
record, or, for a posted request and for HALT_NOW, nothing but an ERROR notice where it was refused; to a throttle, its entry of the
reply. -/
def answered (h : Head) (kind : Byte) (a : Answer) (s : State) : State :=
  let posted := h.control.getLsbD 0 || kind == 0x18
  match h.source with
  | .host =>
    let s := if posted = true ∧ a.code ≠ .done ∧ a.code ≠ .accepted then pushNotice (.error kind a.code) s else s
    { s with
      hpt.transaction := .sending, hpt.selectLow := true
      hpt.out := [0x00, 0x00] ++ (if posted then [] else [h.tag, a.code.byte, a.flags.byte, BitVec.ofNat 8 a.value.length] ++ a.value) }
  | .throttle _ =>
    { s with
      rif.lastEntry :=
        if posted then (if a.code = .done ∨ a.code = .accepted then none else some (.error kind a.code))
        else some (.response ⟨h.tag, a⟩) }

/-- An accepted request of the drive holder sets the lease back to the configured lease time, in tenths of a second (R19). -/
def leased (src : Source) (s : State) : State :=
  if s.rcu.holder = holderOf src then { s with rcu.lease := .running (s.now + 1600000 * s.cfs.working.leaseTime) } else s

/-- An accepted request whose effect led to `s`: the lease, then the answer. -/
def accepted (h : Head) (kind : Byte) (a : Answer) (s : State) : State := answered h kind a (leased h.source s)

/-- A refused request: nothing but the answer (R7, R14). -/
def refused (h : Head) (kind : Byte) (code : Code) (s : State) : State := answered h kind { code := code } s

/-- A number as one byte. -/
def byte (n : Nat) : Byte := BitVec.ofNat 8 n

/-- A change of a numeric field as a request asks for it: the request's head, the field's number, the kind code, the count of operand
bytes, the flags of the answer, and the value the field takes. -/
structure Setting where
  head     : Head
  field    : Byte
  kind     : Byte
  operands : Nat
  flags    : Flags
  new      : Nat

/-- WRITE and SWAP take a value above the top of the field's range as the top, with CLAMPED (R9, R13); ADD takes its immediate in −255 to
255, with CLAMPED, and the sum in the field's range, with SATURATED (R10). A posted SWAP is no change (R7). -/
def setting (top old : Nat) : Instr → Option Setting
  | .write h f v => some ⟨h, f, 0x11, 5, { clamped := decide (top < v.toNat) }, min v.toNat top⟩
  | .swap h f v =>
    if h.control.getLsbD 0 then none else some ⟨h, f, 0x15, 5, { clamped := decide (top < v.toNat) }, min v.toNat top⟩
  | .add h f imm =>
    let i := max (-255) (min 255 imm.toInt)
    some ⟨h, f, 0x12, 3, { clamped := decide (i ≠ imm.toInt), saturated := decide (old + i < 0 ∨ (top : Int) < old + i) },
      (max 0 (min (top : Int) (old + i))).toNat⟩
  | _ => none

end Sys2Proof.Spec

/-! ## The queue and device reset -/

/-- A command at the front of the queue runs with the queue's rest waiting; on an empty queue one count of the clock passes, which is the
model's choice (log entry 2). -/
def Obligations.QueueFrontRuns : Prop :=
  (∀ (c : Instr) (rest : List Instr) (s : State), step { s with pending := c :: rest } = exec c { s with pending := rest })
  ∧ ∀ s : State, step { s with pending := [] } = .next { s with pending := [], now := s.now + 1 }

/-- Every command completes in every state, leaves the waiting commands as they are, and never turns time back (log entries 1 and 3). -/
def Obligations.EveryCommandCompletes : Prop :=
  ∀ (c : Instr) (s : State), ∃ t, exec c s = .next t ∧ t.pending = s.pending ∧ s.now ≤ t.now

/-- A device reset puts every block at its values after reset at once (R156, R189). The image stays, part-written where a commit was in
flight (R183); the queue, the time, the count of free values, the voltages on the pins and the select line are not the part's. While the
part is held in reset, no command but a reset, a release at 4.4 V or more and the select line changes anything. The values the spec
gives no reset for are log entries 9 and 37, the pins kept log entry 8, and the contents of a part-written image log entry 24. -/
def Obligations.DeviceReset : Prop :=
  (∀ (c : Instr) (s : State), c = .resetnLow ∨ c = .logicSupplyFail →
    exec c s = .next
      { State.reset with
        pending := s.pending, now := s.now, freeIndex := s.freeIndex, frameBreaks := s.frameBreaks
        bmu.trackPin := s.bmu.trackPin, bmu.capPin := s.bmu.capPin
        cfs.image := if s.cfs.writing then badImage s.cfs.snapshot else s.cfs.image
        hpt.selectLow := s.hpt.selectLow })
  ∧ (∀ s : State, s.inReset = true →
      exec .hostSelectFall s = .next { s with hpt.selectLow := true }
      ∧ exec .hostSelectRise s = .next { s with hpt.selectLow := false })
  ∧ ∀ (c : Instr) (s : State), s.inReset = true → c ≠ .resetnLow → c ≠ .logicSupplyFail → c ≠ .hostSelectFall → c ≠ .hostSelectRise →
      (∀ trackV capV, c = .resetRelease trackV capV → capV < 440) → exec c s = .next s

namespace Sys2Proof.Spec

/-- The configuration that LOAD takes: the image where it is good and was not being written, and the defaults otherwise (R177, R183). -/
def loaded (s : State) : Bool × Configuration :=
  if s.cfs.writing = false ∧ s.cfs.image.items.crc = s.cfs.image.crc then (true, s.cfs.image.items) else (false, Configuration.defaults)

end Sys2Proof.Spec

/-- After a device reset at any point, a release with the capacitor at 4.4 V or more starts LOAD: CFS takes the image where it is good, and
the defaults where it is bad or a commit was in flight (R177, R183); RCU initialises the record with the start keys and volume (R2); BMU
starts its schedule, converts a first DIE_T and reports its comparators (R72, R89); BTG watches (R98); SMU takes the tank to be full
(R122); LTC starts its frames, and waits on row A, with a notice, where the scene key is on (R136, R150); the header read begins (R101). MOC's
curve and beat source are log entry 38, the time base and the pins log entries 1, 8 and 30, TEMPERATURE and the
held motor voltages log entry 9, the image a reset
part-writes log entry 24, the row and step of the player log entry 37, and the notice in LOAD log entry 33. -/
def Obligations.ReleaseStartsLoad : Prop :=
  ∀ (s : State) (trackV capV : Nat), 440 ≤ capV →
    ∃ r, exec .resetnLow s = .next r ∧ ∃ t, exec (.resetRelease trackV capV) r = .next t ∧
      let c := (Spec.loaded s).2
      let waits := match c.sceneKey with
        | none => false
        | some k => c.startKeys.getLsbD k.val
      t.inReset = false ∧ t.now = s.now
      ∧ t.cfs = { State.reset.cfs with
          image := if s.cfs.writing then badImage s.cfs.snapshot else s.cfs.image
          working := c, dirty := !(Spec.loaded s).1 }
      ∧ t.rcu = { State.reset.rcu with keys := c.startKeys, volume := c.startVolume, restarted := true, views.fluid := c.fluidCapacity }
      ∧ t.bmu = { State.reset.bmu with
          running := true, periodStart := s.now, modulus := c.pwmModulus
          controlTimer := .running (s.now + 80000), dieTimer := .running (s.now + 1600000)
          converting := some (.dieT, s.now + 160), trackPin := trackV, capPin := capV
          trackPresent := decide (600 + 200 * c.trackPresentLevel.val ≤ trackV)
          trackSag := decide (1200 + 200 * c.trackSagLevel.val ≤ trackV)
          capReserve := decide (500 + 50 * c.capReserveLevel.val ≤ capV)
          capResume := decide (800 + 100 * c.capResumeLevel.val ≤ capV) }
      ∧ t.btg = { State.reset.btg with watching := true, beatsInUse := c.beatsPerRev }
      ∧ t.ssq = { State.reset.ssq with
          keysView := c.startKeys, volumeView := c.startVolume
          sampleTimer := .running (s.now + 1000), transfer := some .header }
      ∧ t.smu = { State.reset.smu with fluid := c.fluidCapacity, tickTimer := .running (s.now + 1600000) }
      ∧ t.ltc = { State.reset.ltc with
          keysView := c.startKeys, frameTimer := .running (s.now + 160000), player := if waits then .waiting else .stopped }
      ∧ t.pws = { State.reset.pws with
          presentView := t.bmu.trackPresent, sagView := t.bmu.trackSag, reserveView := t.bmu.capReserve
          resumeView := t.bmu.capResume, trackPresent := t.bmu.trackPresent
          storeReport := some (!(Spec.loaded s).1), recordReport := true, comparatorReport := true }
      ∧ t.hpt = { State.reset.hpt with selectLow := s.hpt.selectLow, notices := if waits then [.sceneWaiting .a] else [] }
      ∧ t.moc = { State.reset.moc with curve := c.speedCurve, beatSource := c.beatSource }
      ∧ t.rif = State.reset.rif ∧ t.odu = State.reset.odu

namespace Sys2Proof.Spec

/-- Byte `i` of the clip header; a flash that does not answer reads as all ones (R101). -/
def headerByte (bytes : List Byte) (i : Nat) : Byte := bytes.getD i 0xFF

/-- The three-byte number at an offset of the header, high byte first (R190). -/
def header3 (bytes : List Byte) (i : Nat) : Nat :=
  65536 * (headerByte bytes i).toNat + 256 * (headerByte bytes (i + 1)).toNat + (headerByte bytes (i + 2)).toNat

/-- The header is good: signature, clip count in 1 to 64, and the CRC-16 over all that precedes it (R101). -/
def headerGood (bytes : List Byte) : Prop :=
  let n := (headerByte bytes 4).toNat
  headerByte bytes 0 = 0x53 ∧ headerByte bytes 1 = 0x43 ∧ headerByte bytes 2 = 0x4C ∧ headerByte bytes 3 = 0x50
  ∧ 1 ≤ n ∧ n ≤ 64
  ∧ (crc16 ((List.range (5 + 12 * n)).map (headerByte bytes))).toNat
      = 256 * (headerByte bytes (5 + 12 * n)).toNat + (headerByte bytes (6 + 12 * n)).toNat

/-- The descriptor of clip `i` as the header holds it (R99, R190). -/
def descriptor (bytes : List Byte) (i : Nat) : Descriptor :=
  ⟨header3 bytes (5 + 12 * i), header3 bytes (8 + 12 * i), header3 bytes (11 + 12 * i), header3 bytes (14 + 12 * i)⟩

/-- A descriptor is valid in a flash of `size` units of 64 KiB (R102). -/
def descriptorValid (d : Descriptor) (size : Nat) : Prop :=
  1 ≤ d.length ∧ d.start + d.length ≤ 65536 * size ∧ (d.loopEnd = 0 ∨ (d.loopStart < d.loopEnd ∧ d.loopEnd ≤ d.length))

end Sys2Proof.Spec

/-- The clip header is read in LOAD, once, after the configuration: a bad header sets SOUND_FAULT and leaves every clip UNUSABLE, a good one
makes each named clip with a valid descriptor USABLE; SSQ reports to PWS either way, and the transfer, which sent 0x03 and the address 0,
is over (R100, R101, R102, R157). -/
def Obligations.HeaderReadFillsClips : Prop :=
  ∀ (s : State) (bytes : List Byte), s.inReset = false → s.pws.powerState = .load → s.pws.storeReport.isSome = true →
    s.pws.soundReport = none →
    ∃ t, exec (.clipHeaderRead bytes) s = .next t
      ∧ (Spec.headerGood bytes →
          t.ssq.soundFault = false ∧ t.pws.soundReport = some true
          ∧ ∀ i : Fin 64, t.ssq.clips[i] = some (Spec.descriptor bytes i.val) ∧ i.val < (Spec.headerByte bytes 4).toNat
                ∧ Spec.descriptorValid (Spec.descriptor bytes i.val) s.cfs.working.flashSize
              ∨ t.ssq.clips[i] = none ∧ (i.val < (Spec.headerByte bytes 4).toNat →
                ¬Spec.descriptorValid (Spec.descriptor bytes i.val) s.cfs.working.flashSize))
      ∧ (¬Spec.headerGood bytes →
          t.ssq.soundFault = true ∧ t.pws.soundReport = some false ∧ ∀ i : Fin 64, t.ssq.clips[i] = none)
      ∧ t = { s with
          ssq.clips := t.ssq.clips, ssq.soundFault := t.ssq.soundFault, ssq.transfer := none, pws.soundReport := t.pws.soundReport }
      ∧ Transfer.header.command = [0x03, 0x00, 0x00, 0x00]

namespace Sys2Proof.Spec

/-- The power state and every block that takes it (R162): PWS, RCU, MOC and CFS, and a POWER_STATE notice. -/
def powerBecomes (p : PowerState) (s : State) : State :=
  pushNotice (.powerState p)
    { s with
      pws.powerState := p, pws.sagTimer := .stopped
      rcu.views.powerState := p, moc.powerView := p, cfs.powerView := p }

end Sys2Proof.Spec

/-- LOAD ends when PWS holds all five reports: a STARTED notice, then SETTLE where the track is PRESENT, DELAYING or CHARGING by the
capacitor-resume view, and HALT where it is LOST; the shed stage stays 4, without a notice (R157, R158, R161, R162). Precondition and order are log entries 3 and 18. -/
def Obligations.LoadEnds : Prop :=
  ∀ (s : State) (defaulted sound : Bool), s.inReset = false → StageInv s → s.pws.powerState = .load →
    s.pws.storeReport = some defaulted → s.pws.recordReport = true → s.pws.soundReport = some sound →
    s.pws.comparatorReport = true → s.pws.dieReport = true →
    exec .loadEnd s = .next
      (let u := pushNotice (.started defaulted sound) s
       if s.pws.trackPresent = false then
         Spec.powerBecomes .halt
           { u with pws.bridgeTimer := .stopped, pws.settleTimer := .stopped, pws.settlePhase := .none }
       else if s.pws.resumeView = true then
         Spec.powerBecomes .settle
           { u with pws.settlePhase := .delaying, pws.settleTimer := .running (s.now + 160000 * s.cfs.working.settleDelay) }
       else Spec.powerBecomes .settle { u with pws.settlePhase := .charging })

/-! ## The record -/

namespace Sys2Proof.Spec

/-- The value of each record field that takes no selector, by its number, in its own encoding (1.2, 1.3, R190). -/
def fieldBytes (s : State) : Nat → Option (List Byte)
  | 0 => some (be1 s.rcu.targetNotch)
  | 1 => some (be1 s.rcu.direction.code)
  | 2 => some (be1 s.rcu.brake)
  | 3 => some (be4 s.rcu.keys.toNat)
  | 4 => some (be1 s.rcu.smokeLevel)
  | 5 => some (be1 s.rcu.volume)
  | 6 => some (be1 (if s.rcu.restarted then 1 else 0))
  | 7 => some [s.rcu.holder.byte]
  | 8 => some (be1 (if s.rcu.failsafe then 1 else 0))
  | 9 => some (be2 s.rcu.views.runSpeed)
  | 10 => some (be1 s.rcu.views.runDirection.code)
  | 11 => some (be1 s.rcu.views.motionState.code)
  | 12 => some (be2 s.rcu.views.speedF)
  | 13 => some (be2 s.rcu.views.speedR)
  | 14 => some (be2 s.rcu.views.dutyF)
  | 15 => some (be2 s.rcu.views.dutyR)
  | 16 => some (be1 s.rcu.views.slipState.code)
  | 17 => some (be4 s.rcu.views.odometer.toNat)
  | 18 => some (be4 s.rcu.views.beatCount.toNat)
  | 19 => some (be1 s.rcu.views.powerState.code)
  | 20 => some (be1 s.rcu.views.shedStage)
  | 21 => some (beSigned2 s.rcu.views.temperature)
  | 22 => some (be2 s.rcu.views.faultSummary.toNat)
  | 24 => some (be1 s.rcu.views.smokeState.code)
  | 25 => some (be2 s.rcu.views.fluid)
  | 26 => some (be2 s.rcu.views.soundClips)
  | 27 => some (be2 s.rcu.views.soundUnderruns)
  | _ => none

/-- The radio counter a selector names, in the order of R32. -/
def counterBytes (c : RadioCounts) : Nat → Option (List Byte)
  | 0 => some (be2 c.frameGap)
  | 1 => some (be2 c.frameLength)
  | 2 => some (be2 c.crc)
  | 3 => some (be2 c.badThrottle)
  | 4 => some (be2 c.notMine)
  | 5 => some (be2 c.duplicate)
  | 6 => some (be2 c.replyOverrun)
  | 7 => some (be2 c.notReady)
  | _ => none

/-- The four parts of a fault record: OPEN, SHORT, the fault state, the retry count (1.3). -/
def faultBytes (r : FaultRecord) : List Byte :=
  be1 (if r.opened then 1 else 0) ++ be1 (if r.shorted then 1 else 0) ++ be1 r.state.code ++ be1 r.retries

end Sys2Proof.Spec

/-- READ answers the present value of the field, changes nothing but the lease of the holder, and is refused only for a field number above
28, for a selector outside its set, and when it is posted (R5, R7, R8, R19, R190). The flags of a fault record as bytes are log entry 10. -/
def Obligations.ReadAnswersTheField : Prop :=
  ∀ (h : Head) (field selector : Byte) (s : State), Spec.Arrives h 2 s →
    (h.control.getLsbD 0 = true → exec (.read h field selector) s = .next (Spec.refused h 0x10 .badKind s))
    ∧ (h.control.getLsbD 0 = false →
        (∀ bytes, Spec.fieldBytes s field.toNat = some bytes →
          exec (.read h field selector) s = .next (Spec.accepted h 0x10 { code := .done, value := bytes } s))
        ∧ (28 < field.toNat → exec (.read h field selector) s = .next (Spec.refused h 0x10 .badField s))
        ∧ (∀ o : Fin 16, selector.toNat = o.val →
            exec (.read h 23 selector) s
              = .next (Spec.accepted h 0x10 { code := .done, value := Spec.faultBytes s.rcu.views.faults[o] } s))
        ∧ (16 ≤ selector.toNat → exec (.read h 23 selector) s = .next (Spec.refused h 0x10 .badValue s))
        ∧ (∀ bytes, Spec.counterBytes s.rcu.views.radioCounts selector.toNat = some bytes →
            exec (.read h 28 selector) s = .next (Spec.accepted h 0x10 { code := .done, value := bytes } s))
        ∧ (8 ≤ selector.toNat → exec (.read h 28 selector) s = .next (Spec.refused h 0x10 .badValue s)))

/-- WRITE, ADD and SWAP change VOLUME from any source, and BRAKE and, with the emergency latch clear, TARGET_NOTCH from the drive holder, and a WRITE of
"no" changes RESTARTED: the field takes the new value, the answer carries the prior one, a change is published, one of BRAKE or
TARGET_NOTCH ends a BRAKE loss action, and N, P and the bridges go no further (R3, R4, R6, R9, R10, R13, R49, R52). That a write of the same notch leaves the loss brake is log entry 20. -/
def Obligations.WritesStoreTheField : Prop :=
  (∀ (c : Instr) (s : State) (x : Spec.Setting), Spec.setting 255 s.rcu.volume c = some x → x.field = 5 →
    Spec.Arrives x.head x.operands s →
    exec c s = .next (Spec.accepted x.head x.kind { code := .done, flags := x.flags, value := [Spec.byte s.rcu.volume] }
      (if x.new = s.rcu.volume then s else { s with rcu.volume := x.new, ssq.volumeView := x.new })))
  ∧ (∀ (c : Instr) (s : State) (x : Spec.Setting), Spec.setting 15 s.rcu.brake c = some x → x.field = 2 →
      Spec.Arrives x.head x.operands s → s.rcu.holder = holderOf x.head.source →
      exec c s = .next (Spec.accepted x.head x.kind { code := .done, flags := x.flags, value := [Spec.byte s.rcu.brake] }
        (if x.new = s.rcu.brake then s else { s with rcu.brake := x.new, moc.brakeView := x.new, moc.lossBrake := false })))
  ∧ (∀ (c : Instr) (s : State) (x : Spec.Setting), Spec.setting 255 s.rcu.targetNotch c = some x → x.field = 0 →
    Spec.Arrives x.head x.operands s → s.rcu.holder = holderOf x.head.source → s.moc.emergencyLatch = false →
    exec c s = .next (Spec.accepted x.head x.kind { code := .done, flags := x.flags, value := [Spec.byte s.rcu.targetNotch] }
      { s with
        rcu.targetNotch := x.new, moc.notch := x.new
        moc.lossBrake := s.moc.lossBrake && decide (x.new = s.rcu.targetNotch) }))
  ∧ ∀ (h : Head) (s : State), Spec.Arrives h 5 s →
      exec (.write h 6 0) s
        = .next (Spec.accepted h 0x11 { code := .done, value := [if s.rcu.restarted then 1 else 0] } { s with rcu.restarted := false })

namespace Sys2Proof.Spec

/-- The motion state becomes `m`: where that is a change, RCU and SMU take it and a MOTION_STATE notice is pushed (R58, R70, R133). -/
def motionBecomes (m : MotionState) (s : State) : State :=
  if m = s.moc.motionState then s
  else
    pushNotice (.motionState m) (smokeTakeMotion m { s with moc.motionState := m, rcu.views.motionState := m })

/-- The motion state by R58, from MOC's own state alone. -/
def motionOf (m : Moc) : MotionState :=
  if m.shedView = 4 then .suspended
  else if m.emergencyLatch then .emergency
  else if m.reversalPending then .reversing
  else if 0 < m.ramp ∨ 0 < speedTarget m.curve m.notch then .driving
  else .idle

/-- The mode MOC hands a bridge (R69). -/
def mode (m : Moc) (x : TruckControl) : BridgeMode :=
  if x.faultView ≠ .ok then .coast
  else if m.shedView = 4 then .coast
  else if m.emergencyLatch then .shortBrake
  else if m.coastHold then .coast
  else .drive

/-- A voice as every start leaves it (R104). -/
def started (clip : Fin 64) (gain : Nat) (owner : Option (Fin 16)) : Voice :=
  { state := .start, clip := clip, gain := gain, owner := owner, fetchPos := 0, fetch := .active, buffer := [], awaiting := true
    queued := none, burst := none }

/-- A motion trigger, by its entry of EVENT_BINDINGS: START 0, STOP 1, REVERSE 2, SLIP 3, SQUEAL 4 (R114, R115). Its binding starts the
clip it names, where that is USABLE; without sound, and at shed stage 4, it is ignored. -/
def triggered (e : Fin 5) (c : Configuration) (q : Ssq) : Ssq :=
  let b := c.eventBindings[e]
  if q.soundFault = true ∨ q.shedView = 4 then q
  else match b.clip with
    | none => q
    | some clip => if q.clips[clip] = none then q else { q with voices := q.voices.set b.voice (started clip b.gain none) }

/-- RUN_DIRECTION becomes `d`: no reversal is pending, both integrators are 0, RCU, LTC and BMU take it, and REVERSE is raised (R57). -/
def runDirectionBecomes (d : Direction) (s : State) : State :=
  { s with
    moc.runDirection := d, moc.reversalPending := false, moc.front.integral := 0, moc.rear.integral := 0
    rcu.views.runDirection := d, ltc.runDirection := d, bmu.polarityShadow := d
    ssq := triggered 2 s.cfs.working s.ssq }

/-- Bit `k` of a key set. -/
def key (keys : KeySet) (k : Fin 32) : Bool := keys.getLsbD k.val

end Sys2Proof.Spec

/-- A drive write of TARGET_NOTCH with the emergency latch set clears it at once, whatever value it leaves: in EMERGENCY the state becomes
DRIVING where the new notch has a nonzero target, and IDLE otherwise; in SUSPENDED it stays (R58, R60). Both bridges are handed duty 0 and
DRIVE, or COAST in SUSPENDED, under a hold-off and under the coast-hold marker (R69), and ODU the same duty 0, which ends an open test
(R172, R173), by log entry 27. The notch's target is of the curve of the last control step (R50, log entry 38). That a write of the same
notch leaves the loss brake is log entry 20. -/
def Obligations.NotchEndsEmergency : Prop :=
  ∀ (c : Instr) (s : State) (x : Spec.Setting), Spec.setting 255 s.rcu.targetNotch c = some x → x.field = 0 →
    Spec.Arrives x.head x.operands s → s.rcu.holder = holderOf x.head.source →
    RestInv s → s.moc.emergencyLatch = true →
    ∃ t, exec c s = .next t ∧
      let m := { s.moc with
        notch := x.new, emergencyLatch := false, lossBrake := s.moc.lossBrake && decide (x.new = s.rcu.targetNotch) }
      t.rcu.targetNotch = x.new ∧ t.rcu.holder = s.rcu.holder ∧ t.rcu.direction = s.rcu.direction ∧ t.rcu.brake = s.rcu.brake
      ∧ t.rcu.views.motionState = (if t.moc.motionState = s.moc.motionState then s.rcu.views.motionState else t.moc.motionState)
      ∧ t.moc = { m with motionState := Spec.motionOf m }
      ∧ (∀ b : Truck, (t.bmu.bridge b).dutyShadow = 0
          ∧ (t.bmu.bridge b).modeShadow = Spec.mode m (s.moc.truck b)
          ∧ (t.odu.watch (.truck b)).command = 0 ∧ (t.odu.watch (.truck b)).openTimer = .stopped
          ∧ (t.odu.watch (.truck b)).record = (s.odu.watch (.truck b)).record)
      ∧ t.ssq = s.ssq ∧ t.ltc = s.ltc ∧ t.pws = s.pws ∧ t.cfs = s.cfs ∧ t.btg = s.btg

/-- A WRITE of DIRECTION by the drive holder (R6, R9, R52, R54, R56, R57): a change is stored and ends a BRAKE loss action; in SUSPENDED it
goes no further; at P = 0 a direction other than RUN_DIRECTION flips it at once; above 0 it starts a reversal, and a write back cancels
one. That a write of the direction already held changes nothing, the loss brake included, is log entry 20. The state after a write back is
of the curve of the last control step (R50, log entry 38). -/
def Obligations.DirectionWriteTurnsTheTrain : Prop :=
  ∀ (h : Head) (d : Direction) (s : State), Spec.Arrives h 5 s → s.rcu.holder = holderOf h.source → RestInv s →
    let prior : Answer := { code := .done, value := [Spec.byte s.rcu.direction.code] }
    let u := { s with rcu.direction := d, moc.directionView := d, moc.lossBrake := false }
    exec (.write h 1 (BitVec.ofNat 32 d.code)) s = .next (Spec.accepted h 0x11 prior
      (if d = s.rcu.direction then s
       else if s.moc.motionState = .suspended then u
       else if s.moc.ramp = 0 then (if d = s.moc.runDirection then u else Spec.runDirectionBecomes d u)
       else if d ≠ s.moc.runDirection then Spec.motionBecomes .reversing { u with moc.reversalPending := true }
       else if s.moc.reversalPending then Spec.motionBecomes .driving { u with moc.reversalPending := false }
       else u))

/-- WRITE, ADD and SWAP of SMOKE_LEVEL from any source: SMU takes a change at once, and its state goes by the table of R124; a lower T*
between nonzero levels disarms the dry check in WARMING and REGULATING (R129; log entry 47); heater and fan are 0 where the new state does
not drive them (R123, R133). -/
def Obligations.SmokeLevelTaken : Prop :=
  ∀ (c : Instr) (s : State) (x : Spec.Setting), Spec.setting 3 s.rcu.smokeLevel c = some x → x.field = 4 →
    Spec.Arrives x.head x.operands s → SmokeInv s → s.smu.levelView = s.rcu.smokeLevel → s.rcu.smokeLevel ≤ 3 →
    let temps := s.cfs.working.smokeTemps
    let target (level : Nat) : Nat := if level = 1 then temps[0] else if level = 2 then temps[1] else temps[2]
    let warm : SmokeState := if s.smu.tView + 15 < target x.new then .warming else .regulating
    ∃ t, exec c s = .next t ∧
      t.rcu.smokeLevel = x.new ∧ t.smu.levelView = x.new ∧ t.rcu.volume = s.rcu.volume ∧ t.rcu.keys = s.rcu.keys
      ∧ (x.new = s.rcu.smokeLevel → t.smu = s.smu)
      ∧ (x.new ≠ s.rcu.smokeLevel →
          t.smu.state = (match s.smu.state with
            | .off => if x.new = 0 then .off else if s.smu.fluid = 0 then .dry else if 2 ≤ s.smu.shedView then .held else warm
            | .warming => if x.new = 0 then .off else warm
            | .regulating => if x.new = 0 then .off else warm
            | .held => if x.new = 0 then .off else .held
            | .dry => .dry
            | .fault => .fault)
          ∧ t.smu.dryArmed = (s.smu.dryArmed && !(s.smu.state.heats && decide (s.rcu.smokeLevel ≠ 0) && decide (x.new ≠ 0)
              && decide (target x.new < target s.rcu.smokeLevel)))
          ∧ t.smu.heater = (if t.smu.state.heats then s.smu.heater else 0)
          ∧ (t.smu.state ≠ .regulating → t.smu.fan = 0)
          ∧ t.rcu.views.smokeState = t.smu.state)
      ∧ t.smu.fluid = s.smu.fluid ∧ t.smu.tView = s.smu.tView ∧ t.smu.shedView = s.smu.shedView
      ∧ t.moc = s.moc ∧ t.bmu = s.bmu ∧ t.btg = s.btg ∧ t.ssq = s.ssq ∧ t.ltc = s.ltc ∧ t.pws = s.pws ∧ t.cfs = s.cfs

/-! ## Function keys -/

namespace Sys2Proof.Spec

/-- A request for the function keys: its head, the kind code, the count of operand bytes, and the key set it leaves (R9, R11, R12). -/
def keyRequest (old : KeySet) : Instr → Option (Head × Byte × Nat × KeySet)
  | .write h f v => if f = 3 then some (h, 0x11, 5, v) else none
  | .keys h f mask states => if f = 3 then some (h, 0x13, 9, (states &&& mask) ||| (old &&& ~~~mask)) else none
  | .flip h f mask => if f = 3 then some (h, 0x14, 5, old ^^^ mask) else none
  | _ => none

/-- The scene player after a new key set `keys` (R150): STOPPED at row A, step 0 while the scene key is off or NONE; from STOPPED, a
scene key that is on starts row A, or waits on it where its step 0 has no duration. -/
def playerTakes (c : Configuration) (keys : KeySet) (l : Ltc) : Ltc :=
  match c.sceneKey with
  | none => { l with player := .stopped, row := .a, stepIndex := 0, remaining := 0, latch := none }
  | some k =>
    if key keys k = false then { l with player := .stopped, row := .a, stepIndex := 0, remaining := 0, latch := none }
    else if l.player ≠ .stopped then l
    else if 0 < l.rowA[0].duration then
      { l with player := .playing, row := .a, stepIndex := 0, remaining := l.rowA[0].duration, latch := some l.rowA[0] }
    else { l with player := .waiting, row := .a, stepIndex := 0, remaining := 0, latch := none }

/-- What a change of KEYS reaches: RCU, SSQ, which forms its edges (R109), and LTC, whose scene player follows the scene key, with a
SCENE_WAITING notice where it comes to wait (R6, R150). -/
def keysBecome (new : KeySet) (s : State) : State :=
  if new = s.rcu.keys then s
  else
    let l := playerTakes s.cfs.working new { s.ltc with keysView := new }
    let s' := { s with rcu.keys := new, ssq := s.ssq.takeKeys s.cfs.working new, ltc := l }
    if l.player = .waiting ∧ s.ltc.player = .stopped then pushNotice (.sceneWaiting .a) s' else s'

end Sys2Proof.Spec

namespace Sys2Proof.Spec

/-- A voice in TAIL from where its fetch stands (R105). -/
def inTail (v : Voice) (length : Nat) : Voice :=
  { v with state := .tail, fetch := if length ≤ v.fetchPos then .done else .active }

/-- A voice whose position jumps back to the loop (R104, R110). -/
def backInLoop (v : Voice) (loopStart : Nat) : Voice :=
  { v with state := .loop, fetchPos := loopStart, fetch := .active, buffer := [], awaiting := true, queued := none, burst := none }

/-- What a change of the keys does at one binding (R109): an edge of the key it names. -/
def edge (c : Configuration) (old new : KeySet) (q : Ssq) (i : Fin 16) : Ssq :=
  let b := c.keyBindings[i]
  match b.key with
  | none => q
  | some k =>
    if key old k = false ∧ key new k = true then q.onEdge i b
    else if key old k = true ∧ key new k = false then q.offEdge i b
    else q

end Sys2Proof.Spec

/-- WRITE on KEYS, KEYS and FLIP from any source: each key in the mask takes its new state or toggles, the others keep theirs; the answer
carries the whole prior set, with CHANGED where it differs; a change is published to SSQ and LTC, and no change publishes nothing (R6,
R9, R11, R12). SSQ forms the edge of each binding (R110, R111, R112): an on-edge of HOLD starts the clip with the binding as its owner,
jumps a TAIL of its own looping clip back to the loop, and leaves a START or LOOP of its own; ONESHOT starts it without an owner; an
off-edge of HOLD drops a queued clip of its own voice and lets a PAUSED fetch run on into TAIL; another owner's voice stays. The edges of
one change act in ascending binding number (R109), and without sound or at shed stage 4 every edge is ignored (R101, R119). The row, step
and remaining time of a player that stops or comes to wait are log entry 37. -/
def Obligations.KeyRequestsSetTheKeys : Prop :=
  (∀ (c : Instr) (s : State) (x : Head × Byte × Nat × KeySet), Spec.keyRequest s.rcu.keys c = some x → Spec.Arrives x.1 x.2.2.1 s →
    exec c s = .next (Spec.accepted x.1 x.2.1
      { code := .done, flags := { changed := decide (x.2.2.2 ≠ s.rcu.keys) }, value := be4 s.rcu.keys.toNat }
      (Spec.keysBecome x.2.2.2 s)))
  ∧ (∀ (q : Ssq) (c : Configuration) (new : KeySet),
      q.takeKeys c new = (if q.soundFault = true ∨ q.shedView = 4 then { q with keysView := new }
        else (List.finRange 16).foldl (Spec.edge c q.keysView new) { q with keysView := new }))
  ∧ ∀ (q : Ssq) (i : Fin 16) (b : KeyBinding),
    let v := q.voices[b.voice]
    q.onEdge i b = (match q.clips[b.clip] with
      | none => q
      | some d =>
        if b.mode = .oneshot then { q with voices := q.voices.set b.voice (Spec.started b.clip b.gain none) }
        else if v.owner ≠ some i ∨ d.loopEnd = 0 then { q with voices := q.voices.set b.voice (Spec.started b.clip b.gain (some i)) }
        else if v.state = .tail then
          { q with voices := q.voices.set b.voice (Spec.backInLoop v d.loopStart) }
        else q)
    ∧ q.offEdge i b = (if b.mode = .hold ∧ v.owner = some i then
        let u := { v with queued := none }
        let w := if v.fetch = .paused then Spec.inTail u ((q.clips[v.clip]).getD ⟨0, 0, 0, 0⟩).length else u
        { q with voices := q.voices.set b.voice w }
      else q)

/-- FLIP toggles each key of its mask and no other; the answer is the whole key set before the request, with CHANGED whenever the mask is
not empty; an empty mask changes nothing and publishes nothing (R12). -/
def Obligations.FlipTogglesTheMask : Prop :=
  ∀ (h : Head) (mask : KeySet) (s : State), Spec.Arrives h 5 s →
    (∃ t, exec (.flip h 3 mask) s = .next t
      ∧ t.hpt.out = (if h.source = .host then
          [0x00, 0x00] ++ (if h.control.getLsbD 0 then [] else [h.tag, 0x00, if mask = 0 then 0x00 else 0x04, 0x04] ++ be4 s.rcu.keys.toNat)
        else s.hpt.out)
      ∧ (h.source ≠ .host → t.rif.lastEntry = if h.control.getLsbD 0 then none else
          some (.response ⟨h.tag, { code := .done, flags := { changed := decide (mask ≠ 0) }, value := be4 s.rcu.keys.toNat }⟩))
      ∧ ∀ k : Fin 32, Spec.key t.rcu.keys k = if Spec.key mask k then !Spec.key s.rcu.keys k else Spec.key s.rcu.keys k)
    ∧ (mask = 0 → exec (.flip h 3 mask) s
        = .next (Spec.accepted h 0x14 { code := .done, value := be4 s.rcu.keys.toNat } s))

/-! ## Refusals of the record's requests -/

namespace Sys2Proof.Spec

/-- A request to change a record field: its head, the kind code, the count of operand bytes, the field's number, and the writable fields
the kind is defined for (1.4). -/
def fieldRequest : Instr → Option (Head × Byte × Nat × Byte × List Byte)
  | .write h f _ => some (h, 0x11, 5, f, [0, 1, 2, 3, 4, 5, 6])
  | .add h f _ => some (h, 0x12, 3, f, [0, 2, 4, 5])
  | .keys h f _ _ => some (h, 0x13, 9, f, [3])
  | .flip h f _ => some (h, 0x14, 5, f, [3])
  | .swap h f _ => some (h, 0x15, 5, f, [0, 2, 4, 5])
  | _ => none

end Sys2Proof.Spec

/-- A request to change a field is checked in R7's order and a refusal changes nothing: a posted SWAP is BAD_KIND, a field number above
28 BAD_FIELD, one of 7 to 28 READ_ONLY, a kind not defined for the field BAD_FIELD, a drive field from a source that does not hold the
claim NOT_HOLDER, and then a direction or RESTARTED value outside its set BAD_VALUE (R3, R4, R7, R9, R13). -/
def Obligations.FieldChecksRefuse : Prop :=
  ∀ (c : Instr) (s : State) (x : Head × Byte × Nat × Byte × List Byte), Spec.fieldRequest c = some x → Spec.Arrives x.1 x.2.2.1 s →
    (x.2.1 = 0x15 → x.1.control.getLsbD 0 = true → exec c s = .next (Spec.refused x.1 x.2.1 .badKind s))
    ∧ ((x.2.1 = 0x15 → x.1.control.getLsbD 0 = false) →
        (28 < x.2.2.2.1.toNat → exec c s = .next (Spec.refused x.1 x.2.1 .badField s))
        ∧ (7 ≤ x.2.2.2.1.toNat → x.2.2.2.1.toNat ≤ 28 → exec c s = .next (Spec.refused x.1 x.2.1 .readOnly s))
        ∧ (x.2.2.2.1.toNat < 7 → x.2.2.2.1 ∉ x.2.2.2.2 → exec c s = .next (Spec.refused x.1 x.2.1 .badField s))
        ∧ (x.2.2.2.1.toNat < 3 → x.2.2.2.1 ∈ x.2.2.2.2 → s.rcu.holder ≠ holderOf x.1.source →
            exec c s = .next (Spec.refused x.1 x.2.1 .notHolder s))
        ∧ (s.rcu.holder = holderOf x.1.source → ∀ v : Word32, 1 < v.toNat → c = .write x.1 1 v →
            exec c s = .next (Spec.refused x.1 x.2.1 .badValue s))
        ∧ (∀ v : Word32, v ≠ 0 → c = .write x.1 6 v → exec c s = .next (Spec.refused x.1 x.2.1 .badValue s)))

/-! ## The claim and the lease -/

namespace Sys2Proof.Spec

/-- The holder a byte names (R190). -/
def named (b : Byte) : Holder := if b = 0 then .none else if b = 255 then .hostProcessor else .throttle b

/-- The rank of a source or holder; DISPATCH is above OPERATOR (1.5.1). -/
def rank (c : Configuration) : Holder → Nat
  | .none => 0
  | .throttle id => if c.dispatchers[0] = some id ∨ c.dispatchers[1] = some id then 2 else 1
  | .hostProcessor => match c.hostRank with
    | .operator => 1
    | .dispatch => 2

/-- DRIVE_HOLDER becomes `h` by a request of `src`: where that is a change, a CLAIM_CHANGED notice, and RIF takes it, which frees the
entry of the former holder at once where it has not been heard for more than 60 s (R17, R36), unless RIF handles a frame of its, in
which the request came or which it has been kept in (log entry 49). -/
def holderBecomes (src : Source) (h : Holder) (s : State) : State :=
  if h = s.rcu.holder then s
  else
    pushNotice (.claimChanged h) { s with
      rcu.holder := h, rif.holderView := h
      rif.throttles := s.rif.throttles.filter fun e =>
        !(decide (s.rif.holderView = .throttle e.id) && decide (e.lastHeard + 960000000 < s.now)
          && decide (src ≠ .throttle e.id) && decide (s.rif.handling.map (·.thr) ≠ some e.id)) }

end Sys2Proof.Spec

/-- CLAIM compares and swaps (R16, R17): a posted one is BAD_KIND; one that names another source is DENIED with the holder; where the
holder is not the expected one, or outranks the requester or equals its rank, the answer is DONE without CLAIM_OK and the claim stays;
otherwise the requester holds the claim, the lease starts and FAILSAFE is cleared. The value of a DENIED answer is log entry 6. -/
def Obligations.ClaimComparesAndSwaps : Prop :=
  ∀ (h : Head) (expected asked : Byte) (s : State), Spec.Arrives h 2 s →
    let me := holderOf h.source
    let found := [s.rcu.holder.byte]
    exec (.claim h expected asked) s = .next
      (if h.control.getLsbD 0 then Spec.refused h 0x16 .badKind s
       else if asked ≠ me.byte then Spec.answered h 0x16 { code := .denied, value := found } s
       else if s.rcu.holder = Spec.named expected
           ∧ (s.rcu.holder = .none ∨ s.rcu.holder = me ∨ Spec.rank s.cfs.working s.rcu.holder < Spec.rank s.cfs.working me) then
         Spec.answered h 0x16 { code := .done, flags := { claimOk := true }, value := found }
           { Spec.holderBecomes h.source me s with
             rcu.holder := me, rcu.failsafe := false, rcu.lease := .running (s.now + 1600000 * s.cfs.working.leaseTime)
             ltc.failsafeView := false }
       else Spec.accepted h 0x16 { code := .done, value := found } s)

/-- RELEASE gives up the claim (R18): an operand other than KEEP or STOP is BAD_VALUE before the holder is checked, a source that does
not hold the claim is NOT_HOLDER, and otherwise STOP sets TARGET_NOTCH to 0, the holder becomes NONE, the lease stops, and a notice is
pushed; KEEP leaves the drive fields; FAILSAFE stays. -/
def Obligations.ReleaseGivesUpTheClaim : Prop :=
  ∀ (h : Head) (choice : Byte) (s : State), Spec.Arrives h 1 s →
    (1 < choice.toNat → exec (.release h choice) s = .next (Spec.refused h 0x17 .badValue s))
    ∧ (choice.toNat ≤ 1 → s.rcu.holder ≠ holderOf h.source → exec (.release h choice) s = .next (Spec.refused h 0x17 .notHolder s))
    ∧ (choice.toNat ≤ 1 → s.rcu.holder = holderOf h.source →
        exec (.release h choice) s = .next
          (Spec.answered h 0x17 { code := .done, value := [s.rcu.holder.byte] }
            (let stops := decide (choice = 1) && decide (s.rcu.targetNotch ≠ 0)
             let u := Spec.holderBecomes h.source .none s
             { u with
               rcu.lease := .stopped
               rcu.targetNotch := if stops then 0 else s.rcu.targetNotch
               moc.notch := if stops then 0 else s.moc.notch
               moc.lossBrake := s.moc.lossBrake && !stops })))

namespace Sys2Proof.Spec

/-- The notices that a halt or a COAST loss pushes for the end of a slip (R59, R68). -/
def slipEnds (m : Moc) : List Notice :=
  match m.slipState with
  | .grip => []
  | .slip t => [.slip true t]

end Sys2Proof.Spec

/-- HALT_NOW is taken from any source, holder or not, as posted whatever its record says: TARGET_NOTCH and P are 0, the latch is set,
both loss markers are cleared, a slip ends, a pending reversal is completed, both bridges are handed SHORT_BRAKE and the state is
EMERGENCY, unless the shed stage is 4; the claim, FAILSAFE and the other fields stay (R24, R57, R59). A bridge brakes at once, but one that is OFF for a
gap, a hold-off or a STOPPED schedule holds the mode in its shadow (R76); one released within the period brakes too (log entry 35). No
response and no entry leaves (R24, R26). That the integrators fall at once is log entry 15, and that the duty shadows stay is log entry
27. -/
def Obligations.HaltStopsTheTrain : Prop :=
  ∀ (h : Head) (s : State), Spec.Arrives h 0 s →
    ∃ t, exec (.haltNow h) s = .next t ∧
      let below := decide (s.moc.shedView ≠ 4)
      let turns := below && s.moc.reversalPending
      t.rcu.targetNotch = 0 ∧ t.rcu.holder = s.rcu.holder ∧ t.rcu.failsafe = s.rcu.failsafe ∧ t.rcu.direction = s.rcu.direction
      ∧ t.rcu.brake = s.rcu.brake ∧ t.rcu.keys = s.rcu.keys ∧ t.rcu.smokeLevel = s.rcu.smokeLevel ∧ t.rcu.volume = s.rcu.volume
      ∧ t.rcu.lease = (Spec.leased h.source s).rcu.lease
      ∧ t.moc = { s.moc with
          notch := 0, emergencyLatch := true, ramp := 0, lossBrake := false, coastHold := false
          slipState := .grip, slipCount := 0, slipCap := if s.moc.slipState = .grip then s.moc.slipCap else 1023
          runDirection := if turns then s.moc.directionView else s.moc.runDirection
          reversalPending := s.moc.reversalPending && !below
          front.integral := 0, rear.integral := 0
          motionState := if below then .emergency else .suspended }
      ∧ t.rcu.views.motionState = (if t.moc.motionState = s.moc.motionState then s.rcu.views.motionState else t.moc.motionState)
      ∧ (below = true → t.bmu.front.modeShadow = .shortBrake ∧ t.bmu.rear.modeShadow = .shortBrake)
      ∧ (below = false → t.bmu = s.bmu)
      ∧ (∀ x : Truck, below = true →
          let acts := s.bmu.running && !(s.bmu.bridge x).heldOff && (decide (s.bmu.gap = .closed) || decide (s.bmu.gap = .requested))
          (acts = true → (t.bmu.bridge x).output = .braking
            ∧ (t.bmu.bridge x).drivenSince = (if (s.bmu.bridge x).output = .braking then (s.bmu.bridge x).drivenSince else none))
          ∧ (acts = false → t.bmu.bridge x = { s.bmu.bridge x with modeShadow := .shortBrake }))
      ∧ t.bmu.front.dutyShadow = s.bmu.front.dutyShadow ∧ t.bmu.rear.dutyShadow = s.bmu.rear.dutyShadow
      ∧ (h.source = .host → t.hpt.transaction = .sending ∧ t.hpt.out = [0x00, 0x00])
      ∧ (h.source ≠ .host → t.rif.lastEntry = none ∧ t.hpt.out = s.hpt.out)
      ∧ t.pws = s.pws ∧ t.cfs = s.cfs ∧ t.btg = s.btg ∧ ∀ o, (t.odu.watch o).record = (s.odu.watch o).record

/-- LEASE_EXPIRY, at the time the lease is due: TARGET_NOTCH is 0, the claim falls to NONE, FAILSAFE is set, LEASE_EXPIRED and
CLAIM_CHANGED notices follow each other, and MOC takes the loss action: RAMP changes nothing else, BRAKE sets the loss-brake marker,
COAST sets P to 0 and the coast-hold marker, completes a pending reversal and hands both bridges COAST, but in EMERGENCY (R20, R52,
R53, R57, R68). The other fields stay. A stopped lease does not expire. That MOC's notices stand before the two is
log entry 18, COAST to a bridge that brakes log entry 19, and a dead interval that it ends log entry 36. -/
def Obligations.LeaseExpires : Prop :=
  ∀ s : State, s.inReset = false →
    (s.rcu.lease = .stopped → exec .leaseExpiry s = .next s)
    ∧ ∀ due : Time, s.rcu.lease = .running due → s.rcu.holder ≠ .none →
      ∃ t, exec .leaseExpiry s = .next t ∧ t.now = max s.now due
        ∧ t.rcu = { s.rcu with
            targetNotch := 0, holder := .none, lease := .stopped, failsafe := true, views := t.rcu.views }
        ∧ t.rif.holderView = .none ∧ t.ltc.failsafeView = true
        ∧ (s.hpt.notices.length ≤ 12 →
            (t.hpt.notices.reverse.take 2).reverse = [.leaseExpired s.rcu.holder s.cfs.working.lossAction, .claimChanged .none])
        ∧ (s.cfs.working.lossAction = .ramp → t.moc = { s.moc with notch := 0 } ∧ t.bmu = s.bmu)
        ∧ (s.cfs.working.lossAction = .brake → t.moc = { s.moc with notch := 0, lossBrake := true } ∧ t.bmu = s.bmu)
        ∧ (s.cfs.working.lossAction = .coast →
            t.moc.notch = 0 ∧ t.moc.ramp = 0 ∧ t.moc.coastHold = true ∧ t.moc.lossBrake = false ∧ t.moc.slipState = .grip
            ∧ (s.moc.motionState ≠ .suspended → t.moc.reversalPending = false)
            ∧ (s.moc.reversalPending = true → s.moc.motionState ≠ .suspended → t.moc.runDirection = s.moc.directionView)
            ∧ (s.moc.reversalPending = false → t.moc.runDirection = s.moc.runDirection)
            ∧ (s.moc.motionState = .emergency → s.moc.reversalPending = false → t.bmu = s.bmu)
            ∧ (s.moc.motionState ≠ .emergency → RestInv s →
                t.bmu.front.modeShadow = .coast ∧ t.bmu.rear.modeShadow = .coast
                ∧ ∀ x : Truck, s.bmu.running = true → s.bmu.gap = .closed ∨ s.bmu.gap = .requested → (s.bmu.bridge x).heldOff = false →
                    (t.bmu.bridge x).isOff))
        ∧ t.pws = s.pws ∧ t.cfs = s.cfs ∧ t.btg = s.btg ∧ t.smu.heater = s.smu.heater ∧ ∀ o, (t.odu.watch o).record = (s.odu.watch o).record

namespace Sys2Proof.Spec

/-- A command may move DIRECTION or BRAKE, or set TARGET_NOTCH to other than 0: device reset, a change of a drive field by the drive
holder, or a radio frame of the holder's or with a CLAIM in it. -/
def mayDrive (s : State) : Instr → Prop
  | .resetnLow => True
  | .logicSupplyFail => True
  | .write h f _ => s.rcu.holder = holderOf h.source ∧ f.toNat < 3
  | .add h f _ => s.rcu.holder = holderOf h.source ∧ f.toNat < 3
  | .swap h f _ => s.rcu.holder = holderOf h.source ∧ f.toNat < 3
  | .radioFrame =>
    match s.rif.handling, s.rif.completed with
    | some run, _ => s.rcu.holder = .throttle run.thr ∨ ∃ r ∈ run.waiting, r.kind = 0x16
    | none, [] => False
    | none, f :: _ => s.rcu.holder = .throttle (f.bytes.getD 2 0) ∨ 0x16 ∈ f.bytes
  | _ => False

end Sys2Proof.Spec

/-- The drive fields move by the drive holder's requests alone: any other command leaves DIRECTION and BRAKE, and leaves TARGET_NOTCH or
sets it to 0 (R3, R18, R20, R24); device reset aside. A radio frame counts as the holder's where its throttle holds the claim, and may
take the claim on its way where it carries the byte of a CLAIM, or, in handling, where a CLAIM of it waits. -/
def Obligations.OnlyTheHolderDrives : Prop :=
  ∀ (c : Instr) (s t : State), exec c s = .next t → ¬Spec.mayDrive s c →
    t.rcu.direction = s.rcu.direction ∧ t.rcu.brake = s.rcu.brake ∧ (t.rcu.targetNotch = s.rcu.targetNotch ∨ t.rcu.targetNotch = 0)

/-! ## The requests of the other owners -/

namespace Sys2Proof.Spec

/-- The twenty-two channels, numbered in the order of R86. -/
def channel (n : Nat) : Option Channel :=
  if n = 0 then some (.backEmf .front)
  else if n = 1 then some (.backEmf .rear)
  else if n = 2 then some (.current .front)
  else if n = 3 then some (.current .rear)
  else if n = 4 then some .trackV
  else if n = 5 then some .capV
  else if n = 6 then some .heaterT
  else if n = 7 then some .heaterI
  else if n = 8 then some .fanI
  else if h : 9 ≤ n ∧ n ≤ 20 then some (.lightI ⟨n - 9, by omega⟩)
  else if n = 21 then some .dieT
  else none

/-- The conversion of a channel under way, which does not complete a MEASURE taken now (R86): a back-EMF channel while the gap is
CONVERTING, no current channel, and a channel of the general converter while that converts it. -/
def underWay (m : Bmu) : Channel → Bool
  | .backEmf _ => decide (m.gap = .converting)
  | .current _ => false
  | c => match m.converting with
    | none => false
    | some (d, _) => decide (d = c)

end Sys2Proof.Spec

/-- MEASURE from the host with fewer than four deferred requests out (R86): posted it is BAD_KIND, a target that is no channel is
BAD_VALUE, and otherwise it waits in BMU, takes a deferred slot, and is answered ACCEPTED; from a throttle it is DENIED (R39). -/
def Obligations.MeasureWaitsInItsSlot : Prop :=
  ∀ (h : Head) (channel : Byte) (s : State), Spec.Arrives h 1 s →
    (∀ id, h.source = .throttle id → exec (.measure h channel) s = .next (Spec.refused h 0x20 .denied s))
    ∧ (h.source = .host → s.hpt.slots.length < 4 →
        exec (.measure h channel) s = .next
          (if h.control.getLsbD 0 then Spec.refused h 0x20 .badKind s
           else match Spec.channel channel.toNat with
             | none => Spec.refused h 0x20 .badValue s
             | some c => Spec.accepted h 0x20 { code := .accepted }
                { s with
                  bmu.slots := s.bmu.slots ++ [⟨c, h.tag, Spec.underWay s.bmu c⟩]
                  hpt.slots := s.hpt.slots ++ [⟨.measure, h.tag⟩] }))

namespace Sys2Proof.Spec

/-- The number of a voice's STATE in the answer to a PLAY (R116). -/
def voiceCode (v : Voice) : Nat :=
  match v.state with
  | .silent => 0
  | .start => 1
  | .tail => 3
  | .loop => if v.owner = none then 4 else 2

end Sys2Proof.Spec

/-- PLAY (R116, R117): without sound FAILED; a voice outside V1 to V5, a timing outside its set, or a clip not USABLE, BAD_VALUE; at shed
stage 4 POWER; else DONE with the voice's state before. AT_LOOP_END on a LOOP with an owner queues the clip; any other start is at once,
without an owner; a gain above 255 is taken as 255, with CLAMPED. -/
def Obligations.PlayStartsOrQueuesTheClip : Prop :=
  ∀ (h : Head) (voice clip : Byte) (gain : Word16) (timing : Byte) (s : State), Spec.Arrives h 5 s →
    exec (.play h voice clip gain timing) s = .next
      (let vi := Fin.ofNat 6 voice.toNat
       let cl := Fin.ofNat 64 clip.toNat
       let v := s.ssq.voices[vi]
       let g := min gain.toNat 255
       if s.ssq.soundFault then Spec.refused h 0x21 .failed s
       else if voice.toNat = 0 ∨ 5 < voice.toNat ∨ 1 < timing.toNat ∨ 63 < clip.toNat ∨ s.ssq.clips[cl] = none then
         Spec.refused h 0x21 .badValue s
       else if s.ssq.shedView = 4 then Spec.refused h 0x21 .power s
       else Spec.accepted h 0x21
         { code := .done, flags := { clamped := decide (255 < gain.toNat) }, value := [Spec.byte (Spec.voiceCode v)] }
         { s with ssq.voices := s.ssq.voices.set vi
                    (if timing = 1 ∧ v.state = .loop ∧ v.owner ≠ none then { v with queued := some (cl, g) }
                     else Spec.started cl g none) })

/-- REFILL adds to FLUID up to the capacity (R131): an amount above 60000 or of 0 is CLAMPED, a sum above the capacity SATURATED, the
answer is FLUID after it. Outside DRY nothing else changes; in DRY the check is disarmed and SMU enters the state that the level and the
stage call for (R123). -/
def Obligations.RefillFillsTheTank : Prop :=
  ∀ (h : Head) (amount : Word16) (s : State), Spec.Arrives h 2 s →
    let taken := if amount = 0 then 1 else min amount.toNat 60000
    let n := min (s.smu.fluid + taken) s.cfs.working.fluidCapacity
    let a : Answer :=
      { code := .done, value := be2 n
        flags := { clamped := decide (taken ≠ amount.toNat), saturated := decide (s.cfs.working.fluidCapacity < s.smu.fluid + taken) } }
    (s.smu.state ≠ .dry →
        exec (.refill h amount) s = .next (Spec.accepted h 0x22 a { s with smu.fluid := n, rcu.views.fluid := n }))
    ∧ (s.smu.state = .dry → s.smu.heater = 0 → 0 < n → s.smu.levelView ≤ 3 →
        ∃ t, exec (.refill h amount) s = .next t
          ∧ t.smu.fluid = n ∧ t.rcu.views.fluid = n ∧ t.smu.dryArmed = false ∧ t.smu.heater = 0
          ∧ t.smu.state = (if s.smu.levelView = 0 then .off else if 2 ≤ s.smu.shedView then .held
              else if s.smu.tView + 15 < s.cfs.working.smokeTemps[s.smu.levelView - 1]! then .warming else .regulating)
          ∧ t.rcu.views.smokeState = t.smu.state ∧ (h.source = .host → t.hpt.slots = s.hpt.slots)
          ∧ t.moc = s.moc ∧ t.bmu = s.bmu ∧ t.ssq = s.ssq ∧ t.ltc = s.ltc ∧ t.pws = s.pws ∧ t.cfs = s.cfs)

/-- SCENE_WRITE replaces one step of a row whole (R149): a row, step or code outside its set is BAD_VALUE, and the step stands. The
answer is the player's state after it. A write of step 0 with a duration to the row the player waits on starts the row (R153). -/
def Obligations.SceneWriteReplacesTheStep : Prop :=
  ∀ (h : Head) (row step duration : Byte) (codes : Vector Byte 12) (s : State), Spec.Arrives h 15 s →
    (1 < row.toNat ∨ 15 < step.toNat ∨ (∃ n : Fin 12, 15 < (codes[n]).toNat) →
        exec (.sceneWrite h row step duration codes) s = .next (Spec.refused h 0x23 .badValue s))
    ∧ (row.toNat ≤ 1 → step.toNat ≤ 15 → (∀ n : Fin 12, (codes[n]).toNat ≤ 15) →
        exec (.sceneWrite h row step duration codes) s = .next
          (let x : SceneStep := ⟨duration.toNat, Vector.ofFn fun n => Fin.ofNat 16 (codes[n]).toNat⟩
           let r : SceneRow := if row = 0 then .a else .b
           let i := Fin.ofNat 16 step.toNat
           let l : Ltc := { s.ltc with
             rowA := if r = .a then s.ltc.rowA.set i x else s.ltc.rowA
             rowB := if r = .b then s.ltc.rowB.set i x else s.ltc.rowB }
           let l : Ltc := if l.player = .waiting ∧ l.row = r ∧ step = 0 ∧ duration ≠ 0 then
               { l with player := .playing, stepIndex := 0, remaining := duration.toNat, latch := some x }
             else l
           Spec.accepted h 0x23
             { code := .done
               value := [match l.player with
                 | .stopped => 0
                 | .playing => if l.row = .a then 1 else 2
                 | .waiting => 3] }
             { s with ltc := l }))

namespace Sys2Proof.Spec

/-- The between-puff level of the fan (R133). -/
def betweenPuffs (s : State) : Nat :=
  if s.smu.motionView = .driving ∨ s.smu.motionView = .reversing then s.cfs.working.fanBetweenLevel else s.cfs.working.fanIdleLevel

/-- T* of a level under a configuration (7.1). -/
def targetAt (c : Configuration) (level : Nat) : Nat :=
  if level = 1 then c.smokeTemps[0] else if level = 2 then c.smokeTemps[1] else c.smokeTemps[2]

end Sys2Proof.Spec

/-- CLEAR_FAULTS cleans the record of each output of its mask, stops its timers and releases it, whoever sends it; the other records
stay; RCU holds the clean records and the summary anew; a truck that returns to OK starts from J = 0 (R65); the answer is the summary
before; no notice but one of the smoke state, and with the heater's record SMU leaves FAULT for the state that the level and the stage call
for (R123, R126, R175). Between any two commands the fault records are FaultInv's, and RCU and RIF hold the new summary (R6, R169). That a released
truck keeps the duty of its shadow, and a released light its level, until the next control step or light frame, is the model's choice (log
entry 45). -/
def Obligations.ClearFaultsCleansRecords : Prop :=
  ∀ (h : Head) (mask : OutputSet) (s : State), Spec.Arrives h 2 s →
    ∃ t, exec (.clearFaults h mask) s = .next t
      ∧ (∀ o : Output, mask.getLsbD (outputIndex o).val = true →
          (t.odu.watch o).record = {} ∧ (t.odu.watch o).retry = .stopped ∧ (t.odu.watch o).probation = .stopped
          ∧ (t.odu.watch o).openTimer = .stopped ∧ t.rcu.views.faults[outputIndex o] = {})
      ∧ (∀ o : Output, mask.getLsbD (outputIndex o).val = false →
          (t.odu.watch o).record = (s.odu.watch o).record ∧ (t.odu.watch o).retry = (s.odu.watch o).retry
          ∧ (t.odu.watch o).probation = (s.odu.watch o).probation
          ∧ t.rcu.views.faults[outputIndex o] = s.rcu.views.faults[outputIndex o])
      ∧ (∀ x : Truck, let named := mask.getLsbD (outputIndex (.truck x)).val
          (named = true → s.heldOff (.truck x) = true → t.bmu.bridge x = { s.bmu.bridge x with heldOff := false })
          ∧ (named = true → t.moc.truck x = { s.moc.truck x with
              faultView := .ok, integral := if (s.moc.truck x).faultView = .ok then (s.moc.truck x).integral else 0 })
          ∧ (named = false → t.bmu.bridge x = s.bmu.bridge x ∧ t.moc.truck x = s.moc.truck x))
      ∧ (∀ n : Fin 12, t.ltc.lights[n]
          = if mask.getLsbD (outputIndex (.light n)).val then { s.ltc.lights[n] with faultView := .ok } else s.ltc.lights[n])
      ∧ (mask.getLsbD 2 = true → s.smu.state ≠ .fault → t.smu = { s.smu with faultView := .ok, shortView := false })
      ∧ (mask.getLsbD 2 = true → s.smu.state = .fault → s.smu.levelView ≤ 3 →
          t.smu.state = (if s.smu.fluid = 0 then .dry else if s.smu.levelView = 0 then .off else if 2 ≤ s.smu.shedView then .held
            else if s.smu.tView + 15 < Spec.targetAt s.cfs.working s.smu.levelView then .warming else .regulating)
          ∧ t.rcu.views.smokeState = t.smu.state ∧ t.smu.heater = (if t.smu.state.heats then s.smu.heater else 0)
          ∧ t.smu.fan = (if t.smu.state = .regulating then Spec.betweenPuffs s else 0))
      ∧ (mask.getLsbD 2 = true → t.smu.state ≠ .fault)
      ∧ (mask.getLsbD 2 = false → t.smu = s.smu)
      ∧ t.hpt.notices = (if mask.getLsbD 2 = true ∧ s.smu.state = .fault then pushNotice (.smokeState t.smu.state) s else s).hpt.notices
      ∧ (∀ k : Fin 16, t.odu.summary.getLsbD k.val = (match allOutputs[k.val]? with
          | none => false
          | some o => (t.odu.watch o).record.opened || (t.odu.watch o).record.shorted))
      ∧ (FaultInv s → t.rcu.views.faultSummary = t.odu.summary ∧ t.rif.summaryView = t.odu.summary)
      ∧ (h.source = .host → h.control.getLsbD 0 = false →
          t.hpt.out = [0x00, 0x00, h.tag, 0x00, 0x00, 0x02] ++ be2 s.odu.summary.toNat)
      ∧ t.rcu.targetNotch = s.rcu.targetNotch ∧ t.rcu.keys = s.rcu.keys ∧ t.rcu.smokeLevel = s.rcu.smokeLevel
      ∧ t.pws = s.pws ∧ t.cfs = s.cfs ∧ t.ssq = s.ssq ∧ t.moc.motionState = s.moc.motionState

namespace Sys2Proof.Spec

/-- An entry byte suits an item: one of its entries, or 0xFF for an item without entries (R178, R190). -/
def hasEntry (i : Item) (entry : Byte) : Bool :=
  match i.entries with
  | none => decide (entry = 0xFF)
  | some (lo, hi) => decide (lo ≤ entry.toNat) && decide (entry.toNat ≤ hi)

end Sys2Proof.Spec

/-- CONFIG_READ answers the working value of an item or entry, and of STORE_STATUS DIRTY and the commit state; a number above 53 is
BAD_FIELD, an entry that is not the item's is BAD_VALUE, and 0xFF alone suits an item without entries (R178, R190). It changes nothing
but the lease. -/
def Obligations.ConfigReadAnswersTheItem : Prop :=
  ∀ (h : Head) (item entry : Byte) (s : State), Spec.Arrives h 2 s →
    exec (.configRead h item entry) s = .next
      (match Item.ofByte item with
       | none => Spec.refused h 0x30 .badField s
       | some i =>
         if Spec.hasEntry i entry = false then Spec.refused h 0x30 .badValue s
         else if i = .storeStatus then
           Spec.accepted h 0x30
             { code := .done, value := [if s.cfs.dirty then 1 else 0, if s.cfs.writing then 1 else 0] } s
         else Spec.accepted h 0x30 { code := .done, value := s.cfs.working.encode i entry.toNat } s)

namespace Sys2Proof.Spec

/-- Item and entry exist and can be written (checks 1 to 3 of R179). -/
def writable (item entry : Byte) : Option Item :=
  match Item.ofByte item with
  | none => none
  | some i =>
    if i = .storeStatus ∨ hasEntry i entry = false then none else some i

/-- The throttle, if the source is one, is a dispatcher (R39). -/
def mayConfigure (c : Configuration) : Source → Bool
  | .host => true
  | .throttle id => decide (c.dispatchers[0] = some id) || decide (c.dispatchers[1] = some id)

/-- A comparator's output (R89): high at its level, low below its level less its hysteresis, and kept between. -/
def compared (level hysteresis v : Nat) (old : Bool) : Bool :=
  if level ≤ v then true else if v + hysteresis < level then false else old

/-- The sag timer by the table of R165, as `(timer, toward a raise)`; the direction of a stopped timer keeps its value. -/
def sagTimer (view : Bool) (part : Nat) (now : Time) (raise : Bool) : Timer × Bool :=
  if view = true then (if 0 < part then (.running (now + 3200000), false) else (.stopped, raise))
  else if part < 3 then (.running (now + 320000), true)
  else (.stopped, raise)

/-- The output of each comparator at the present voltage of its pin, under the present levels (R89). -/
def outputNow (k : Comparator) (s : State) : Bool :=
  let c := s.cfs.working
  match k with
  | .trackPresent => compared (600 + 200 * c.trackPresentLevel.val) 20 s.bmu.trackPin s.bmu.trackPresent
  | .trackSag => compared (1200 + 200 * c.trackSagLevel.val) 20 s.bmu.trackPin s.bmu.trackSag
  | .capReserve => compared (500 + 50 * c.capReserveLevel.val) 10 s.bmu.capPin s.bmu.capReserve
  | .capResume => compared (800 + 100 * c.capResumeLevel.val) 10 s.bmu.capPin s.bmu.capResume

/-- A comparator judged anew while the schedule runs (R89): PWS takes a change, and acts on it by R159, R161 and R165; a reserve that falls
in BRIDGE, which R160 takes further, is not said here. -/
def judgedAnew (k : Comparator) (s : State) : State :=
  let high := outputNow k s
  if s.bmu.running = false then s
  else match k with
    | .trackPresent =>
      if high = s.bmu.trackPresent then s
      else { s with
        bmu.trackPresent := high, pws.presentView := high, pws.towardPresent := high
        pws.qualification := .running (s.now + if high then 80000 else 16000) }
    | .trackSag =>
      let timer := sagTimer high s.pws.sagPart s.now s.pws.sagRaise
      if high = s.bmu.trackSag then s
      else if s.pws.powerState = .run then
        { s with bmu.trackSag := high, pws.sagView := high, pws.sagTimer := timer.1, pws.sagRaise := timer.2 }
      else { s with bmu.trackSag := high, pws.sagView := high }
    | .capReserve => { s with bmu.capReserve := high, pws.reserveView := if high = s.bmu.capReserve then s.pws.reserveView else high }
    | .capResume =>
      let u := { s with bmu.capResume := high, pws.resumeView := high }
      if high = s.bmu.capResume then s
      else if s.pws.powerState ≠ .settle then u
      else if high = true then
        { u with pws.settlePhase := .delaying, pws.settleTimer := .running (s.now + 160000 * s.cfs.working.settleDelay) }
      else { u with pws.settlePhase := .charging, pws.settleTimer := .stopped }

/-- The reserve falls in BRIDGE as its comparator is judged anew. -/
def reserveFalls (s : State) : Bool :=
  s.bmu.running && s.bmu.capReserve && !outputNow .capReserve s && decide (s.pws.powerState = .bridge)

/-- The fan command, with ODU (R134, R172): 0 switches it off at once, and one below 64 ends an open test. -/
def fanBecomes (n : Nat) (s : State) : State :=
  let w := s.odu.watch .fan
  { s with
    smu.fan := n, smu.fanPwm.isOn := s.smu.fanPwm.isOn && decide (n ≠ 0)
    odu := s.odu.setWatch .fan { w with command := n, openTimer := if n < 64 then .stopped else w.openTimer } }

/-- The voices without the ownership of a binding (R120): an owned one runs on unowned, its queued clip dropped, and a PAUSED one in TAIL. -/
def unowned (q : Ssq) (b : Fin 16) : Ssq :=
  { q with voices := q.voices.map fun v =>
      let u := { v with owner := none, queued := none }
      if v.owner ≠ some b then v
      else if v.fetch = .paused then inTail u ((q.clips[v.clip]).getD ⟨0, 0, 0, 0⟩).length
      else u }

/-- What the owner of an item does with a change of it, in the state `s` that holds the new configuration; `old` is the one before (R180):
KI (R65), the comparator levels (R89), BEAT_SOURCE (R97), KEY_BINDINGS (R120), SMOKE_TEMPS (R129, R135), FLUID_CAPACITY (R132), the fan
levels (R135), SCENE_KEY (R150). Every other item is read where it is used. -/
def ownerActs (i : Item) (entry : Nat) (old : Configuration) (s : State) : State :=
  let c := s.cfs.working
  let regulating := decide (s.smu.state = .regulating)
  match i with
  | .ki => { s with moc.front.integral := 0, moc.rear.integral := 0 }
  | .trackPresentLevel => judgedAnew .trackPresent s
  | .trackSagLevel => judgedAnew .trackSag s
  | .capReserveLevel => judgedAnew .capReserve s
  | .capResumeLevel => judgedAnew .capResume s
  | .beatSource =>
    if c.beatSource = .sensor then { s with btg.pendingFlag := false, btg.lastEdge := none, btg.accumulator := 0 }
    else if old.beatSource = .sensor then { s with btg.pendingFlag := false, btg.accumulator := 0 }
    else s
  | .keyBindings => { s with ssq := unowned s.ssq (Fin.ofNat 16 entry) }
  | .smokeTemps =>
    let lower := decide (targetAt c s.smu.levelView < targetAt old s.smu.levelView)
    { s with smu.dryArmed := s.smu.dryArmed && !((decide (s.smu.state = .warming) || regulating) && lower) }
  | .fluidCapacity => { s with
      smu.fluid := min s.smu.fluid c.fluidCapacity
      rcu.views.fluid := if c.fluidCapacity < s.smu.fluid then c.fluidCapacity else s.rcu.views.fluid }
  | .fanPuffLevel => if regulating && s.smu.puffTimer.isRunning then fanBecomes c.fanPuffLevel s else s
  | .fanBetweenLevel | .fanIdleLevel => if regulating && !s.smu.puffTimer.isRunning then fanBecomes (betweenPuffs s) s else s
  | .sceneKey =>
    let l := playerTakes c s.ltc.keysView s.ltc
    if l.player = .waiting ∧ s.ltc.player = .stopped then pushNotice (.sceneWaiting .a) { s with ltc := l } else { s with ltc := l }
  | _ => s

end Sys2Proof.Spec

/-- CONFIG_WRITE is checked in R179's order and applied whole or not at all: BAD_FIELD for no item, READ_ONLY for STORE_STATUS, BAD_VALUE
for an entry that is not the item's, a value of another length, an enumeration outside its set, or a cross-item constraint; DENIED from
a throttle that is no dispatcher. Applied, numbers are taken at the nearer end of their range, with CLAMPED, DIRTY is set, the commit in
flight is marked, and where the item's value is a new one its owner takes the change at once (R39, R179, R180): KI (R65), the comparator
levels (R89), BEAT_SOURCE (R97), KEY_BINDINGS (R120), SMOKE_TEMPS (R129), FLUID_CAPACITY (R132), the fan levels (R135), SCENE_KEY (R150).
A CAP_RESERVE_LEVEL above the capacitor in BRIDGE is a fall of the reserve, which leads to HALT, stage 4 and SUSPENDED (R61, R89, R160). The
smoke state between any two commands is SmokeInv's. The order of clamp and constraints, and a write of the value held, are log entry 25; the
prior value of a set is log entry 10; the pins' voltages are log entry 8; the player that stops is log entry 37; the lease after the
holder's own LEASE_TIME is log entry 41. -/
def Obligations.ConfigWriteSetsTheItem : Prop :=
  ∀ (h : Head) (item entry : Byte) (value : List Byte) (s : State), Spec.Arrives h (2 + value.length) s →
    (Spec.mayConfigure s.cfs.working h.source = false → exec (.configWrite h item entry value) s = .next (Spec.refused h 0x31 .denied s))
    ∧ (Spec.mayConfigure s.cfs.working h.source = true →
        (53 < item.toNat → exec (.configWrite h item entry value) s = .next (Spec.refused h 0x31 .badField s))
        ∧ (item = 53 → exec (.configWrite h item entry value) s = .next (Spec.refused h 0x31 .readOnly s))
        ∧ (item.toNat < 53 → Spec.writable item entry = none →
            exec (.configWrite h item entry value) s = .next (Spec.refused h 0x31 .badValue s))
        ∧ ∀ i : Item, Spec.writable item entry = some i →
            (value.length ≠ i.size → exec (.configWrite h item entry value) s = .next (Spec.refused h 0x31 .badValue s))
            ∧ ∀ ns : List Nat, splitFields i.fields value = some ns →
                ((List.zipWith FieldSpec.legal i.fields ns).all id = false
                  ∨ (s.cfs.working.put i entry.toNat ns).consistent i entry.toNat = false →
                  exec (.configWrite h item entry value) s = .next (Spec.refused h 0x31 .badValue s))
                ∧ ((List.zipWith FieldSpec.legal i.fields ns).all id = true →
                  (s.cfs.working.put i entry.toNat ns).consistent i entry.toNat = true →
                  let new := s.cfs.working.put i entry.toNat (List.zipWith FieldSpec.clamp i.fields ns)
                  let u := { s with
                    cfs.working := new, cfs.dirty := true, cfs.writtenDuring := s.cfs.writtenDuring || s.cfs.writing }
                  let changed := decide (new.get i entry.toNat ≠ s.cfs.working.get i entry.toNat)
                  (¬(changed = true ∧ i = .capReserveLevel ∧ Spec.reserveFalls u = true) → SmokeInv s → s.smu.levelView ≤ 3 →
                    exec (.configWrite h item entry value) s = .next (Spec.accepted h 0x31
                      { code := .done
                        flags := { clamped := decide (List.zipWith FieldSpec.clamp i.fields ns ≠ ns) }
                        value := if i.answersPrior then s.cfs.working.encode i entry.toNat else [0] }
                      (if changed then Spec.ownerActs i entry.toNat s.cfs.working u else u)))
                  ∧ (changed = true → i = .capReserveLevel → Spec.reserveFalls u = true → StageInv s → RestInv s →
                    ∃ t, exec (.configWrite h item entry value) s = .next t
                      ∧ t.cfs = { u.cfs with powerView := .halt }
                      ∧ t.bmu.capReserve = false ∧ t.pws.reserveView = false
                      ∧ t.pws.powerState = .halt ∧ t.rcu.views.powerState = .halt ∧ t.moc.powerView = .halt
                      ∧ t.pws.bridgeTimer = .stopped ∧ t.pws.settleTimer = .stopped ∧ t.pws.settlePhase = .none
                      ∧ t.pws.powerPart = 4 ∧ t.pws.shedStage = 4 ∧ t.moc.shedView = 4
                      ∧ t.moc.motionState = .suspended ∧ t.moc.ramp = 0
                      ∧ (h.source = .host → h.control.getLsbD 0 = false →
                          t.hpt.out = [0x00, 0x00, h.tag, 0x00, 0x00, 0x01, Spec.byte s.cfs.working.capReserveLevel.val])
                      ∧ t.rcu.targetNotch = s.rcu.targetNotch ∧ t.rcu.keys = s.rcu.keys ∧ t.rcu.holder = s.rcu.holder)))

/-- A value that CONFIG_WRITE takes unclamped is what CONFIG_READ answers from then on, byte for byte, and the item's other entries and
every other item stay as they were (R178, R179, R190). -/
def Obligations.ConfigValuesReadBack : Prop :=
  ∀ (c : Configuration) (item entry : Byte) (i : Item), Spec.writable item entry = some i →
    ∀ (value : List Byte) (ns : List Nat), splitFields i.fields value = some ns →
    (List.zipWith FieldSpec.legal i.fields ns).all id = true → List.zipWith FieldSpec.clamp i.fields ns = ns →
    (c.put i entry.toNat ns).encode i entry.toNat = value
    ∧ ∀ (item' entry' : Byte) (j : Item), Spec.writable item' entry' = some j → (item', entry') ≠ (item, entry) →
        (c.put i entry.toNat ns).encode j entry'.toNat = c.encode j entry'.toNat

/-- COMMIT starts in RUN with no commit in flight (R181): a posted one from the host is BAD_KIND, outside RUN POWER, while WRITING BUSY;
DENIED from a throttle that is no dispatcher (R39). It takes the snapshot and records its origin, and a host's takes a deferred slot.
COMMIT_END is one event (R182): DIRTY is no exactly where the image checks good and nothing was written meanwhile; the commit state is
IDLE, its origin none; the host gets its COMPLETION and its deferred slot back, a throttle's outcome goes to the host as a notice. DIRTY after a failed commit and the image it leaves are log entries 23 and 24. -/
def Obligations.CommitStartsAndEnds : Prop :=
  (∀ (h : Head) (s : State), Spec.Arrives h 0 s → s.hpt.slots.length < 4 →
    exec (.commit h) s = .next
      (if Spec.mayConfigure s.cfs.working h.source = false then Spec.refused h 0x32 .denied s
       else if h.control.getLsbD 0 = true ∧ h.source = .host then Spec.refused h 0x32 .badKind s
       else if s.cfs.powerView ≠ .run then Spec.refused h 0x32 .power s
       else if s.cfs.writing then Spec.refused h 0x32 .busy s
       else
         let origin : CommitOrigin := match h.source with
           | .host => .host h.tag
           | .throttle id => .throttle id
         Spec.accepted h 0x32 { code := .accepted }
           { s with
             cfs.writing := true, cfs.origin := origin, cfs.writtenDuring := false, cfs.snapshot := s.cfs.working
             hpt.slots := if h.source = .host then s.hpt.slots ++ [⟨.commit, h.tag⟩] else s.hpt.slots }))
  ∧ ∀ (s : State) (good : Bool), s.inReset = false →
    (s.cfs.writing = false → exec (.commitEnd good) s = .next s)
    ∧ (s.cfs.writing = true → ∃ t, exec (.commitEnd good) s = .next t ∧
        t.cfs.image.items = s.cfs.snapshot ∧ (t.cfs.image.items.crc = t.cfs.image.crc ↔ good = true) ∧
        let code : Code := if good then .done else .failed
        let u := { s with
          cfs.image := t.cfs.image, cfs.dirty := !good || s.cfs.writtenDuring, cfs.writing := false, cfs.origin := .none
          cfs.writtenDuring := false }
        t = (match s.cfs.origin with
          | .none => u
          | .host tag => { pushNotice (.completion tag code 0) u with hpt.slots := s.hpt.slots.erase ⟨.commit, tag⟩ }
          | .throttle id => pushNotice (.radioCommitDone id code) u))

/-! ## The Host Port -/

namespace Sys2Proof.Spec

/-- The request commands: head, kind code, and the count of operand bytes the kind's layout requires (R190). -/
def record : Instr → Option (Head × Byte × Nat)
  | .read h _ _ => some (h, 0x10, 2)
  | .write h _ _ => some (h, 0x11, 5)
  | .add h _ _ => some (h, 0x12, 3)
  | .keys h _ _ _ => some (h, 0x13, 9)
  | .flip h _ _ => some (h, 0x14, 5)
  | .swap h _ _ => some (h, 0x15, 5)
  | .claim h _ _ => some (h, 0x16, 2)
  | .release h _ => some (h, 0x17, 1)
  | .haltNow h => some (h, 0x18, 0)
  | .measure h _ => some (h, 0x20, 1)
  | .play h _ _ _ _ => some (h, 0x21, 5)
  | .refill h _ => some (h, 0x22, 2)
  | .sceneWrite h _ _ _ _ => some (h, 0x23, 15)
  | .clearFaults h _ => some (h, 0x24, 2)
  | .configRead h _ _ => some (h, 0x30, 2)
  | .configWrite h _ _ value => some (h, 0x31, 2 + value.length)
  | .commit h => some (h, 0x32, 0)
  | _ => none

/-- A framing error: it is counted, up to 255, and the port shifts out 0xFF until the select line rises (R184, R185). -/
def framingError (s : State) : State :=
  { s with
    hpt.framingErrors := min (s.hpt.framingErrors + 1) 255, hpt.transaction := .filling, hpt.selectLow := true, hpt.out := [] }

end Sys2Proof.Spec

/-- The Host Port turns a request away before any block sees it (R185): a LENGTH below the head is a framing error, any request in LOAD
is BUSY, a LENGTH other than the kind's is BAD_VALUE, and a MEASURE or COMMIT beyond four deferred requests is BUSY; a CONFIG_WRITE of
another length takes the code of the first check of R179 that fails, where its record carries an item (R39, R179). LENGTH against the
operands a command carries is log entry 28, and a CONFIG_WRITE whose record ends before or after its item is log entry 31. -/
def Obligations.HostPortTurnsAway : Prop :=
  ∀ (c : Instr) (s : State) (x : Head × Byte × Nat), Spec.record c = some x → x.1.source = .host → s.inReset = false →
    s.hpt.transaction = .receiving →
    let head := if x.1.control.getLsbD 0 then 3 else 4
    (x.1.length.toNat < head → exec c s = .next (Spec.framingError s))
    ∧ (head ≤ x.1.length.toNat →
        (s.rcu.views.powerState = .load → exec c s = .next (Spec.refused x.1 x.2.1 .busy s))
        ∧ (s.rcu.views.powerState ≠ .load → x.2.1 ≠ 0x31 → x.1.length.toNat ≠ head + x.2.2 →
            exec c s = .next (Spec.refused x.1 x.2.1 .badValue s))
        ∧ (∀ (item entry : Byte) (value : List Byte), c = .configWrite x.1 item entry value → s.rcu.views.powerState ≠ .load →
            x.1.length.toNat ≠ head + x.2.2 →
            exec c s = .next (Spec.refused x.1 x.2.1
              (if x.1.length.toNat = head then .badValue
               else if 53 < item.toNat then .badField
               else if item = 53 then .readOnly
               else .badValue) s))
        ∧ (s.rcu.views.powerState ≠ .load → x.2.1 = 0x20 ∨ x.2.1 = 0x32 → x.1.length.toNat = head + x.2.2 →
            4 ≤ s.hpt.slots.length → exec c s = .next (Spec.refused x.1 x.2.1 .busy s)))

/-- A transaction of the Host Port (R184, R185): the select line's fall begins it; its first byte names it, 0x01 a REQUEST, 0x02 a NOTICE
and 0x03 a STATUS, and any other byte is a framing error; past its answer the part shifts out 0xFF, and the select line's rise ends it in any state; a rise amid a record is a framing error; a complete record of a kind that is none of the
seventeen is BAD_KIND, and in LOAD BUSY. NOTICE takes the oldest notice off the queue and shifts out its eight bytes, or the empty
marker; in LOAD it returns the empty marker unless an ERROR waits, which it then takes (R189), though R188 has it take the oldest notice of
all, by log entry 33; STATUS shifts out its seven bytes, taken together, and sets the lost-event count to 0 (R188, R190). Commands for whole records, and the record of an undefined kind, are log entries 12 and 17. -/
def Obligations.HostTransactionsBeginAndEnd : Prop :=
  ∀ s : State, s.inReset = false →
    (s.hpt.selectLow = false →
        exec .hostSelectFall s = .next { s with hpt.selectLow := true, hpt.transaction := .kind, hpt.out := [] })
    ∧ (s.hpt.selectLow = true → exec .hostSelectFall s = .next s)
    ∧ exec .hostSelectRise s = .next { s with
        hpt.selectLow := false, hpt.transaction := .idle, hpt.out := []
        hpt.framingErrors := if s.hpt.transaction = .receiving then min (s.hpt.framingErrors + 1) 255 else s.hpt.framingErrors }
    ∧ (s.hpt.transaction = .kind →
        exec (.requestKindByte none) s
            = .next { s with hpt.transaction := .receiving, hpt.selectLow := true, hpt.out := [] }
        ∧ (∀ first : Byte, first ∉ ([0x01, 0x02, 0x03] : List Byte) →
            exec (.transactionFramingError (.unknownKind first)) s = .next (Spec.framingError s))
        ∧ ∀ r : UndefinedRecord,
            r.kind ∉ ([0x10, 0x11, 0x12, 0x13, 0x14, 0x15, 0x16, 0x17, 0x18, 0x20, 0x21, 0x22, 0x23, 0x24, 0x30, 0x31, 0x32] : List Byte) →
            r.head.source = .host → (if r.head.control.getLsbD 0 then 3 else 4) ≤ r.head.length.toNat →
            exec (.requestKindByte (some r)) s
              = .next (Spec.refused r.head r.kind (if s.rcu.views.powerState = .load then .busy else .badKind)
                  { s with hpt.transaction := .receiving }))
    ∧ (s.hpt.transaction = .receiving → exec (.transactionFramingError .badLength) s = .next (Spec.framingError s))
    ∧ (∀ i : Nat, s.hpt.shifted i = match s.hpt.out[i]? with
        | some b => b
        | none => 0xFF)
    ∧ (s.hpt.transaction = .kind →
    (s.rcu.views.powerState ≠ .load → exec .notice s = .next { s with
      hpt.transaction := .sending, hpt.selectLow := true, hpt.notices := s.hpt.notices.tail
      hpt.out := match s.hpt.notices with
        | [] => [0, 0, 0, 0, 0, 0, 0, 0]
        | n :: _ => n.bytes })
    ∧ (s.rcu.views.powerState = .load →
        ((∀ k c, Notice.error k c ∉ s.hpt.notices) → exec .notice s = .next { s with
          hpt.transaction := .sending, hpt.selectLow := true, hpt.out := [0, 0, 0, 0, 0, 0, 0, 0] })
        ∧ ∀ (before after : List Notice) (k : Byte) (c : Code), s.hpt.notices = before ++ .error k c :: after →
            (∀ k' c', Notice.error k' c' ∉ before) → exec .notice s = .next { s with
              hpt.transaction := .sending, hpt.selectLow := true, hpt.notices := before ++ after
              hpt.out := [0x02, k, c.byte, 0, 0, 0, 0, 0] })
    ∧ exec .status s = .next { s with
        hpt.transaction := .sending, hpt.selectLow := true, hpt.lost := 0
        hpt.out := [Spec.byte s.hpt.notices.length, Spec.byte s.hpt.lost, Spec.byte s.rcu.views.powerState.code,
          Spec.byte s.rcu.views.motionState.code, Spec.byte s.hpt.framingErrors, Spec.byte (s.rif.counts.replyOverrun / 256),
          Spec.byte s.rif.counts.replyOverrun] })

/-- A notice pushed into a queue with room is its newest; into a full queue, an event notice is dropped, and a COMPLETION takes the place
of the oldest event notice, which is dropped; each drop is counted, up to 255. ATTN is high while the queue holds a notice: after a push of
any kind, and after a NOTICE transaction, outside LOAD, where one more waits (R187, R188). A COMPLETION that meets a full queue of COMPLETIONs is dropped
and counted, by log entry 13. -/
def Obligations.NoticesQueueOrDrop : Prop :=
  ∀ (n : Notice) (s : State),
    let isEvent (m : Notice) : Bool := match m with
      | .completion _ _ _ => false
      | _ => true
    (s.hpt.notices.length < 16 → pushNotice n s = { s with hpt.notices := s.hpt.notices ++ [n] })
    ∧ (16 ≤ s.hpt.notices.length → isEvent n = true ∨ s.hpt.notices.all (fun m => !isEvent m) = true →
        pushNotice n s = { s with hpt.lost := min (s.hpt.lost + 1) 255 })
    ∧ (16 ≤ s.hpt.notices.length → isEvent n = false → ∀ (before after : List Notice) (m : Notice),
        s.hpt.notices = before ++ m :: after → isEvent m = true → before.all (fun x => !isEvent x) = true →
        pushNotice n s = { s with hpt.notices := before ++ after ++ [n], hpt.lost := min (s.hpt.lost + 1) 255 })
    ∧ (pushNotice n s).hpt.attn = true
    ∧ (s.inReset = false → s.hpt.transaction = .kind → s.rcu.views.powerState ≠ .load →
        ∃ t, exec .notice s = .next t ∧ t.hpt.attn = decide (2 ≤ s.hpt.notices.length))
    ∧ (s.hpt.attn = true ↔ s.hpt.notices ≠ [])

/-! ## The Trackside Radio -/

namespace Sys2Proof.Spec

/-- RIF's counters take new values, which RCU holds with it (R32). -/
def counted (c : RadioCounts) (s : State) : State := { s with rif.counts := c, rcu.views.radioCounts := c }

/-- One more, up to 65535 (R32). -/
def more (n : Nat) : Nat := min (n + 1) 65535

/-- Commands one after another, each from the state the one before left. -/
def Runs : List Instr → State → State → Prop
  | [], s, t => t = s
  | c :: cs, s, t => ∃ u, exec c s = .next u ∧ Runs cs u t

end Sys2Proof.Spec

/-- A byte from the modem (R28, R29): in IDLE a LEN in 8 to 46 starts a frame and any other is counted FRAME_LENGTH and starts
DISCARDING; in COLLECTING it joins the frame, and the last one completes it; each restarts the inter-byte timer of 2 ms, whose expiry
leaves IDLE and counts FRAME_GAP where a frame was being collected. From IDLE, a LEN byte and as many bytes after it, whatever they are,
complete one frame that holds exactly those bytes, and change nothing else. That a frame keeps the address and the consist number of its
completion for R33 is the model's choice (log entry 48). -/
def Obligations.RadioBytesAssemble : Prop :=
  (∀ (b : Byte) (s : State), s.inReset = false →
    let timer := Timer.running (s.now + 32000)
    let bytes := s.rif.collected ++ [b]
    (s.rif.assembly = .idle → 8 ≤ b.toNat → b.toNat ≤ 46 →
        exec (.radioByte b) s = .next { s with
          rif.assembly := .collecting, rif.frameLen := b.toNat, rif.collected := [], rif.interByte := timer })
    ∧ (s.rif.assembly = .idle → b.toNat < 8 ∨ 46 < b.toNat →
        exec (.radioByte b) s = .next (Spec.counted { s.rif.counts with frameLength := Spec.more s.rif.counts.frameLength }
          { s with rif.assembly := .discarding, rif.interByte := timer }))
    ∧ (s.rif.assembly = .collecting → bytes.length < s.rif.frameLen →
        exec (.radioByte b) s = .next { s with rif.collected := bytes, rif.interByte := timer })
    ∧ (s.rif.assembly = .collecting → s.rif.frameLen ≤ bytes.length →
        exec (.radioByte b) s = .next { s with
          rif.assembly := .idle, rif.frameLen := 0, rif.collected := [], rif.interByte := .stopped
          rif.completed := s.rif.completed ++ [{ bytes := bytes, completedAt := s.now
                                                 duringLoad := decide (s.rcu.views.powerState = .load)
                                                 address := s.cfs.working.locoAddress
                                                 consistNumber := s.cfs.working.consistNumber }] })
    ∧ (s.rif.assembly = .discarding → exec (.radioByte b) s = .next { s with rif.interByte := timer })
    ∧ ∀ due : Time, s.rif.interByte = .running due →
        exec .interByteTimerExpiry s = .next
          (let u := { s with
             now := max s.now due, rif.assembly := .idle, rif.frameLen := 0, rif.collected := [], rif.interByte := .stopped }
           if s.rif.assembly = .collecting then
             Spec.counted { s.rif.counts with frameGap := Spec.more s.rif.counts.frameGap } u
           else u))
  ∧ ∀ (bytes : List Byte) (s : State), s.inReset = false → s.rif.assembly = .idle → 8 ≤ bytes.length → bytes.length ≤ 46 →
    Spec.Runs ((BitVec.ofNat 8 bytes.length :: bytes).map Instr.radioByte) s
      { s with
        rif.frameLen := 0, rif.collected := [], rif.interByte := .stopped
        rif.completed := s.rif.completed ++ [{ bytes := bytes, completedAt := s.now
                                               duringLoad := decide (s.rcu.views.powerState = .load)
                                               address := s.cfs.working.locoAddress
                                               consistNumber := s.cfs.working.consistNumber }] }

namespace Sys2Proof.Spec

/-- Byte `i` of a frame after LEN. -/
def at' (f : CompletedFrame) (i : Nat) : Byte := f.bytes.getD i 0

/-- The request bytes of a frame: after COUNT, up to the CRC. -/
def requestBytes (f : CompletedFrame) : List Byte := (f.bytes.take (f.bytes.length - 2)).drop 5

/-- The CRC of a frame is the CRC-16 of what precedes it, high byte first (R31). -/
def crcGood (f : CompletedFrame) : Bool :=
  decide ((crc16 (f.bytes.take (f.bytes.length - 2))).toNat
    = 256 * (at' f (f.bytes.length - 2)).toNat + (at' f (f.bytes.length - 1)).toNat)

/-- DEST of a frame. -/
def dest (f : CompletedFrame) : Nat := 256 * (at' f 0).toNat + (at' f 1).toNat

/-- A frame is this locomotive's, its consist's, or a broadcast (R33), by the address and consist number of its completion (log entry 48). -/
def mine (f : CompletedFrame) : Bool :=
  decide (dest f = f.address) || (decide (1 ≤ f.consistNumber) && decide (dest f = 10000 + f.consistNumber)) || decide (dest f = 0)

/-- The frame repeats the last SEQ of its throttle within a second (R34). -/
def repeated (f : CompletedFrame) (table : List ThrottleEntry) : Bool :=
  match table.find? (fun e => e.id == at' f 2) with
  | none => false
  | some e => decide (e.lastSeq = at' f 3) && decide (f.completedAt ≤ e.lastHeard + 16000000)

/-- The counter that a completed frame raises, by the six checks of R30 in their order; none where it is accepted. -/
def raised (f : CompletedFrame) (r : Rif) : Option RadioCounts :=
  let c := r.counts
  let n := (at' f 4).toNat
  if f.duringLoad then some { c with notReady := more c.notReady }
  else if crcGood f = false then some { c with crc := more c.crc }
  else if at' f 2 = 0 ∨ at' f 2 = 255 then some { c with badThrottle := more c.badThrottle }
  else if n = 0 ∨ 4 < n ∨ splitRecords n (requestBytes f) = none then some { c with frameLength := more c.frameLength }
  else if mine f = false then some { c with notMine := more c.notMine }
  else if repeated f r.throttles then some { c with duplicate := more c.duplicate }
  else none

end Sys2Proof.Spec

/-- A completed frame that fails a check of R30, taken while no other is in handling (R37), is dropped, and raises the one counter of the
first check it fails, which RCU holds with RIF; nothing else changes, the throttle table and the lease included (R30, R32, R34). That the
address and the consist number are those of the frame's completion is the model's choice (log entry 48). -/
def Obligations.BadFramesAreCountedAndDropped : Prop :=
  ∀ (s : State) (f : CompletedFrame) (rest : List CompletedFrame), s.rif.completed = f :: rest → s.inReset = false →
    s.rif.handling = none → 8 ≤ f.bytes.length → ∀ c : RadioCounts, Spec.raised f s.rif = some c →
    exec .radioFrame s = .next (Spec.counted c { s with rif.completed := rest })

namespace Sys2Proof.Spec

/-- A request record as R190 lays it out: KIND, LENGTH, CONTROL, TAG where it is not posted, and the operands. -/
def recordBytes : Instr → Option (List Byte)
  | .read h f sel => some (lay h 0x10 [f, sel])
  | .write h f v => some (lay h 0x11 (f :: be4 v.toNat))
  | .add h f imm => some (lay h 0x12 (f :: be2 imm.toNat))
  | .keys h f m st => some (lay h 0x13 (f :: be4 m.toNat ++ be4 st.toNat))
  | .flip h f m => some (lay h 0x14 (f :: be4 m.toNat))
  | .swap h f v => some (lay h 0x15 (f :: be4 v.toNat))
  | .claim h e n => some (lay h 0x16 [e, n])
  | .release h c => some (lay h 0x17 [c])
  | .haltNow h => some (lay h 0x18 [])
  | .measure h c => some (lay h 0x20 [c])
  | .play h v c g t => some (lay h 0x21 ([v, c] ++ be2 g.toNat ++ [t]))
  | .refill h a => some (lay h 0x22 (be2 a.toNat))
  | .sceneWrite h r st d codes => some (lay h 0x23 ([r, st, d] ++ codes.toList))
  | .clearFaults h o => some (lay h 0x24 (be2 o.toNat))
  | .configRead h i e => some (lay h 0x30 [i, e])
  | .configWrite h i e v => some (lay h 0x31 (i :: e :: v))
  | .commit h => some (lay h 0x32 [])
  | _ => none
where
  lay (h : Head) (kind : Byte) (operands : List Byte) : List Byte :=
    [kind, h.length, h.control] ++ (if h.control.getLsbD 0 then [] else [h.tag]) ++ operands

/-- The bytes after LEN of a frame that carries records: DEST, THR, SEQ, COUNT, the records, and the CRC high byte first (R31, R190). -/
def frameBytes (dest : Nat) (thr seq : Byte) (records : List (List Byte)) : List Byte :=
  let body := be2 dest ++ [thr, seq] ++ be1 records.length ++ records.flatten
  body ++ be2 (crc16 body).toNat

/-- The command a request record of a frame is, sent by its throttle (R30, R190). -/
def commandOf (thr : Byte) (r : RawRecord) : Option Instr :=
  let head : Head :=
    ⟨.throttle thr, BitVec.ofNat 8 ((if r.posted then 3 else 4) + r.operands.length), if r.posted then 1 else 0, r.tag⟩
  match Kind.ofByte r.kind with
  | none => none
  | some k =>
    match parseBody k r.operands with
    | none => none
    | some b => some (match b with
      | .read f sel => .read head f sel
      | .write f v => .write head f v
      | .add f imm => .add head f imm
      | .keys f m st => .keys head f m st
      | .flip f m => .flip head f m
      | .swap f v => .swap head f v
      | .claim e n => .claim head e n
      | .release c => .release head c
      | .haltNow => .haltNow head
      | .measure c => .measure head c
      | .play v c g t => .play head v c g t
      | .refill a => .refill head a
      | .sceneWrite r st d codes => .sceneWrite head r st d codes
      | .clearFaults o => .clearFaults head o
      | .configRead i e => .configRead head i e
      | .configWrite i e v => .configWrite head i e v
      | .commit => .commit head)

/-- A request command as a throttle's record carries it: from that throttle, CONTROL 0 or 1, TAG 0 where posted, LENGTH the layout's. -/
def carried (thr : Byte) (c : Instr) : Bool :=
  match record c with
  | none => false
  | some (h, _, n) =>
    decide (h.source = .throttle thr) && (h.control == 0 || (h.control == 1 && h.tag == 0))
      && decide (h.length.toNat = (if h.control.getLsbD 0 then 3 else 4) + n)

end Sys2Proof.Spec

/-- Encoding and parsing agree: one to four request commands of a throttle, laid out as R190 says in a frame of at most 46 bytes with its
CRC, pass the checks up to the address of R30, and the records found are those commands, operand for operand, in their order. -/
def Obligations.FramesReadBack : Prop :=
  ∀ (dest : Nat) (thr seq : Byte) (cs : List Instr) (records : List (List Byte)), dest < 65536 → thr ≠ 0 → thr ≠ 255 →
    1 ≤ cs.length → cs.length ≤ 4 → cs.all (Spec.carried thr) = true → cs.map Spec.recordBytes = records.map some →
    (Spec.frameBytes dest thr seq records).length ≤ 46 →
    ∀ f : CompletedFrame, f.bytes = Spec.frameBytes dest thr seq records →
      8 ≤ f.bytes.length ∧ Spec.crcGood f = true ∧ Spec.dest f = dest ∧ Spec.at' f 2 = thr ∧ Spec.at' f 3 = seq
      ∧ ∃ raws, splitRecords (Spec.at' f 4).toNat (Spec.requestBytes f) = some raws
          ∧ raws.map (Spec.commandOf thr) = cs.map some

namespace Sys2Proof.Spec

/-- The entry that a frame of an unknown throttle takes from a full table (R35): the oldest LAST_HEARD of those that are not the drive
holder's, and of two as old the lower THROTTLE_ID. -/
def victim (holder : Holder) (table : List ThrottleEntry) : Option ThrottleEntry :=
  let may := table.filter fun e => decide (holder ≠ .throttle e.id)
  may.find? fun e => may.all fun o =>
    decide (e.lastHeard < o.lastHeard) || (decide (e.lastHeard = o.lastHeard) && decide (e.id.toNat ≤ o.id.toNat))

/-- The throttle table after a frame of `thr` with `seq` completed at `time` is accepted (R35): the entry of a known throttle takes SEQ and
time, an unknown one takes a FREE entry, and where none is FREE the victim's. -/
def tableAfter (thr seq : Byte) (time : Time) (holder : Holder) (table : List ThrottleEntry) : List ThrottleEntry :=
  if table.any (fun e => e.id == thr) = true then
    table.map fun e => if e.id = thr then { e with lastSeq := seq, lastHeard := time } else e
  else
    let kept := if table.length < 8 then table
      else match victim holder table with
        | none => table
        | some o => table.filter fun e => e.id != o.id
    kept ++ [⟨thr, seq, time⟩]

/-- The table, and the lease of the holder, after a frame of `thr` completed at `time` is heard (R19, R35, R37). -/
def heard (thr seq : Byte) (time : Time) (s : State) : State :=
  leased (.throttle thr) { s with rif.throttles := tableAfter thr seq time s.rif.holderView s.rif.throttles }

/-- A request of a frame addressed to the consist, as it is handed on under the configuration `c` of the frame's check: WRITE on DIRECTION
is inverted where the orientation is REVERSED, WRITE on KEYS becomes KEYS of the consist key mask, and the masks of KEYS and FLIP keep
the keys of that mask alone (R40, R41). DIRECTION is field 1 and KEYS field 3 (R190). -/
def inConsist (c : Configuration) : Instr → Instr
  | .write h f v =>
    if f = 1 then
      .write h f (if c.consistOrientation = .reversed ∧ v = 0 then 1 else if c.consistOrientation = .reversed ∧ v = 1 then 0 else v)
    else if f = 3 then .keys { h with length := h.length + 4 } f c.consistKeyMask v
    else .write h f v
  | .keys h f m st => .keys h f (m &&& c.consistKeyMask) st
  | .flip h f m => .flip h f (m &&& c.consistKeyMask)
  | i => i

/-- The code that refuses a record which is no request of its kind's length (R7, R39): an undefined kind, and a posted READ, SWAP or CLAIM,
BAD_KIND; MEASURE, and CONFIG_WRITE and COMMIT from no dispatcher, DENIED; any other BAD_VALUE (the order is log entry 31). -/
def refusesRecord (c : Configuration) (thr : Byte) (r : RawRecord) : Code :=
  match Kind.ofByte r.kind with
  | none => .badKind
  | some k =>
    if r.posted = true ∧ k ∈ [Kind.read, .swap, .claim] then .badKind
    else if k = .measure ∨ (k ∈ [Kind.configWrite, .commit] ∧ mayConfigure c (.throttle thr) = false) then .denied
    else .badValue

/-- The entry a record's request leaves, by the record's own KIND (R26, R43): HALT_NOW and a posted request leave an error entry alone, also
where a HALT_NOW has a wrong length (log entry 46). -/
def entryOf (thr : Byte) (c : Configuration) (r : RawRecord) (left : Option (Option ReplyEntry)) : Option ReplyEntry :=
  match left with
  | some (some (.error _ code)) => some (.error r.kind code)
  | some e => e
  | none =>
    let code := refusesRecord c thr r
    some (if r.posted = true ∨ r.kind = 0x18 then .error r.kind code else .response ⟨r.tag, { code := code }⟩)

/-- The records of a frame run as the commands they are, in frame order, each whole before the next (R37): what each leaves for the reply,
and the state after the last. `consist` is the configuration of a consist frame's check. A record that is no command changes nothing. -/
def frameRun (thr : Byte) (consist : Option Configuration) :
    List RawRecord → State → Option (List (RawRecord × Option ReplyEntry) × State)
  | [], s => some ([], s)
  | r :: rs, s =>
    let rest (e : Option ReplyEntry) (t : State) := (frameRun thr consist rs t).map fun x => ((r, e) :: x.1, x.2)
    match commandOf thr r with
    | none => rest (entryOf thr s.cfs.working r none) s
    | some i =>
      match exec ((consist.map fun c => inConsist c i).getD i) s with
      | .next t => rest (entryOf thr s.cfs.working r (some t.rif.lastEntry)) { t with rif.lastEntry := s.rif.lastEntry }
      | _ => none

/-- An entry as a consist frame's reply shows it under the configuration `c` of that moment (R40): where the orientation is REVERSED, the
answer to READ of DIRECTION or RUN_DIRECTION (fields 1 and 10) and to WRITE of DIRECTION is inverted. -/
def inverted (c : Configuration) (r : RawRecord) : ReplyEntry → ReplyEntry
  | .response x =>
    if c.consistOrientation = .reversed ∧ x.answer.code = .done
        ∧ ((r.kind = 0x10 ∧ (r.operands.head? = some 1 ∨ r.operands.head? = some 10)) ∨ (r.kind = 0x11 ∧ r.operands.head? = some 1)) then
      .response { x with answer.value := x.answer.value.map fun b => 1 - b }
    else .response x
  | e => e

/-- The reply to a frame (R43, R44): none where no request leaves an entry, REPLY_OVERRUN where four frames wait, and otherwise a reply
with the values of this moment, which goes out at once where none is being sent; a consist frame's are inverted by R40. -/
def replied (thr seq : Byte) (consist : Bool) (left : List (RawRecord × Option ReplyEntry)) (s : State) : State :=
  let c := s.cfs.working
  let entries := left.filterMap fun x => x.2.map fun e => if consist then inverted c x.1 e else e
  if entries = [] then s
  else if 4 ≤ s.rif.replies.length then counted { s.rif.counts with replyOverrun := more s.rif.counts.replyOverrun } s
  else
    let r : Reply :=
      { dest := thr, src := c.locoAddress, seq := seq, runSpeed := s.rcu.views.runSpeed
        motionState := s.rcu.views.motionState
        runDirection :=
          if consist = true ∧ c.consistOrientation = .reversed then
            (if s.rcu.views.runDirection = .forward then .reverse else .forward)
          else s.rcu.views.runDirection
        holder := s.rcu.holder, faultPresent := decide (s.rif.summaryView ≠ 0), restarted := s.rcu.restarted
        powerState := s.rcu.views.powerState, entries := entries }
    { s with rif.replies := s.rif.replies ++ [r], rif.sending := if s.rif.sending = none then some r else s.rif.sending }

/-- RIF goes on with an accepted frame (R37): it hands on as many of the waiting requests as the first of `frameBreaks` says, and all where
none is left. While requests wait it keeps the frame; after the last it answers it (R42, R43), a broadcast never (R38). -/
def goesOn (run : FrameRun) (s : State) : Option State :=
  let n := s.frameBreaks.head?.getD run.waiting.length
  (frameRun run.thr run.consist (run.waiting.take n) { s with frameBreaks := s.frameBreaks.drop 1 }).map fun x =>
    let answered := run.answered ++ x.1
    let v := x.2
    if n < run.waiting.length then { v with rif.handling := some { run with waiting := run.waiting.drop n, answered := answered } }
    else
      match run.addr with
      | .locomotive => replied run.thr run.seq false answered v
      | .consist => if v.cfs.working.consistLead then replied run.thr run.seq true answered v else v
      | .broadcast => v

/-- The run of an accepted frame (R33, R37, R38): its own address, the consist's, or all, and then its HALT_NOW requests alone. -/
def runOf (f : CompletedFrame) (raws : List RawRecord) (c : Configuration) : FrameRun :=
  let run : FrameRun := ⟨at' f 2, at' f 3, .locomotive, none, raws, []⟩
  if dest f = f.address then run
  else if 1 ≤ f.consistNumber ∧ dest f = 10000 + f.consistNumber then { run with addr := .consist, consist := some c }
  else { run with addr := .broadcast, waiting := raws.filter fun r => r.kind == 0x18 && r.operands.isEmpty }

end Sys2Proof.Spec

/-- An accepted frame is heard, which updates, fills or evicts an entry of the throttle table (R35), refreshes the holder's lease (R19), and
runs the commands its records are, in their order (R37). A frame of this locomotive's own address is answered with their entries (R43,
R44). A consist's is run with its directions inverted and its keys masked, and answered by the lead alone (R40, R41, R42). Of a broadcast
the HALT_NOW requests are applied, everything else is ignored, and nothing is answered (R38). RIF may be kept between two of the requests,
where other requests, a lease expiry and publications come in, and then goes on with the frame before it takes another, or a request of a
throttle taken alone (R37). A request as a command, where a frame is kept, the order of R39's refusals, the configuration that a frame's
consist changes are read from, the error entry of a HALT_NOW of wrong length, and the address and consist number of the frame's completion
are log entries 4, 5, 31, 32, 46 and 48. -/
def Obligations.AFrameDoesItsRequest : Prop :=
  ∀ s : State, s.inReset = false →
    (s.rif.handling = none → s.rif.completed = [] → exec .radioFrame s = .next s)
    ∧ (∀ (f : CompletedFrame) (rest : List CompletedFrame), s.rif.completed = f :: rest → s.rif.handling = none →
        s.rcu.views.powerState ≠ .load → 8 ≤ f.bytes.length → Spec.raised f s.rif = none →
        ∀ raws : List RawRecord, splitRecords (Spec.at' f 4).toNat (Spec.requestBytes f) = some raws →
        ∃ t, Spec.goesOn (Spec.runOf f raws s.cfs.working)
              (Spec.heard (Spec.at' f 2) (Spec.at' f 3) f.completedAt { s with rif.completed := rest }) = some t
          ∧ exec .radioFrame s = .next t)
    ∧ ∀ run : FrameRun, s.rif.handling = some run → s.rcu.views.powerState ≠ .load → run.Fits →
        ((∃ e ∈ s.rif.throttles, e.id = run.thr) → ∃ t, Spec.goesOn run { s with rif.handling := none } = some t ∧ exec .radioFrame s = .next t)
        ∧ ∀ (c : Instr) (h : Head), (Spec.record c).map (·.1) = some h → h.source ≠ .host → exec c s = .next s

/-- REPLY_SENT takes the frame sent off the queue and sends the next, if any (R44); an entry of the throttle table not heard for more than
60 s is FREE, unless its throttle holds the claim (R36) or RIF handles its frame (log entry 49). A request of a throttle of which RIF
holds no entry, taken alone, is one of a frame heard with it: the throttle has its entry before the request is handed on, a CLAIM included
(R35, R36, R37), with the SEQ a free value (log entry 4). -/
def Obligations.RepliesLeaveAndEntriesAge : Prop :=
  ∀ s : State, s.inReset = false →
    (s.rif.sending ≠ none →
        exec .replySent s = .next { s with rif.replies := s.rif.replies.drop 1, rif.sending := (s.rif.replies.drop 1).head? })
    ∧ (s.rif.sending = none → exec .replySent s = .next s)
    ∧ ∀ id : Byte,
        (∀ e, s.rif.throttles.find? (fun e => e.id == id) = some e → s.rif.holderView ≠ .throttle id →
          s.rif.handling.map (·.thr) ≠ some id →
          exec (.throttleEntryAgeing id) s = .next { s with
            now := max s.now (e.lastHeard + 960000001), rif.throttles := s.rif.throttles.filter fun e => e.id ≠ id })
        ∧ (s.rif.holderView = .throttle id ∨ s.rif.handling.map (·.thr) = some id ∨ (∀ e ∈ s.rif.throttles, e.id ≠ id) →
            exec (.throttleEntryAgeing id) s = .next s)
        ∧ ∀ (c : Instr) (h : Head), (Spec.record c).map (·.1) = some h → h.source = .throttle id → id ≠ 0 → id ≠ 255 →
            s.rcu.views.powerState ≠ .load → (if h.control.getLsbD 0 then 3 else 4) ≤ h.length.toNat → s.rif.handling = none →
            (∀ e ∈ s.rif.throttles, e.id ≠ id) →
            exec c s = exec c (Spec.heard id (Config.frameSeq s.freeIndex) s.now { s with freeIndex := s.freeIndex + 1 })

/-! ## The control step -/

namespace Sys2Proof.Spec

/-- MOC stands: EMERGENCY or SUSPENDED. -/
def stands (m : Moc) : Bool := m.emergencyLatch || decide (m.shedView = 4)

/-- P after a step (R51), under P* = 16 × V, or 0 while a reversal is pending (R50). -/
def ramp (s : State) : Nat :=
  let c := s.cfs.working
  let p := s.moc.ramp
  let target := if s.moc.reversalPending then 0 else 16 * speedTarget c.speedCurve s.moc.notch
  let fall := if s.moc.brakeView = 0 then c.decel else min 255 (c.decel + 16 * s.moc.brakeView)
  if stands s.moc then 0
  else if p < target then (if c.accel = 0 then target else min (p + c.accel) target)
  else if target < p then
    (if s.moc.lossBrake then max (p - 255) target else if c.decel = 0 then target else max (p - fall) target)
  else p

/-- The step brings P to 0 with a reversal pending, and completes it (R55). -/
def reverses (s : State) : Bool :=
  !stands s.moc && decide (0 < s.moc.ramp) && decide (ramp s = 0) && s.moc.reversalPending

/-- J and u of a truck's regulator (R64, R65): frozen while the output is beyond its range on the side of the error. -/
def regulated (c : Configuration) (pint ff : Nat) (x : TruckControl) (stands : Bool) : Int × Nat :=
  let e : Int := (pint : Int) - (x.emf : Int)
  let j := max (-4194304) (min 4194303 (x.integral + e * (c.ki : Int)))
  let p : Int := (ff : Int) + e * (c.kp : Int) / 64
  let u := p + j / 4096
  if pint = 0 ∨ stands = true ∨ x.faultView ≠ .ok then (0, 0)
  else if (1023 < u ∧ 0 < e) ∨ (u < 0 ∧ e < 0) then (x.integral, (max 0 (min 1023 (p + x.integral / 4096))).toNat)
  else (j, (max 0 (min 1023 u)).toNat)

/-- L after a step (R66). -/
def ceiling (l current limit : Nat) : Nat := if limit < current then l - l / 8 - 1 else min 1023 (l + 8)

/-- SLIP_STATE and the slip count after a step (R67, R68), from those before it, with P as the step leaves it. -/
def slip (m : Moc) (p sigma emfF emfR : Nat) : SlipState × Nat :=
  let diff := (emfF - emfR) + (emfR - emfF)
  if m.front.faultView ≠ .ok ∨ m.rear.faultView ≠ .ok ∨ p = 0 ∨ sigma = 0 then (.grip, 0)
  else match m.slipState with
    | .grip =>
      if diff ≤ sigma then (.grip, 0)
      else if m.slipCount < 3 then (.grip, m.slipCount + 1)
      else (.slip (if emfR < emfF then .front else .rear), 0)
    | .slip t =>
      if sigma / 2 < diff then (.slip t, 0)
      else if m.slipCount < 3 then (.slip t, m.slipCount + 1)
      else (.grip, 0)

/-- D of a truck from what MOC holds at the end of the step (R69). -/
def duty (m : Moc) (c : Configuration) (x : TruckControl) (t : Truck) : Nat :=
  if stands m = true ∨ x.faultView ≠ .ok then 0
  else
    let shed := if m.shedView ≤ 2 then 1023 else if m.shedView = 3 then 511 else 0
    let d := min x.output (min x.ceiling shed)
    let d := if m.powerView = .bridge then min d c.bridgeDutyCap else d
    if m.slipState = .slip t then min d m.slipCap else d

/-- The beat-source truck (R63): F with SENSOR; the other truck while ODU holds the chosen one off, and F while it holds both. -/
def beatTruck (m : Moc) (source : BeatSource) : TruckControl :=
  let chosen := if source = .rear then m.rear else m.front
  let other := if source = .rear then m.front else m.rear
  if chosen.faultView = .ok then chosen else if other.faultView = .ok then other else m.front

/-- SSQ after the triggers of a control step that brings P to `q` and SLIP_STATE to `after` (R55, R67, R70): START as P leaves 0, STOP as it
comes to 0, with REVERSE where a reversal ends there, and SLIP as a slip starts. -/
def stepTriggers (s : State) (q : Nat) (after : SlipState) : Ssq :=
  let c := s.cfs.working
  let moved :=
    if s.moc.ramp = 0 ∧ 0 < q then triggered 0 c s.ssq
    else if 0 < s.moc.ramp ∧ q = 0 then (if reverses s then triggered 2 c (triggered 1 c s.ssq) else triggered 1 c s.ssq)
    else s.ssq
  if s.moc.slipState = .grip ∧ after ≠ .grip then triggered 3 c moved else moved

/-- SSQ after the publication of a control step (R70, R115): the motion view, and the squeal, which fires once until RUN_SPEED has been above
SQUEAL_SPEED again. -/
def heardMotion (c : Configuration) (effort ff speed : Nat) (fell : Bool) (brake : Nat) (q : Ssq) : Ssq :=
  let u := { q with effortU := effort, effortFF := ff, runSpeed := speed, fell := fell, brakeView := brake }
  if q.squealArmed = true ∧ fell = true ∧ 8 ≤ brake ∧ speed < c.squealSpeed then triggered 4 c { u with squealArmed := false }
  else { u with squealArmed := q.squealArmed || decide (c.squealSpeed < speed) }

/-- The notices of a control step (R58, R67, R68): MOTION_STATE where the state changes, then the start or the end of a slip. -/
def stepNotices (s : State) (m : MotionState) (after : SlipState) : State :=
  let u := if m = s.moc.motionState then s else pushNotice (.motionState m) s
  match s.moc.slipState, after with
  | .grip, .slip x => pushNotice (.slip false x) u
  | .slip x, .grip => pushNotice (.slip true x) u
  | .grip, .grip => u
  | .slip _, .slip _ => u

end Sys2Proof.Spec

/-- CONTROL_STEP takes the speed curve and the beat source of the working configuration (R50, R63), and the oldest gap sample through the
nine stages (R48): sample, momentum, reversal and state (R50, R51, R55, R58), both
regulators (R64, R65), both ceilings (R66), slip (R67, R68), duty and modes to the bridges (R69), and the publications (R70), with the
effort of the beat-source truck. SSQ takes the triggers START, STOP, REVERSE and SLIP, and fires the squeal (R114, R115); MOTION_STATE and
SLIP notices follow the state. The coast-hold marker that ends in the first step that leaves P above 0 is log entry 34, and the loss-brake marker
that ends in the first outside EMERGENCY and SUSPENDED that leaves P at 0 is log entry 40 FF with
both trucks held off is log entry 43. -/
def Obligations.ControlStepMovesTheTrain : Prop :=
  ∀ (s : State) (g : GapSample) (rest : List GapSample), s.moc.samples = g :: rest → s.inReset = false → RestInv s →
    ∃ t, exec .controlStep s = .next t ∧
      let c := s.cfs.working
      let q := Spec.ramp s
      let pint := q / 16
      let ff := pint * c.kff / 4096
      let frontIn := { s.moc.front with emf := g.emfF, integral := if Spec.reverses s then 0 else s.moc.front.integral }
      let rearIn := { s.moc.rear with emf := g.emfR, integral := if Spec.reverses s then 0 else s.moc.rear.integral }
      let front := Spec.regulated c pint ff frontIn (Spec.stands s.moc)
      let rear := Spec.regulated c pint ff rearIn (Spec.stands s.moc)
      let grip := Spec.slip s.moc q c.slipThreshold g.emfF g.emfR
      let m := { s.moc with
        samples := rest, curve := c.speedCurve, beatSource := c.beatSource, ramp := q, feedforward := ff
        runDirection := if Spec.reverses s then s.moc.directionView else s.moc.runDirection
        reversalPending := s.moc.reversalPending && !Spec.reverses s
        fell := decide (q < s.moc.ramp), coastHold := s.moc.coastHold && (decide (q = 0) || Spec.stands s.moc)
        lossBrake := s.moc.lossBrake && (decide (q ≠ 0) || Spec.stands s.moc)
        slipState := grip.1, slipCount := grip.2
        slipCap := match grip.1, s.moc.slipState with
          | .slip .front, _ => rear.2
          | .slip .rear, _ => front.2
          | .grip, .slip _ => 1023
          | .grip, .grip => s.moc.slipCap
        front := { s.moc.front with
          emf := g.emfF, current := g.currentF, integral := front.1, output := front.2
          ceiling := Spec.ceiling s.moc.front.ceiling g.currentF c.currentLimit, duty := t.moc.front.duty }
        rear := { s.moc.rear with
          emf := g.emfR, current := g.currentR, integral := rear.1, output := rear.2
          ceiling := Spec.ceiling s.moc.rear.ceiling g.currentR c.currentLimit, duty := t.moc.rear.duty }
        motionState := t.moc.motionState }
      t.moc = m ∧ t.moc.motionState = Spec.motionOf m
      ∧ t.moc.front.duty = Spec.duty m c m.front .front ∧ t.moc.rear.duty = Spec.duty m c m.rear .rear
      ∧ t.bmu.front.dutyShadow = t.moc.front.duty ∧ t.bmu.rear.dutyShadow = t.moc.rear.duty
      ∧ t.bmu.front.modeShadow = Spec.mode m m.front ∧ t.bmu.rear.modeShadow = Spec.mode m m.rear
      ∧ (∀ x : Truck, (t.odu.watch (.truck x)).openTimer
          = if (t.moc.truck x).duty < 256 then .stopped else (s.odu.watch (.truck x)).openTimer)
      ∧ (t.odu.watch (.truck .front)).command = t.moc.front.duty ∧ (t.odu.watch (.truck .rear)).command = t.moc.rear.duty
      ∧ t.rcu = { s.rcu with views := { s.rcu.views with
          runSpeed := q / 16, runDirection := m.runDirection, motionState := t.moc.motionState, speedF := g.emfF, speedR := g.emfR
          dutyF := t.moc.front.duty, dutyR := t.moc.rear.duty, slipState := grip.1 } }
      ∧ t.ssq = Spec.heardMotion c (Spec.beatTruck m c.beatSource).output ff (q / 16) m.fell s.moc.brakeView (Spec.stepTriggers s q grip.1)
      ∧ t.hpt = (Spec.stepNotices s t.moc.motionState grip.1).hpt
      ∧ t.ltc = { s.ltc with runSpeed := q / 16, runDirection := m.runDirection }
      ∧ t.smu.motionView = t.moc.motionState ∧ t.smu.state = s.smu.state ∧ t.smu.heater = s.smu.heater
      ∧ t.rif = s.rif ∧ t.btg = s.btg ∧ t.pws = s.pws ∧ t.cfs = s.cfs

/-- Within one control step P moves toward P* and never passes it, whatever the rates, the brake and the loss-brake marker (R51); and while
the marker is set the train stops in at most 257 control steps from the highest ramp value (R52). The limiter cuts a ceiling in every
step of an excess, from any value to 0 within 40 steps, and restores it without one to 1023 within 128 steps (R66). -/
def Obligations.RampAndCeilingKeepTheirRanges : Prop :=
  (∀ (p target accel decel brake : Nat) (loss : Bool),
      let q := moveRamp p target accel decel brake loss
      (p ≤ target → p ≤ q ∧ q ≤ target) ∧ (target ≤ p → target ≤ q ∧ q ≤ p)
      ∧ (p < target → 0 < accel → q ≤ p + accel ∧ p < q)
      ∧ (target < p → 0 < decel → loss = false → p ≤ q + min 255 (decel + 16 * brake) ∨ brake = 0 ∧ p ≤ q + decel))
  ∧ (∀ (p accel decel brake : Nat), p ≤ 65520 → (fun q => moveRamp q 0 accel decel brake true)^[257] p = 0)
  ∧ ∀ l limit current : Nat, l ≤ 1023 →
    nextCeiling l current limit ≤ 1023
    ∧ (limit < current → 0 < l → nextCeiling l current limit < l)
    ∧ (limit < current → (fun x => nextCeiling x current limit)^[40] l = 0)
    ∧ (current ≤ limit → (fun x => nextCeiling x current limit)^[128] l = 1023)

/-! ## The bridges -/

namespace Sys2Proof.Spec

/-- A leg turned toward a switch (R76): at once, or 8 counts after its partner is off. -/
def turned (l : LegState) (side : Side) (now : Time) : LegState :=
  match l, side with
  | .off, x => .on x
  | .on .high, .high => .on .high
  | .on .low, .low => .on .low
  | .on .high, .low => .dead .low (now + 8)
  | .on .low, .high => .dead .high (now + 8)
  | .dead _ due, x => .dead x due

/-- A bridge from a period start on (R74, R75, R76, R78): its compare value, then OFF, BRAKING or DRIVING; a bridge that was BRAKING when
the gap opened comes back to BRAKING through a dead interval. -/
def bridgeAt (b : Bridge) (modulus : Modulus) (before : GapState) (polarity : Direction) (now : Time) : Bridge :=
  let b : Bridge := { b with
    compare := b.dutyShadow * modulus.counts / 1024
    brakedAtGap := if before = .requested then decide (b.output = .braking) else b.brakedAtGap }
  let off : Bridge := { b with output := .off, legA := .off, legB := .off }
  if b.heldOff ∨ before = .requested ∨ before = .settling ∨ before = .converting then off
  else match b.modeShadow with
    | .coast => off
    | .shortBrake =>
      if before = .resuming ∧ b.brakedAtGap = true then
        { b with output := .braking, legA := .dead .low (now + 8), legB := .dead .low (now + 8), brakedAtGap := false }
      else { b with output := .braking, legA := turned b.legA .low now, legB := turned b.legB .low now }
    | .drive =>
      if b.compare = 0 then { b with output := .driving, legA := .off, legB := .off }
      else
        let a := turned b.legA (if polarity = .forward then .high else .low) now
        let z := turned b.legB (if polarity = .forward then .low else .high) now
        { b with output := .driving, legA := a, legB := z
                 drivenSince := if a.isOn = true ∧ z.isOn = true then some now else none }

/-- The gap after a period start: a REQUESTED one opens, one whose sample is published closes (R78, R81). -/
def gapAt : GapState → GapState
  | .requested => .settling
  | .resuming => .closed
  | g => g

/-- A drive left open at a period's end (R80): its counts join the accumulator, up to its compare value. -/
def closed (b : Bridge) (periodStart now : Time) : Bridge :=
  match b.drivenSince with
  | none => b
  | some since => { b with drivenSince := none, driveCounts := b.driveCounts + (min now (periodStart + b.compare) - since) }

end Sys2Proof.Spec

/-- PWM_PERIOD_START (R73, R74, R75, R78, R81): the modulus in force, the gap with its settle timer of 50 µs steps, and each bridge's compare
value, output and switches, decided from its shadows; nothing else changes. A STOPPED schedule has no period start. A drive whose compare
match has not been taken closes with its counts (R80), and its charge is the free value of log entry 7. The dead interval back to BRAKING
after a gap is log entry 19; a leg turned on at once from OFF, an interval that OFF ends, and one under way with a new switch, are log
entry 36. -/
def Obligations.PeriodStartDecidesTheBridges : Prop :=
  ∀ s : State, s.inReset = false → (s.bmu.running = false → exec .pwmPeriodStart s = .next s)
    ∧ (s.bmu.running = true →
        ∃ t, exec .pwmPeriodStart s = .next t ∧
          let now := max s.now (s.bmu.periodStart + s.bmu.modulus.counts)
          let m := s.cfs.working.pwmModulus
          let after (b : Bridge) := Spec.bridgeAt (Spec.closed b s.bmu.periodStart now) m s.bmu.gap s.bmu.polarityShadow now
          t = { s with
            now := now, freeIndex := t.freeIndex
            bmu.periodStart := now, bmu.modulus := m, bmu.gap := Spec.gapAt s.bmu.gap
            bmu.settleTimer := if s.bmu.gap = .requested then .running (now + 800 * s.cfs.working.gapSettle) else s.bmu.settleTimer
            bmu.front := { after s.bmu.front with charge := t.bmu.front.charge }
            bmu.rear := { after s.bmu.rear with charge := t.bmu.rear.charge } }
          ∧ (∀ x : Truck,
              (s.bmu.bridge x).drivenSince = none
                ∨ (Spec.closed (s.bmu.bridge x) s.bmu.periodStart now).driveCounts = (s.bmu.bridge x).driveCounts →
              (t.bmu.bridge x).charge = (s.bmu.bridge x).charge)
          ∧ (s.bmu.front.drivenSince = none → s.bmu.rear.drivenSince = none → t.freeIndex = s.freeIndex))

namespace Sys2Proof.Spec

/-- The state of one leg of a bridge. -/
def legOf (b : Bridge) : Leg → LegState
  | .a => b.legA
  | .b => b.legB

/-- A leg in a dead interval. -/
def waits : LegState → Bool
  | .dead _ _ => true
  | .off => false
  | .on _ => false

/-- The other leg. -/
def partner : Leg → Leg
  | .a => .b
  | .b => .a

/-- A bridge with one leg in another state. -/
def withLeg (b : Bridge) (l : Leg) (x : LegState) : Bridge :=
  match l with
  | .a => { b with legA := x }
  | .b => { b with legB := x }

end Sys2Proof.Spec

/-- PWM_COMPARE_MATCH turns a driving bridge off for the rest of the period, and the counts and the charge of its drive join the
accumulators, a drive of no counts with no charge (R74, R80); DEAD_INTERVAL_END turns the waiting switch on, unless the bridge is OFF, or it drives and the counter has reached
the compare value (R76). The other bridge stays; a bridge that does not drive has no compare match, and a leg no interval but its own. -/
def Obligations.CompareAndDeadIntervalMoveTheLegs : Prop :=
  ∀ s : State, s.inReset = false → s.bmu.running = true →
    ∀ x : Truck, let b := s.bmu.bridge x
    (∀ since : Time, b.drivenSince = some since → b.output = .driving → b.legA.isOn = true → b.legB.isOn = true → ∀ charge : Nat,
        exec (.pwmCompareMatch x charge) s = .next (setBridge x
          { b with
            legA := .off, legB := .off, drivenSince := none, charge := if since < s.bmu.periodStart + b.compare then b.charge + charge else b.charge
            driveCounts := b.driveCounts + (s.bmu.periodStart + b.compare - since) }
          { s with now := max s.now (s.bmu.periodStart + b.compare) }))
    ∧ (b.output ≠ .driving → ∀ charge : Nat, exec (.pwmCompareMatch x charge) s = .next s)
    ∧ (∀ (l : Leg) (side : Side) (due : Time), Spec.legOf b l = .dead side due →
        let now := max s.now due
        let counter := min (now - s.bmu.periodStart) (s.bmu.modulus.counts - 1)
        exec (.deadIntervalEnd x l) s = .next (setBridge x
          (match b.output with
            | .off => Spec.withLeg b l .off
            | .braking => Spec.withLeg b l (.on side)
            | .driving =>
              if b.compare ≤ counter then { b with legA := .off, legB := .off, drivenSince := none }
              else { Spec.withLeg b l (.on side) with
                drivenSince := if (Spec.legOf b (Spec.partner l)).isOn then some now else none })
          { s with now := now }))
    ∧ ∀ l : Leg, Spec.waits (Spec.legOf b l) = false → exec (.deadIntervalEnd x l) s = .next s

namespace Sys2Proof.Spec

/-- BMU after channels join the end of its conversion list: an idle converter takes the oldest at once, for 10 µs (R83). -/
def listed (new : List Channel) (now : Time) (m : Bmu) : Bmu :=
  match m.converting, m.conversions ++ new with
  | none, c :: rest => { m with converting := some (c, now + 160), conversions := rest }
  | _, list => { m with conversions := list }

/-- The MEASUREs that wait on after a conversion that gives `value` to its channels (R86): those of other channels, and those that the
conversion was under way for when they were taken. -/
def waiting (value : Channel → Option Int) (slots : List SpotSlot) : List SpotSlot :=
  slots.filterMap fun y =>
    match value y.channel with
    | none => some y
    | some _ => if y.skipCurrent then some { y with skipCurrent := false } else none

/-- The other MEASUREs complete, in the order they were taken: a COMPLETION with the tag, DONE and the value, and the deferred slot FREE
(R86, R87, R186). -/
def completed (value : Channel → Option Int) : List SpotSlot → State → State
  | [], s => s
  | y :: rest, s =>
    completed value rest
      (match value y.channel, y.skipCurrent with
        | some v, false =>
          let u := pushNotice (.completion y.tag .done (BitVec.ofInt 16 v)) s
          { u with hpt.slots := u.hpt.slots.erase ⟨.measure, y.tag⟩ }
        | _, _ => s)

end Sys2Proof.Spec

/-- The gap (R78, R79, R80): a control-period expiry requests one from CLOSED and appends TRACK_V and CAP_V to the conversion list; the settle
expiry holds both motor voltages and starts the 10 µs conversion; its end publishes one sample to MOC and BTG, with E by 4096 × v / 25 V
and the mean currents, clears the accumulators, completes every MEASURE that waits on its channels, in the order they were taken, and lets
one that it was to skip wait on (R86, R87), and leaves the gap RESUMING. Between any two commands the
fault records are FaultInv's. A conversion list with no room is log entry 14. -/
def Obligations.TheGapMakesOneSample : Prop :=
  ∀ s : State, s.inReset = false →
    (∀ due : Time, s.bmu.controlTimer = .running due → s.bmu.conversions.length ≤ 6 →
        exec .controlPeriodExpiry s = .next { s with
          now := max s.now due
          bmu := Spec.listed [.trackV, .capV] (max s.now due) { s.bmu with
            controlTimer := .running (due + 80000), gap := if s.bmu.gap = .closed then .requested else s.bmu.gap } })
    ∧ (∀ (due : Time), s.bmu.settleTimer = .running due → ∀ voltsF voltsR : Int,
        exec (.gapSettleExpiry voltsF voltsR) s = .next { s with
          now := max s.now due
          bmu.gap := .converting, bmu.settleTimer := .stopped, bmu.gapConversion := .running (max s.now due + 160)
          bmu.front.heldVolts := voltsF, bmu.rear.heldVolts := voltsR })
    ∧ ∀ due : Time, s.bmu.gapConversion = .running due → FaultInv s →
        ∃ t, exec .gapConversionEnd s = .next t ∧
          let emf (v : Int) : Nat := min 4095 (4096 * v.natAbs / 25000)
          let current (b : Bridge) : Nat := if b.driveCounts = 0 then 0 else min 8191 (b.charge / b.driveCounts)
          let g : GapSample :=
            ⟨emf s.bmu.front.heldVolts, emf s.bmu.rear.heldVolts, current s.bmu.front, current s.bmu.rear⟩
          t.now = max s.now due ∧ t.moc = { s.moc with samples := s.moc.samples ++ [g] }
          ∧ t.btg = { s.btg with samples := if s.btg.watching then s.btg.samples ++ [g] else s.btg.samples }
          ∧ t.bmu.gap = .resuming ∧ t.bmu.gapConversion = .stopped
          ∧ t.bmu.front = { s.bmu.front with charge := 0, driveCounts := 0 }
          ∧ t.bmu.rear = { s.bmu.rear with charge := 0, driveCounts := 0 }
          ∧ (let value (c : Channel) : Option Int := match c with
              | .backEmf .front => some (g.emfF : Int)
              | .backEmf .rear => some (g.emfR : Int)
              | .current .front => some (g.currentF : Int)
              | .current .rear => some (g.currentR : Int)
              | _ => none
            t.bmu.slots = Spec.waiting value s.bmu.slots ∧ t.hpt = (Spec.completed value s.bmu.slots s).hpt)
          ∧ t.ssq = s.ssq ∧ t.smu = s.smu ∧ t.ltc = s.ltc ∧ t.pws = s.pws ∧ t.cfs = s.cfs

/-! ## Measurement and supervision -/

namespace Sys2Proof.Spec

/-- A measured quantity in the range of its channel (4.6). -/
def measured (c : Channel) (v : Int) : Int :=
  match c with
  | .current _ => max 0 (min 8191 v)
  | .heaterT => max 0 (min 511 v)
  | .heaterI => max 0 (min 2047 v)
  | .fanI => max 0 (min 1023 v)
  | .lightI _ => max 0 (min 511 v)
  | .dieT => max (-40) (min 150 v)
  | _ => max 0 (min 4095 v)

end Sys2Proof.Spec

/-- The conversion list (R83, R84, R85): a smoke tick appends HEATER_T, HEATER_I and FAN_I, and a die-timer expiry DIE_T, which an idle
converter starts at once; a CONVERSION_END takes the value in the channel's range to its consumers and to the MEASUREs that wait on it
in the order they were taken (R87), and the converter takes the oldest channel next. The COMPLETIONs stand after the notices of the
consumers by log entry 18. A list with no room is log entry 14. Between any two commands the smoke state is SmokeInv's. -/
def Obligations.ConversionsServeTheirChannels : Prop :=
  ∀ s : State, s.inReset = false →
    (∀ due : Time, s.smu.tickTimer = .running due → s.bmu.conversions.length ≤ 5 →
        exec .smokeTick s = .next { s with
          now := max s.now due, smu.tickTimer := .running (due + 1600000)
          bmu := Spec.listed [.heaterT, .heaterI, .fanI] (max s.now due) s.bmu })
    ∧ (∀ due : Time, s.bmu.dieTimer = .running due → s.bmu.conversions.length ≤ 7 →
        exec .dieTimerExpiry s = .next { s with
          now := max s.now due
          bmu := Spec.listed [.dieT] (max s.now due) { s.bmu with dieTimer := .running (due + 1600000) } })
    ∧ (s.bmu.converting = none → ∀ value : Int, exec (.conversionEnd value) s = .next s)
    ∧ ∀ x : Channel × Time, s.bmu.converting = some x → ∀ value : Int,
        ∃ t, exec (.conversionEnd value) s = .next t ∧
          let v := Spec.measured x.1 value
          t.now = max s.now x.2
          ∧ t.bmu.conversions = s.bmu.conversions.drop 1
          ∧ t.bmu.converting = (match s.bmu.conversions with
              | [] => none
              | c :: _ => some (c, max s.now x.2 + 160))
          ∧ (x.1 = .heaterT → t.smu = { s.smu with results := s.smu.results ++ [v.toNat] })
          ∧ (x.1 ≠ .heaterT → x.1 ≠ .dieT → t.smu.results = s.smu.results ∧ t.moc = s.moc ∧ t.pws = s.pws)
          ∧ (x.1 = .dieT → t.rcu.views.temperature = v ∧ t.pws.dieReport = true ∧ t.pws.temperature = some v)
          ∧ (let given (c : Channel) : Option Int := if c = x.1 then some v else none
            let done := Spec.completed given s.bmu.slots s
            let last := (s.bmu.slots.filter fun y => decide (y.channel = x.1) && !y.skipCurrent).map fun y =>
              Notice.completion y.tag .done (BitVec.ofInt 16 v)
            t.bmu.slots = Spec.waiting given s.bmu.slots ∧ t.hpt.slots = done.hpt.slots
            ∧ (x.1 ≠ .dieT → SmokeInv s → t.hpt = done.hpt)
            ∧ (s.hpt.notices.length ≤ 8 → s.bmu.slots.length ≤ 4 → (t.hpt.notices.reverse.take last.length).reverse = last))
          ∧ t.rcu.targetNotch = s.rcu.targetNotch ∧ t.rcu.holder = s.rcu.holder ∧ t.cfs = s.cfs ∧ t.btg = s.btg

namespace Sys2Proof.Spec

/-- The thermal contribution by the table of R167. -/
def thermal (held : Nat) (t tw : Int) : Nat :=
  match held with
  | 0 => if 140 ≤ t then 4 else if tw ≤ t then 2 else 0
  | 2 => if 140 ≤ t then 4 else if t < tw - 10 then 0 else 2
  | _ => if t < tw - 10 then 0 else if t < 125 then 2 else 4

end Sys2Proof.Spec

/-- PWS takes each DIE_T result: it publishes it to RCU as TEMPERATURE and moves the thermal contribution by R167's table, with Tw the
configured THERMAL_WARNING; the shed stage is formed anew and reaches its consumers (R164). -/
def Obligations.DieResultsMoveTheThermalPart : Prop :=
  ∀ (s : State) (due : Time), s.bmu.converting = some (.dieT, due) → s.inReset = false → StageInv s → RestInv s →
    ∀ value : Int, ∃ t, exec (.conversionEnd value) s = .next t ∧
      let v := max (-40) (min 150 value)
      t.rcu.views.temperature = v ∧ t.pws.thermalPart = Spec.thermal s.pws.thermalPart v s.cfs.working.thermalWarning
      ∧ t.pws.powerPart = s.pws.powerPart ∧ t.pws.sagPart = s.pws.sagPart ∧ t.pws.powerState = s.pws.powerState
      ∧ t.pws.shedStage = max t.pws.powerPart (max t.pws.sagPart t.pws.thermalPart)
      ∧ t.rcu.views.shedStage = t.pws.shedStage ∧ t.moc.shedView = t.pws.shedStage ∧ t.smu.shedView = t.pws.shedStage
      ∧ t.ltc.shedView = t.pws.shedStage ∧ t.ssq.shedView = t.pws.shedStage
      ∧ (t.pws.shedStage = 4 → t.moc.motionState = .suspended ∧ t.moc.ramp = 0)
      ∧ (t.pws.shedStage = s.pws.shedStage → t.moc = s.moc ∧ t.ltc = s.ltc ∧ t.ssq = s.ssq ∧ t.smu = s.smu)

/-- A supervision comparator's voltage is judged by its level and hysteresis, and a change reaches PWS (R89): a track-present change
restarts the qualification, 5 ms toward PRESENT or 1 ms toward LOST (R159); a track-sag change in RUN sets the sag timer (R165); a
capacitor-reserve fall in BRIDGE leads to HALT (R160); a capacitor-resume change in SETTLE delays or waits (R161). Anything else changes
nothing. The voltages kept from the last command are log entry 8. -/
def Obligations.ComparatorsReachThePower : Prop :=
  ∀ (s : State) (v : Nat), s.inReset = false → s.bmu.running = true →
    let c := s.cfs.working
    let present := Spec.compared (600 + 200 * c.trackPresentLevel.val) 20 v s.bmu.trackPresent
    let sag := Spec.compared (1200 + 200 * c.trackSagLevel.val) 20 v s.bmu.trackSag
    let reserve := Spec.compared (500 + 50 * c.capReserveLevel.val) 10 v s.bmu.capReserve
    let resume := Spec.compared (800 + 100 * c.capResumeLevel.val) 10 v s.bmu.capResume
    exec (.supervisionComparatorChange .trackPresent v) s = .next
      (if present = s.bmu.trackPresent then { s with bmu.trackPin := v }
       else { s with
         bmu.trackPin := v, bmu.trackPresent := present, pws.presentView := present, pws.towardPresent := present
         pws.qualification := .running (s.now + if present then 80000 else 16000) })
    ∧ exec (.supervisionComparatorChange .trackSag v) s = .next
        (if sag = s.bmu.trackSag then { s with bmu.trackPin := v }
         else
           let timer := Spec.sagTimer sag s.pws.sagPart s.now s.pws.sagRaise
           let run := decide (s.pws.powerState = .run)
           { s with
             bmu.trackPin := v, bmu.trackSag := sag, pws.sagView := sag
             pws.sagTimer := if run then timer.1 else s.pws.sagTimer
             pws.sagRaise := if run then timer.2 else s.pws.sagRaise })
    ∧ (s.pws.powerState ≠ .bridge ∨ reserve = true →
        exec (.supervisionComparatorChange .capReserve v) s = .next
          (if reserve = s.bmu.capReserve then { s with bmu.capPin := v }
           else { s with bmu.capPin := v, bmu.capReserve := reserve, pws.reserveView := reserve }))
    ∧ (s.pws.powerState = .bridge → reserve = false → s.bmu.capReserve = true →
        ∃ t, exec (.supervisionComparatorChange .capReserve v) s = .next t
          ∧ t.pws.powerState = .halt ∧ t.pws.bridgeTimer = .stopped ∧ t.pws.reserveView = false
          ∧ t.rcu.views.powerState = .halt ∧ t.moc.powerView = .halt ∧ t.cfs.powerView = .halt
          ∧ t.pws.powerPart = 4 ∧ t.pws.shedStage = max 4 (max s.pws.sagPart s.pws.thermalPart))
    ∧ exec (.supervisionComparatorChange .capResume v) s = .next
        (if resume = s.bmu.capResume then { s with bmu.capPin := v }
         else
           let u := { s with bmu.capPin := v, bmu.capResume := resume, pws.resumeView := resume }
           if s.pws.powerState ≠ .settle then u
           else if resume = true then
             { u with pws.settlePhase := .delaying, pws.settleTimer := .running (s.now + 160000 * c.settleDelay) }
           else { u with pws.settlePhase := .charging, pws.settleTimer := .stopped })

namespace Sys2Proof.Spec

/-- The power state after the track is qualified LOST or PRESENT (R160, R161). -/
def afterTrack (p : Pws) (present : Bool) : PowerState :=
  match p.powerState, present with
  | .run, false => if p.reserveView then .bridge else .halt
  | .settle, false => .halt
  | .bridge, true => .run
  | .halt, true => .settle
  | q, _ => q

/-- The power contribution of a power state (9.4). -/
def powerPart : PowerState → Nat
  | .run => 0
  | .bridge => 2
  | _ => 4

/-- PWS and all that takes the power state stand in `p`: the state is with RCU, MOC and CFS, the power contribution follows it, and the
shed stage is the greatest of the three (R162, R164, R166). -/
def powered (p : PowerState) (s : State) : Prop :=
  s.pws.powerState = p ∧ s.rcu.views.powerState = p ∧ s.moc.powerView = p ∧ s.cfs.powerView = p ∧ s.pws.powerPart = powerPart p
    ∧ s.pws.shedStage = max s.pws.powerPart (max s.pws.sagPart s.pws.thermalPart)

end Sys2Proof.Spec

namespace Sys2Proof.Spec

/-- P as the end of suspension seeds it, under the curve and the beat source that the last control step took (R62; R50, R63). -/
def seed (m : Moc) : Nat :=
  if m.emergencyLatch then m.ramp else min (16 * (beatTruck m m.beatSource).emf) (16 * speedTarget m.curve m.notch)

/-- MOC as the end of suspension leaves it at a shed stage below 4 (R62): P seeded, the direction settled, the state evaluated. -/
def resumed (m : Moc) (stage : Nat) : Moc :=
  let differs := decide (m.directionView ≠ m.runDirection)
  let flips := differs && decide (seed m = 0)
  let u := { m with
    shedView := stage, ramp := seed m, reversalPending := differs && !flips
    runDirection := if flips then m.directionView else m.runDirection
    front.integral := if flips then 0 else m.front.integral
    rear.integral := if flips then 0 else m.rear.integral }
  { u with motionState := motionOf u }

/-- MOC as suspension leaves it (R61). -/
def suspended (m : Moc) : Moc :=
  { m with
    shedView := 4, ramp := 0, lossBrake := false, motionState := .suspended, front.integral := 0, rear.integral := 0
    slipState := .grip, slipCount := 0, slipCap := if m.slipState = .grip then m.slipCap else 1023 }

/-- A voice silenced by a rise to stage 4 (R119). -/
def silenced (v : Voice) : Voice :=
  { v with
    state := .silent, owner := none, fetch := .done, buffer := [], awaiting := false, queued := none, burst := none }

/-- What a move from `s` to `t` of the shed stage does in the blocks that take it (R164). Between two stages below 4, MOC evaluates its state
(R58). Below 4 from 4, suspension ends (R62): both bridges and ODU get duty 0, and a flip reaches BMU, RCU, LTC and SSQ. To 4 from below, MOC
is SUSPENDED with both bridges in COAST (R61), every voice is silent with the output at 512 (R119), and every light is dark (R147). HELD
follows the stage (R125). -/
def stageReaches (s t : State) : Prop :=
  let old := s.pws.shedStage
  let new := t.pws.shedStage
  let m := { s.moc with powerView := t.moc.powerView }
  t.rcu.views.shedStage = new ∧ t.ssq.shedView = new ∧ t.smu.shedView = new ∧ t.ltc.shedView = new
    ∧ (old < 4 → new < 4 →
        let u := { m with shedView := new }
        t.moc = (if new = old then m else { u with motionState := motionOf u })
        ∧ t.rcu.views.motionState = (if t.moc.motionState = s.moc.motionState then s.rcu.views.motionState else t.moc.motionState)
        ∧ t.bmu = s.bmu ∧ t.ssq = { s.ssq with shedView := new } ∧ t.ltc = { s.ltc with shedView := new })
    ∧ (old = 4 → new = 4 → t.moc = m ∧ t.bmu = s.bmu ∧ t.ssq = s.ssq ∧ t.ltc = s.ltc)
    ∧ (old = 4 → new < 4 →
        let u := resumed m new
        let flips := decide (u.runDirection ≠ s.moc.runDirection)
        let q := { s.ssq with shedView := new }
        t.moc = u ∧ t.rcu.views.motionState = u.motionState
        ∧ t.rcu.views.runDirection = (if flips then u.runDirection else s.rcu.views.runDirection)
        ∧ t.bmu.polarityShadow = (if flips then u.runDirection else s.bmu.polarityShadow)
        ∧ t.bmu.front.dutyShadow = 0 ∧ t.bmu.rear.dutyShadow = 0
        ∧ t.bmu.front.modeShadow = mode u u.front ∧ t.bmu.rear.modeShadow = mode u u.rear
        ∧ (∀ x : Truck, t.odu.watch (.truck x) = { s.odu.watch (.truck x) with command := 0, openTimer := .stopped })
        ∧ t.ssq = (if flips then triggered 2 s.cfs.working q else q)
        ∧ t.ltc = { s.ltc with shedView := new, runDirection := if flips then u.runDirection else s.ltc.runDirection })
    ∧ (old < 4 → new = 4 →
        t.moc = suspended m ∧ t.rcu.views.motionState = .suspended
        ∧ t.bmu.front.modeShadow = .coast ∧ t.bmu.rear.modeShadow = .coast
        ∧ (BridgeInv s → t.bmu.front.isOff ∧ t.bmu.rear.isOff)
        ∧ t.ssq = { s.ssq with shedView := 4, outputCompare := 512, voices := s.ssq.voices.map silenced }
        ∧ t.ltc = { s.ltc with
            shedView := 4, lights := s.ltc.lights.map fun x => { x with level := 0, pwm.isOn := false } })
    ∧ (old < 2 → 2 ≤ new → s.smu.state = .warming ∨ s.smu.state = .regulating →
        t.smu.state = .held ∧ t.smu.heater = 0 ∧ t.smu.fan = 0)
    ∧ (old < 2 ∨ s.smu.state ≠ .held → new < 2 ∨ s.smu.state ≠ .warming ∧ s.smu.state ≠ .regulating →
        t.smu.state = s.smu.state)
    ∧ (2 ≤ old → new < 2 → s.smu.state = .held → 1 ≤ s.smu.levelView → s.smu.levelView ≤ 3 → 0 < s.smu.fluid →
        t.smu.state = if s.smu.tView + 15 < targetAt s.cfs.working s.smu.levelView then .warming else .regulating)

end Sys2Proof.Spec

/-- The timers of PWS (R159, R160, R161, R165): the qualification gives the track status, and a change of it moves the power state, with
the bridge-limit timer or the settle phase; the bridge limit ends in HALT, the settle delay in RUN; the sag timer moves its contribution
one step and is set again. Each move of the shed stage reaches MOC, SSQ, SMU and LTC (R61, R62, R119, R125, R147). A reversal whose
direction was written back is log entry 16, the order of SSQ and MOC log entry 18, COAST to a bridge that brakes log entry 19, ODU's duty
log entry 27, a dead interval that COAST ends log entry 36, the curve and the beat source of the seed log entry 38, and a loss-brake marker
that the end of suspension leaves log entry 40. -/
def Obligations.PowerTimersMoveThePower : Prop :=
  ∀ s : State, s.inReset = false → StageInv s → RestInv s →
    (∀ due : Time, s.pws.qualification = .running due →
        ∃ t, exec .trackQualificationExpiry s = .next t ∧
          let changed := s.pws.towardPresent != s.pws.trackPresent
          let p := if changed then Spec.afterTrack s.pws s.pws.towardPresent else s.pws.powerState
          t.now = max s.now due ∧ t.pws.qualification = .stopped ∧ t.pws.trackPresent = s.pws.towardPresent ∧ Spec.powered p t
          ∧ Spec.stageReaches s t
          ∧ (p = s.pws.powerState → t.pws.bridgeTimer = s.pws.bridgeTimer ∧ t.pws.settleTimer = s.pws.settleTimer ∧ t.moc = s.moc)
          ∧ (p ≠ s.pws.powerState → p = .bridge →
              t.pws.bridgeTimer = .running (max s.now due + 1600000 * s.cfs.working.bridgeLimit) ∧ t.pws.sagTimer = .stopped)
          ∧ (p ≠ s.pws.powerState → p = .settle →
              t.pws.settlePhase = (if s.pws.resumeView then .delaying else .charging)
              ∧ (s.pws.resumeView = true → t.pws.settleTimer = .running (max s.now due + 160000 * s.cfs.working.settleDelay)))
          ∧ (p ≠ s.pws.powerState → p = .halt →
              t.pws.bridgeTimer = .stopped ∧ t.pws.settleTimer = .stopped ∧ t.pws.settlePhase = .none ∧ t.moc.motionState = .suspended)
          ∧ (p ≠ s.pws.powerState → p = .run →
              t.pws.bridgeTimer = .stopped
              ∧ (t.pws.sagTimer, t.pws.sagRaise) = Spec.sagTimer s.pws.sagView s.pws.sagPart (max s.now due) s.pws.sagRaise))
    ∧ (∀ due : Time, s.pws.bridgeTimer = .running due →
        ∃ t, exec .bridgeLimitExpiry s = .next t ∧ t.now = max s.now due ∧ Spec.powered .halt t ∧ t.pws.bridgeTimer = .stopped
          ∧ Spec.stageReaches s t)
    ∧ (∀ due : Time, s.pws.settleTimer = .running due →
        ∃ t, exec .settleTimerExpiry s = .next t ∧ t.now = max s.now due ∧ Spec.powered .run t ∧ t.pws.settleTimer = .stopped
          ∧ t.pws.settlePhase = .none ∧ Spec.stageReaches s t)
    ∧ ∀ due : Time, s.pws.sagTimer = .running due →
        ∃ t, exec .sagTimerExpiry s = .next t ∧ t.now = max s.now due ∧ Spec.powered s.pws.powerState t
          ∧ t.pws.sagPart = (if s.pws.sagRaise then min 3 (s.pws.sagPart + 1) else s.pws.sagPart - 1)
          ∧ (t.pws.sagTimer, t.pws.sagRaise) = Spec.sagTimer s.pws.sagView t.pws.sagPart (max s.now due) s.pws.sagRaise
          ∧ Spec.stageReaches s t

/-! ## Output diagnosis -/

namespace Sys2Proof.Spec

/-- The short threshold of an output, in 2 mA units (R90). -/
def shortLevel : Output → Nat
  | .truck _ => 4000
  | .heater => 1500
  | .fan => 500
  | .light _ => 250

/-- A switch of the output is on (R90). -/
def switched (s : State) : Output → Bool
  | .truck .front => s.bmu.front.legA.isOn || s.bmu.front.legB.isOn
  | .truck .rear => s.bmu.rear.legA.isOn || s.bmu.rear.legB.isOn
  | .heater => s.smu.heaterPwm.isOn
  | .fan => s.smu.fanPwm.isOn
  | .light n => (s.ltc.lights[n]).pwm.isOn

/-- Every output but one keeps its record and its retry and probation timers, and its command but that of the heater and the fan, which
follow the smoke state. -/
def othersKeep (o : Output) (s t : State) : Prop :=
  ∀ x : Output, x ≠ o →
    (t.odu.watch x).record = (s.odu.watch x).record ∧ (t.odu.watch x).retry = (s.odu.watch x).retry
      ∧ (t.odu.watch x).probation = (s.odu.watch x).probation
      ∧ (x ≠ .heater → x ≠ .fan → (t.odu.watch x).command = (s.odu.watch x).command)

end Sys2Proof.Spec

/-- A short trips an output that drives and is OK (R90, R170): it is switched off at once, SHORT is set, and it waits 1 s for a retry, or
is LATCHED where a probation runs with the count at 3; the record, the summary and a FAULT notice follow, and SMU is in FAULT with the
heater (R126). The others keep theirs. A current at or below the threshold, or an output that is off, does not trip. The order of the
notices, a trip that meets no drive, and a dead interval that a hold-off ends, are log entries 18, 29 and 36. -/
def Obligations.AShortTripsTheOutput : Prop :=
  ∀ (s : State) (o : Output) (current : Nat), s.inReset = false →
    (Spec.switched s o = false ∨ (s.odu.watch o).record.state ≠ .ok ∨ current ≤ Spec.shortLevel o →
        exec (.shortComparatorTrip o current) s = .next s)
    ∧ (Spec.switched s o = true → (s.odu.watch o).record.state = .ok → Spec.shortLevel o < current →
        ∃ t, exec (.shortComparatorTrip o current) s = .next t ∧
          let w := s.odu.watch o
          let latches := w.probation.isRunning && decide (w.record.retries = 3)
          (t.odu.watch o).record = { w.record with shorted := true, state := if latches then .latched else .shortWait }
          ∧ (t.odu.watch o).retry = (if latches then .stopped else .running (s.now + 16000000))
          ∧ (t.odu.watch o).probation = .stopped ∧ (t.odu.watch o).openTimer = .stopped
          ∧ Spec.switched t o = false ∧ t.rcu.views.faults[outputIndex o] = (t.odu.watch o).record
          ∧ t.rcu.views.faultSummary = (if t.odu.summary = s.odu.summary then s.rcu.views.faultSummary else t.odu.summary)
          ∧ (t.odu.summary.getLsbD (outputIndex o).val = true)
          ∧ (∀ x : Truck, o = .truck x → (t.bmu.bridge x).heldOff = true ∧ (t.bmu.bridge x).isOff ∧ (t.moc.truck x).faultView ≠ .ok
              ∧ (match x with
                | .front => t.btg.heldF
                | .rear => t.btg.heldR) = true
              ∧ t.moc.slipState = .grip)
          ∧ (o = .heater → t.smu.state = .fault)
          ∧ (s.hpt.notices.length ≤ 13 →
              t.hpt.notices.getLast? = some (.fault o (if latches then .latched else .short)))
          ∧ Spec.othersKeep o s t ∧ t.pws = s.pws ∧ t.cfs = s.cfs ∧ t.rcu.targetNotch = s.rcu.targetNotch)

namespace Sys2Proof.Spec

/-- The current of an output is low: below 5 % of its short threshold (R172). -/
def low (o : Output) (current : Nat) : Bool :=
  match o with
  | .truck _ => decide (current < 200)
  | .heater => decide (current < 75)
  | .fan => decide (current < 25)
  | .light _ => decide (current ≤ 12)

/-- What ODU holds for an output after a measurement of it (R173, R174): OPEN is cleared where the current is not low under a command above 0;
without OPEN a low current under an open-command level starts the open timer of 500 ms, and one that is not low stops it. -/
def judged (o : Output) (current : Nat) (now : Time) (w : Watch) : Watch :=
  let level := match o with
    | .truck _ => 256
    | _ => 64
  if w.record.state ≠ .ok then w
  else if w.record.opened = true then
    (if low o current = false ∧ 0 < w.command then { w with record.opened := false } else w)
  else if low o current = false then { w with openTimer := .stopped }
  else if level ≤ w.command ∧ w.openTimer = .stopped then { w with openTimer := .running (now + 8000000) }
  else w

/-- The output a channel of the general converter measures (R172). -/
def outputOf : Channel → Option Output
  | .heaterI => some .heater
  | .fanI => some .fan
  | .lightI n => some (.light n)
  | _ => none

end Sys2Proof.Spec

/-- The timers of an output (R171, R173): the retry makes it OK, counts up to 3, starts a probation of 1 s and releases it, and a truck's
regulator starts from J = 0 (R65); the end of the probation publishes the record again; the open timer sets OPEN and pushes its notice. The
others keep theirs. The measurements of the outputs start and stop the open timer and clear OPEN, which is published without a notice (R172,
R173, R174): a truck's in the gap sample, the others' in the general conversions, with the smoke state SmokeInv's. That a
released truck keeps the duty of its shadow, and a released light its level, until the next control step or light frame, is the model's
choice (log entry 45). -/
def Obligations.RetriesProbationsAndOpensEnd : Prop :=
  ∀ (s : State) (o : Output), s.inReset = false →
    (∀ due : Time, (s.odu.watch o).retry = .running due →
        ∃ t, exec (.retryTimerExpiry o) s = .next t ∧ t.now = max s.now due
          ∧ (t.odu.watch o).record
              = { (s.odu.watch o).record with state := .ok, retries := min 3 ((s.odu.watch o).record.retries + 1) }
          ∧ (t.odu.watch o).retry = .stopped ∧ (t.odu.watch o).probation = .running (max s.now due + 16000000)
          ∧ (∀ x : Truck, o = .truck x → t.bmu.bridge x = { s.bmu.bridge x with heldOff := false } ∧ (t.moc.truck x).faultView = .ok
              ∧ (t.moc.truck x).integral = (if (s.moc.truck x).faultView = .ok then (s.moc.truck x).integral else 0)
              ∧ (match x with
                | .front => t.btg.heldF
                | .rear => t.btg.heldR) = false)
          ∧ (∀ n : Fin 12, o = .light n → t.ltc.lights[n] = { s.ltc.lights[n] with faultView := .ok })
          ∧ t.rcu.views.faults[outputIndex o] = (t.odu.watch o).record ∧ Spec.othersKeep o s t ∧ t.pws = s.pws
          ∧ ((s.odu.watch o).record.shorted = true → t.hpt = s.hpt))
    ∧ (∀ due : Time, (s.odu.watch o).probation = .running due →
        ∃ t, exec (.probationTimerExpiry o) s = .next t ∧ t.now = max s.now due
          ∧ (t.odu.watch o).record = (s.odu.watch o).record ∧ (t.odu.watch o).probation = .stopped
          ∧ t.rcu.views.faults[outputIndex o] = (s.odu.watch o).record ∧ Spec.othersKeep o s t ∧ t.pws = s.pws)
    ∧ (∀ due : Time, (s.odu.watch o).openTimer = .running due →
        ∃ t, exec (.openTimerExpiry o) s = .next t ∧ t.now = max s.now due
          ∧ (t.odu.watch o).record = { (s.odu.watch o).record with opened := true } ∧ (t.odu.watch o).openTimer = .stopped
          ∧ t.rcu.views.faults[outputIndex o] = (t.odu.watch o).record ∧ t.odu.summary.getLsbD (outputIndex o).val = true
          ∧ (s.hpt.notices.length ≤ 13 → t.hpt.notices.getLast? = some (.fault o .opened))
          ∧ Spec.othersKeep o s t ∧ t.bmu = s.bmu ∧ t.pws = s.pws)
    ∧ (∀ (c : Channel) (due : Time), s.bmu.converting = some (c, due) → Spec.outputOf c = some o → SmokeInv s → ∀ value : Int,
        ∃ t, exec (.conversionEnd value) s = .next t
          ∧ t.odu.watch o = Spec.judged o (Spec.measured c value).toNat (max s.now due) (s.odu.watch o)
          ∧ ((t.odu.watch o).record ≠ (s.odu.watch o).record →
              t.rcu.views.faults[outputIndex o] = (t.odu.watch o).record
              ∧ t.odu.summary.getLsbD (outputIndex o).val = (t.odu.watch o).record.shorted)
          ∧ (∀ x : Output, x ≠ o → t.odu.watch x = s.odu.watch x)
          ∧ (s.bmu.slots = [] → t.hpt = s.hpt) ∧ t.pws = s.pws)
    ∧ ∀ x : Truck, o = .truck x → ∀ due : Time, s.bmu.gapConversion = .running due →
        ∃ t, exec .gapConversionEnd s = .next t ∧
          let b := s.bmu.bridge x
          let mean := if b.driveCounts = 0 then 0 else min 8191 (b.charge / b.driveCounts)
          t.odu.watch o = Spec.judged o mean (max s.now due) (s.odu.watch o)
          ∧ ((t.odu.watch o).record ≠ (s.odu.watch o).record →
              t.rcu.views.faults[outputIndex o] = (t.odu.watch o).record
              ∧ t.odu.summary.getLsbD (outputIndex o).val = (t.odu.watch o).record.shorted)
          ∧ (∀ y : Output, (∀ z : Truck, y ≠ .truck z) → t.odu.watch y = s.odu.watch y)
          ∧ (s.bmu.slots = [] → t.hpt = s.hpt) ∧ t.pws = s.pws

/-! ## Beats, sound, smoke and lights -/

namespace Sys2Proof.Spec

/-- The back-EMF that BTG takes from a sample (R91). -/
def sourceEmf (c : Configuration) (b : Btg) (g : GapSample) : Nat :=
  if c.beatSource = .rear then (if b.heldR then g.emfF else g.emfR)
  else if b.heldF = true ∧ b.heldR = false then g.emfR
  else g.emfF

/-- One beat in BTG's own state and the record's two counters (R95). -/
def beaten (b : Btg) : Btg :=
  let n := 2 * (b.beatsInUse.val + 1)
  let c := if b.beatIndex + 1 < n then b.beatIndex + 1 else 0
  { b with beatCount := b.beatCount + 1, beatIndex := c, odometer := if c = 0 then b.odometer + 1 else b.odometer }

/-- The chuff of a beat (R113): V0 starts the clip of the class that the effort SSQ holds gives, LIGHT, MEDIUM, HEAVY or DRIFT, entries 0 to
3 of CHUFF_CLIPS; an entry that names no USABLE clip, a SOUND_FAULT and stage 4 leave the sound. -/
def chuffed (c : Configuration) (q : Ssq) : Ssq :=
  let surplus : Int := (q.effortU : Int) - (q.effortFF : Int)
  let class' : Fin 4 :=
    if q.effortU = 0 then 3 else if (c.heavyThreshold : Int) ≤ surplus then 2
    else if surplus ≤ -(c.lightThreshold : Int) then 0 else 1
  if q.soundFault = true ∨ q.shedView = 4 then q
  else match c.chuffClips[class'] with
    | none => q
    | some clip => if q.clips[clip] = none then q else { q with voices := q.voices.set 0 (started clip c.chuffGain none) }

/-- A light as a beat leaves it (R143): where its last pattern is a FIREBOX, the flare takes that pattern's level of the last frame. -/
def flared (c : Configuration) (x : Light) : Light :=
  match x.last with
  | none => x
  | some p => if p.id ≠ 0 ∧ (c.patterns[p.id.val - 1]'(by omega)).kind = .firebox then { x with flare := p.level } else x

end Sys2Proof.Spec

/-- BEAT_SAMPLE (R92, R94, R95, R97): a new BEATS_PER_REV is taken first; out of sensor mode B grows by E × W / 256 of the source truck and
gives a beat at Q; in sensor mode a pending edge gives one. A beat counts in BTG and in the record together, chuffs on V0 (R113), puffs the
fan in REGULATING (R133), and flares the fireboxes (R143), by their kind at the beat (log entry 39). SENSOR_EDGE is accepted 8 ms after the
last (R93). -/
def Obligations.SamplesAndEdgesMakeBeats : Prop :=
  (∀ (s : State) (g : GapSample) (rest : List GapSample), s.btg.samples = g :: rest → s.inReset = false →
      s.btg.beatIndex < 2 * (s.btg.beatsInUse.val + 1) →
      ∃ t, exec .beatSample s = .next t ∧
        let c := s.cfs.working
        let b : Btg := if c.beatsPerRev = s.btg.beatsInUse then { s.btg with samples := rest }
          else { s.btg with samples := rest, beatsInUse := c.beatsPerRev, accumulator := 0, beatIndex := 0 }
        let q := 65536 / (2 * (b.beatsInUse.val + 1))
        let sum := b.accumulator + Spec.sourceEmf c b g * c.wheelScale / 256
        let sensor := decide (c.beatSource = .sensor)
        let beats := if sensor then b.pendingFlag else decide (q ≤ sum)
        let u : Btg := if sensor then { b with pendingFlag := false } else { b with accumulator := if q ≤ sum then sum - q else sum }
        t.btg = (if beats then Spec.beaten u else u)
        ∧ (beats = true → t.rcu.views.beatCount = t.btg.beatCount ∧ t.rcu.views.odometer = t.btg.odometer
            ∧ (s.smu.state = .regulating → t.smu.fan = c.fanPuffLevel
                ∧ t.smu.puffTimer = .running (s.now + 160000 * c.puffLength))
            ∧ (s.smu.state ≠ .regulating → t.smu = s.smu)
            ∧ t.ssq = Spec.chuffed c s.ssq ∧ t.ltc = { s.ltc with lights := s.ltc.lights.map (Spec.flared c) })
        ∧ (beats = false → t.rcu = s.rcu ∧ t.ssq = s.ssq ∧ t.smu = s.smu ∧ t.ltc = s.ltc)
        ∧ t.moc = s.moc ∧ t.bmu = s.bmu ∧ t.pws = s.pws ∧ t.hpt = s.hpt ∧ t.cfs = s.cfs)
  ∧ ∀ s : State, s.inReset = false →
      exec .sensorEdge s = .next
        (if s.btg.watching = true ∧ s.cfs.working.beatSource = .sensor
            ∧ (match s.btg.lastEdge with
              | none => true
              | some e => decide (e + 128000 ≤ s.now)) = true then
          { s with btg.pendingFlag := true, btg.lastEdge := some s.now }
         else s)

namespace Sys2Proof.Spec

/-- What a voice yields at an audio sample (R108). -/
def yielded (v : Voice) : Int :=
  if v.state = .silent ∨ v.awaiting = true then 0
  else match v.buffer with
    | b :: _ => b.toInt
    | [] => 0

/-- A voice whose buffer is empty while its fetch is ACTIVE counts an underrun (R108). -/
def underrun (v : Voice) : Bool :=
  decide (v.state ≠ .silent) && !v.awaiting && v.buffer.isEmpty && decide (v.fetch = .active)

/-- The sum of the samples times their gains (R118). -/
def mixed (q : Ssq) : Int :=
  ((List.finRange 6).map fun i => yielded (q.voices[i]) * ((q.voices[i]).gain : Int)).sum

/-- A voice as an audio sample leaves it (R108): the sample it yields leaves the buffer; with the last one a DONE fetch leaves it SILENT, and
a PAUSED one starts the queued clip (R117). A buffer found empty in DONE or PAUSED is taken as one whose last sample went (log entry 22). -/
def sampled (v : Voice) : Voice :=
  let rest := v.buffer.drop 1
  if v.state = .silent ∨ v.awaiting = true then v
  else if rest ≠ [] then { v with buffer := rest }
  else match v.fetch, v.queued with
    | .active, _ => { v with buffer := [] }
    | .done, _ => { v with buffer := [], state := .silent, owner := none }
    | .paused, some x => started x.1 x.2 none
    | .paused, none => { v with buffer := [] }

/-- A voice's fetch ends at the loop's end (R105): in LOOP, and in START of a loop clip with an owner. -/
def towardLoopEnd (v : Voice) (d : Descriptor) : Bool :=
  decide (v.state = .loop) || (decide (v.state = .start) && decide (d.loopEnd ≠ 0) && v.owner.isSome)

/-- The boundary of a voice's fetch (R105). -/
def boundary (v : Voice) (d : Descriptor) : Nat := if towardLoopEnd v d then d.loopEnd else d.length

/-- The voice whose burst an audio sample starts (R106): the first eligible one after the last served, in ring order. -/
def served (last : Fin 6) (voices : Fin 6 → Voice) : Option (Fin 6) :=
  ((List.finRange 6).map fun k => last + 1 + k).find? fun i =>
    decide ((voices i).state ≠ .silent) && decide ((voices i).fetch = .active) && (voices i).burst.isNone
      && decide ((voices i).buffer.length ≤ 32)

/-- A voice is held: the key of the binding that owns it is on (R103). -/
def isHeld (c : Configuration) (keys : KeySet) (v : Voice) : Bool :=
  match v.owner with
  | none => false
  | some i =>
    match c.keyBindings[i].key with
    | none => false
    | some k => key keys k

/-- The decision at the boundary a landing has reached (R105): DONE at the clip's end; at the loop's end, held, the loop again, or PAUSED
where a clip is queued; not held, TAIL. -/
def decided (d : Descriptor) (held : Bool) (v : Voice) : Voice :=
  if towardLoopEnd v d = false then { v with fetch := .done }
  else if held = false then inTail v d.length
  else if v.queued = none then { v with state := .loop, fetchPos := d.loopStart }
  else { v with state := .loop, fetch := .paused }

end Sys2Proof.Spec

/-- AUDIO_SAMPLE (R108, R118, R119): each voice that sounds yields its oldest sample; the mix times the volume over 16384 is clamped to the
output, and each clamp and each underrun is counted, in SSQ and in the record; the last sample of a buffer leaves its voice SILENT, or
starts its queued clip (R108, R117). The port then starts one burst of 1 to 32 samples for the next eligible voice, up to its boundary
(R105, R106), by the read command 0x03 and three address bytes (R100). At shed stage 4 nothing runs. BURST_LANDS joins the samples to the
buffer of their voice, which decides at its boundary (R105), unless its burst was abandoned (R107). A second burst, an empty buffer, the
time base and the burst of a queued clip are log entries 22, 30 and 44. -/
def Obligations.AudioSamplesMixTheVoices : Prop :=
  ∀ s : State, s.inReset = false →
    (∀ due : Time, s.ssq.sampleTimer = .running due →
      ∃ t, exec .audioSample s = .next t ∧ t.now = max s.now due ∧ t.ssq.sampleTimer = .running (due + 1000)
        ∧ (s.ssq.shedView = 4 → t.ssq = { s.ssq with sampleTimer := .running (due + 1000) })
        ∧ (s.ssq.shedView ≠ 4 →
            let y := Spec.mixed s.ssq * (s.ssq.volumeView : Int) / 16384
            (t.ssq.outputCompare : Int) = max (-512) (min 511 y) + 512
            ∧ t.ssq.soundClips = (if y < -512 ∨ 511 < y then min (s.ssq.soundClips + 1) 65535 else s.ssq.soundClips)
            ∧ t.ssq.underruns
                = min (s.ssq.underruns + ((List.finRange 6).filter fun i => Spec.underrun (s.ssq.voices[i])).length) 65535
            ∧ (let next := if s.ssq.transfer = none then Spec.served s.ssq.lastServed fun i => Spec.sampled (s.ssq.voices[i]) else none
              (next = none → (∀ i : Fin 6, t.ssq.voices[i] = Spec.sampled (s.ssq.voices[i]))
                ∧ t.ssq.transfer = s.ssq.transfer ∧ t.ssq.lastServed = s.ssq.lastServed)
              ∧ ∀ i : Fin 6, next = some i →
                let v := Spec.sampled (s.ssq.voices[i])
                let d := (s.ssq.clips[v.clip]).getD ⟨0, 0, 0, 0⟩
                let n := min 32 (Spec.boundary v d - v.fetchPos)
                t.ssq.voices[i] = { v with burst := some n } ∧ t.ssq.transfer = some (.burst i (d.start + v.fetchPos) n)
                  ∧ t.ssq.lastServed = i ∧ ∀ j : Fin 6, j ≠ i → t.ssq.voices[j] = Spec.sampled (s.ssq.voices[j])))
        ∧ t.rcu.views.soundClips = t.ssq.soundClips ∧ t.rcu.views.soundUnderruns = t.ssq.underruns
        ∧ t.ssq.clips = s.ssq.clips ∧ t.moc = s.moc ∧ t.pws = s.pws ∧ t.hpt = s.hpt)
    ∧ (s.ssq.transfer = none → ∀ bytes : List Byte, exec (.burstLands bytes) s = .next s)
    ∧ (s.ssq.transfer = some .header → ∀ bytes : List Byte, exec (.burstLands bytes) s = .next s)
    ∧ (∀ (i : Fin 6) (a n : Nat), (Transfer.burst i a n).command = [0x03, Spec.byte (a / 65536), Spec.byte (a / 256), Spec.byte a])
    ∧ ∀ (i : Fin 6) (address length : Nat), s.ssq.transfer = some (.burst i address length) → ∀ bytes : List Byte,
        let v := s.ssq.voices[i]
        let d := (s.ssq.clips[v.clip]).getD ⟨0, 0, 0, 0⟩
        (v.burst = none → exec (.burstLands bytes) s = .next { s with ssq.transfer := none })
        ∧ ∀ n : Nat, v.burst = some n → n ≤ bytes.length →
            let w := { v with
              buffer := v.buffer ++ bytes.take n, fetchPos := v.fetchPos + n, burst := none, awaiting := false }
            let u := if Spec.boundary w d ≤ w.fetchPos then Spec.decided d (Spec.isHeld s.cfs.working s.ssq.keysView v) w else w
            exec (.burstLands bytes) s = .next { s with ssq.transfer := none, ssq.voices := s.ssq.voices.set i u }

namespace Sys2Proof.Spec

/-- T* of the level SMU holds (7.1). -/
def wanted (s : State) : Nat :=
  let t := s.cfs.working.smokeTemps
  if s.smu.levelView = 1 then t[0] else if s.smu.levelView = 2 then t[1] else t[2]

/-- FLUID after the debit of the tick that ended (R130). -/
def debited (s : State) : Nat := s.smu.fluid - s.smu.heater * s.cfs.working.fluidRate / 256

end Sys2Proof.Spec

/-- REGULATION_STEP takes the oldest HEATER_T result through its stages (R127): the T view, the debit (R130), DRY where the fluid is spent or
an armed check finds the element above T* + 40 (R129), REGULATING from T* − 15 on, and h = (T* − T) × G within the cap of the stage
(R128). Out of WARMING and REGULATING h and the state stay. The end of a puff puts the fan at its between-puff level (R133). -/
def Obligations.RegulationStepsTheHeater : Prop :=
  (∀ (s : State) (result : Nat) (rest : List Nat), s.smu.results = result :: rest → s.inReset = false → SmokeInv s →
      s.smu.levelView ≤ 3 →
      ∃ t, exec .regulationStep s = .next t ∧
        let want := Spec.wanted s
        let fluid := Spec.debited s
        let heats := decide (s.smu.state = .warming) || decide (s.smu.state = .regulating)
        let dry := heats && (decide (fluid = 0) || s.smu.dryArmed && decide (want + 40 < result))
        t.smu.tView = result ∧ t.smu.results = rest ∧ t.smu.fluid = fluid
        ∧ t.smu.state = (if dry then .dry else if s.smu.state = .warming ∧ want ≤ result + 15 then .regulating else s.smu.state)
        ∧ t.smu.dryArmed = (s.smu.dryArmed || heats && !dry && decide (result ≤ want + 15))
        ∧ (t.smu.heater : Int) = (if heats = true ∧ dry = false then
            max 0 (min (if s.smu.shedView = 0 then 255 else 127) (((want : Int) - (result : Int)) * (s.cfs.working.heaterGain : Int)))
            else 0)
        ∧ (t.odu.watch .heater).command = t.smu.heater
        ∧ t.smu.levelView = s.smu.levelView ∧ t.smu.shedView = s.smu.shedView
        ∧ t.moc = s.moc ∧ t.bmu = s.bmu ∧ t.ssq = s.ssq ∧ t.ltc = s.ltc ∧ t.pws = s.pws ∧ t.cfs = s.cfs ∧ t.btg = s.btg)
  ∧ ∀ (s : State) (due : Time), s.smu.puffTimer = .running due → s.inReset = false →
      ∃ t, exec .puffTimerExpiry s = .next t ∧ t.now = max s.now due ∧ t.smu.puffTimer = .stopped
        ∧ t.smu.fan = (if s.smu.motionView = .driving ∨ s.smu.motionView = .reversing then s.cfs.working.fanBetweenLevel
            else s.cfs.working.fanIdleLevel)
        ∧ (t.odu.watch .fan).command = t.smu.fan ∧ t.smu.state = s.smu.state ∧ t.smu.heater = s.smu.heater
        ∧ t.rcu = s.rcu ∧ t.moc = s.moc ∧ t.hpt = s.hpt ∧ t.pws = s.pws

/-- The 8-bit PWM of the heater, the fan and a light (R128, R134, R137): a period start takes the present command, and the output is on
unless it is 0 or ODU holds it off; when the counter reaches the level taken it is off. Nothing else changes. Period starts and compares as commands are log entry 21. -/
def Obligations.EightBitPwmSwitchesItsOutput : Prop :=
  ∀ (s : State) (n : Fin 12), s.inReset = false →
    exec .heaterPwmPeriodStart s = .next { s with smu.heaterPwm :=
      ⟨s.smu.heater, decide (0 < s.smu.heater) && decide ((s.odu.watch .heater).record.state = .ok)⟩ }
    ∧ exec .heaterPwmCompare s = .next { s with smu.heaterPwm.isOn := false }
    ∧ exec .fanPwmPeriodStart s = .next { s with smu.fanPwm :=
        ⟨s.smu.fan, decide (0 < s.smu.fan) && decide ((s.odu.watch .fan).record.state = .ok)⟩ }
    ∧ exec .fanPwmCompare s = .next { s with smu.fanPwm.isOn := false }
    ∧ exec (.lightPwmPeriodStart n) s = .next { s with ltc.lights := s.ltc.lights.set n { s.ltc.lights[n] with
        pwm := ⟨(s.ltc.lights[n]).level,
          decide (0 < (s.ltc.lights[n]).level) && decide ((s.odu.watch (.light n)).record.state = .ok)⟩ } }
    ∧ exec (.lightPwmCompare n) s = .next { s with ltc.lights := s.ltc.lights.set n { s.ltc.lights[n] with
        pwm.isOn := false } }

namespace Sys2Proof.Spec

/-- The pattern of an ID, at a level; none for ID 0. -/
def patternAt (id : Fin 16) (level : Nat) : Option LastPattern := if id = 0 then none else some ⟨id, level⟩

/-- The entry of PATTERNS that an ID from 1 to 15 names. -/
def entry (c : Configuration) (id : Fin 16) : Pattern := c.patterns[id.val - 1]'(by omega)

/-- The pattern that the layers choose for an output, with its effective level (R145, R146, R148). -/
def layers (l : Ltc) (c : Configuration) (n : Fin 12) : Option LastPattern :=
  let m := c.lightMaps[n]
  let code : Fin 16 := match l.player, l.latch with
    | .playing, some x => x.codes[n]
    | _, _ => 0
  let on := (match m.enableKey with
      | none => true
      | some k => key l.keysView k)
    && (match m.direction with
      | .any => true
      | .forward => decide (l.runDirection = .forward)
      | .reverse => decide (l.runDirection = .reverse))
    && decide (m.speedLow ≤ l.runSpeed) && decide (l.runSpeed ≤ m.speedHigh)
  let dims := match m.dimKey with
    | none => false
    | some k => key l.keysView k
  if (l.lights[n]).faultView ≠ .ok then none
  else if l.failsafeView = true ∧ c.failsafeMask.getLsbD (4 + n.val) = true then
    patternAt c.failsafePattern (entry c c.failsafePattern).level
  else if code ≠ 0 then patternAt code (entry c code).level
  else if on = true then
    patternAt m.pattern (if dims then (entry c m.pattern).level / 2 else (entry c m.pattern).level)
  else none

/-- The phase of an output's pattern in a frame (R141). -/
def phase (x : Light) (p : Option LastPattern) (c : Configuration) : Nat :=
  match p with
  | none => x.phase
  | some a =>
    match x.last with
    | none => 0
    | some b => if a.id = b.id then (x.phase + 1) % (entry c a.id).period else 0

/-- The value of a pattern in a frame (R139, R140, R143). -/
def value (l : Ltc) (c : Configuration) (n : Fin 12) (a : LastPattern) (t : Nat) : Nat :=
  let p := entry c a.id
  let on := decide (l.flashCounter < l.flashCycle / 2)
  let s := l.flicker.toNat / 2 ^ (n.val % 10) % 64
  match p.kind with
  | .steady => a.level
  | .flash => if on != p.invert then a.level else 0
  | .strobe => if t = 0 ∨ t = 1 ∨ t = 4 ∨ t = 5 then a.level else 0
  | .pulse =>
    if t < p.period / 2 then 2 * t * a.level / p.period else min a.level (2 * (p.period - t) * a.level / p.period)
  | .firebox => max (a.level * (192 + s) / 256) (l.lights[n]).flare

/-- The row, the step and the latch after the present step has ended (R151, R152): the next step of the row where it has a duration,
and otherwise step 0 of the other row, with nothing latched where that has none. -/
def nextOf (l : Ltc) : SceneRow × Nat × Option SceneStep :=
  let step (r : SceneRow) (i : Nat) : SceneStep :=
    match r with
    | .a => l.rowA.toList.getD i ⟨0, Vector.replicate 12 0⟩
    | .b => l.rowB.toList.getD i ⟨0, Vector.replicate 12 0⟩
  let other : SceneRow :=
    match l.row with
    | .a => .b
    | .b => .a
  if l.stepIndex + 1 < 16 ∧ 0 < (step l.row (l.stepIndex + 1)).duration then
    (l.row, l.stepIndex + 1, some (step l.row (l.stepIndex + 1)))
  else if 0 < (step other 0).duration then (other, 0, some (step other 0))
  else (other, 0, none)

end Sys2Proof.Spec

/-- LIGHT_FRAME (R138): each output's level is its pattern's value, halved at shed stage 2 and 3 and 0 at 4, handed to ODU, with its phase
and last pattern (R139 to R148); a level of 0 darkens the output at once; each flare falls by 32, the flicker generator and the flash clock
advance, and a playing scene's step runs below stage 4, and passes on where it ends (R142, R143, R144, R151, R152). The current of the next
light is queued (R85). The remaining time of a player that comes to wait is log entry 37. -/
def Obligations.LightFramesComposeEveryOutput : Prop :=
  ∀ (s : State) (due : Time), s.ltc.frameTimer = .running due → s.inReset = false → s.bmu.conversions.length ≤ 7 →
    ∃ t, exec .lightFrame s = .next t ∧
      let c := s.cfs.working
      let b (i : Nat) : Bool := s.ltc.flicker.getLsbD i
      t.now = max s.now due ∧ t.ltc.frameTimer = .running (due + 160000)
      ∧ (∀ n : Fin 12,
          let x := s.ltc.lights[n]
          let a := Spec.layers s.ltc c n
          let y := t.ltc.lights[n]
          let v := match a with
            | none => 0
            | some p => Spec.value s.ltc c n p (Spec.phase x a c)
          y.level = (if s.ltc.shedView ≤ 1 then v else if s.ltc.shedView ≤ 3 then v / 2 else 0)
          ∧ y.last = a ∧ y.phase = Spec.phase x a c ∧ y.flare = x.flare - 32 ∧ y.faultView = x.faultView
          ∧ (y.level = 0 → y.pwm.isOn = false) ∧ (y.level ≠ 0 → y.pwm = x.pwm)
          ∧ (t.odu.watch (.light n)).command = y.level)
      ∧ (∀ i : Fin 15, t.ltc.flicker.getLsbD i.val = b (i.val + 1))
      ∧ t.ltc.flicker.getLsbD 15 = (b 0 ^^ b 2 ^^ b 3 ^^ b 5)
      ∧ t.ltc.flashCounter = (if s.ltc.flashCounter + 1 < s.ltc.flashCycle then s.ltc.flashCounter + 1 else 0)
      ∧ t.ltc.flashCycle = (if s.ltc.flashCounter + 1 < s.ltc.flashCycle then s.ltc.flashCycle
          else if 0 < s.ltc.runSpeed then 48 else 16)
      ∧ (s.ltc.player ≠ .playing ∨ 4 ≤ s.ltc.shedView →
          t.ltc.player = s.ltc.player ∧ t.ltc.remaining = s.ltc.remaining ∧ t.ltc.latch = s.ltc.latch)
      ∧ (s.ltc.player = .playing → s.ltc.shedView < 4 → 1 < s.ltc.remaining →
          t.ltc.player = .playing ∧ t.ltc.remaining = s.ltc.remaining - 1 ∧ t.ltc.latch = s.ltc.latch)
      ∧ (s.ltc.player = .playing → s.ltc.shedView < 4 → s.ltc.remaining ≤ 1 →
          (t.ltc.row, t.ltc.stepIndex, t.ltc.latch) = Spec.nextOf s.ltc
          ∧ t.ltc.player = (if t.ltc.latch = none then .waiting else .playing)
          ∧ t.ltc.remaining = (match t.ltc.latch with
              | none => 0
              | some x => x.duration))
      ∧ t.hpt = (if s.ltc.player = .playing ∧ s.ltc.shedView < 4 ∧ s.ltc.remaining ≤ 1 ∧ (Spec.nextOf s.ltc).1 ≠ s.ltc.row then
            (if (Spec.nextOf s.ltc).2.2 = none then pushNotice (.sceneWaiting (Spec.nextOf s.ltc).1) else id)
              (pushNotice (.rowDone s.ltc.row) s)
          else s).hpt
      ∧ t.bmu = Spec.listed [.lightI s.bmu.lightIndex] (max s.now due) { s.bmu with lightIndex := s.bmu.lightIndex + 1 }
      ∧ t.rcu = s.rcu ∧ t.moc = s.moc ∧ t.smu = s.smu ∧ t.pws = s.pws ∧ t.cfs = s.cfs ∧ t.btg = s.btg

/-! ## What every step keeps -/

/-- Every step keeps the claim in one piece: the lease runs exactly while there is a holder (R19), FAILSAFE means there is none (R22),
RIF and LTC hold what RCU holds (R6), and a throttle that holds the claim has an entry of the throttle table (R36), as has one whose frame
RIF is kept in (log entries 5 and 49). -/
def Obligations.StepsKeepTheClaim : Prop := ∀ s t : State, ClaimInv s → step s = .next t → ClaimInv t

/-- Every step keeps the queues in their sizes and the IDs of the throttle table different (R35, R44, R83, R186, R187), and the deferred
slots of the Host Port in step with the MEASUREs that wait and the commit in flight (R86, R181, R186). A frame in handling has one to four
requests, some still waiting, and LOAD and device reset keep none (R30, R37, R46). -/
def Obligations.StepsKeepTheQueues : Prop :=
  ∀ s t : State, QueueInv s → DeferredInv s → step s = .next t → QueueInv t ∧ DeferredInv t

/-- Every step keeps the power state and the shed stage the same in every block that holds them, the stage the greatest of its three
contributions (R162, R164, R166), SUSPENDED exactly at stage 4, EMERGENCY exactly under the latch below it, and P at 0 in both (R58, R59,
R61). -/
def Obligations.StepsKeepTheStage : Prop :=
  ∀ s t : State, StageInv s → RestInv s → step s = .next t → StageInv t ∧ RestInv t

/-- Every step keeps the heater and the fan as their state lets them be: driven in WARMING and REGULATING alone, under the cap of the
stage, the fan in REGULATING alone, a command of 0 with its switch off, and OFF under device reset (R123, R125, R128, R133, R134). -/
def Obligations.StepsKeepTheSmokeSafe : Prop := ∀ s t : State, SmokeInv s → step s = .next t → SmokeInv t

/-- Every step keeps all switches of a bridge off while the schedule is STOPPED, in an open gap and under a hold-off, and the hold-off as
ODU's (R72, R77, R78, R170). -/
def Obligations.StepsKeepTheBridgesOff : Prop := ∀ s t : State, BridgeInv s → step s = .next t → BridgeInv t

/-- Every step keeps each fault record with its timers, its retry count within 3, and every block that takes it holding what ODU holds,
with SMU in FAULT while the heater is held off (R126, R169, R170, R171, R173). -/
def Obligations.StepsKeepTheFaultRecords : Prop := ∀ s t : State, FaultInv s → step s = .next t → FaultInv t

/-- Every step keeps the drive and the sound in their ranges: J, L, u, D, C_slip and the slip count, the duty shadows and the duties shown,
and the buffers, the output compare and the counters of the sound (3.1, 4.1, 6.1). -/
def Obligations.StepsKeepTheRanges : Prop :=
  ∀ s t : State, DriveInv s → SoundInv s → step s = .next t → DriveInv t ∧ SoundInv t

/-- Every invariant holds right after reset. -/
def Obligations.ResetMeetsEveryInvariant : Prop :=
  ClaimInv State.reset ∧ QueueInv State.reset ∧ DeferredInv State.reset ∧ StageInv State.reset ∧ RestInv State.reset
    ∧ SmokeInv State.reset ∧ BridgeInv State.reset ∧ FaultInv State.reset ∧ DriveInv State.reset ∧ SoundInv State.reset
end

