-- ==== Sys2Proof/Laws/State.lean ====
section
/-! SUPPORT. One lemma per component of State for each update of it, so that no proof unfolds a record update. -/

namespace Sys2Proof.Laws

open Sys2Proof.Machine

variable (s : State)


/-! ## onRcu -/

@[simp] theorem onRcu_pending (f : Rcu → Rcu) : (onRcu f s).pending = s.pending := rfl
@[simp] theorem onRcu_now (f : Rcu → Rcu) : (onRcu f s).now = s.now := rfl
@[simp] theorem onRcu_inReset (f : Rcu → Rcu) : (onRcu f s).inReset = s.inReset := rfl
@[simp] theorem onRcu_freeIndex (f : Rcu → Rcu) : (onRcu f s).freeIndex = s.freeIndex := rfl
@[simp] theorem onRcu_frameBreaks (f : Rcu → Rcu) : (onRcu f s).frameBreaks = s.frameBreaks := rfl
@[simp] theorem onRcu_rcu (f : Rcu → Rcu) : (onRcu f s).rcu = f s.rcu := rfl
@[simp] theorem onRcu_rif (f : Rcu → Rcu) : (onRcu f s).rif = s.rif := rfl
@[simp] theorem onRcu_moc (f : Rcu → Rcu) : (onRcu f s).moc = s.moc := rfl
@[simp] theorem onRcu_bmu (f : Rcu → Rcu) : (onRcu f s).bmu = s.bmu := rfl
@[simp] theorem onRcu_btg (f : Rcu → Rcu) : (onRcu f s).btg = s.btg := rfl
@[simp] theorem onRcu_ssq (f : Rcu → Rcu) : (onRcu f s).ssq = s.ssq := rfl
@[simp] theorem onRcu_smu (f : Rcu → Rcu) : (onRcu f s).smu = s.smu := rfl
@[simp] theorem onRcu_ltc (f : Rcu → Rcu) : (onRcu f s).ltc = s.ltc := rfl
@[simp] theorem onRcu_pws (f : Rcu → Rcu) : (onRcu f s).pws = s.pws := rfl
@[simp] theorem onRcu_odu (f : Rcu → Rcu) : (onRcu f s).odu = s.odu := rfl
@[simp] theorem onRcu_cfs (f : Rcu → Rcu) : (onRcu f s).cfs = s.cfs := rfl
@[simp] theorem onRcu_hpt (f : Rcu → Rcu) : (onRcu f s).hpt = s.hpt := rfl

/-! ## onRif -/

@[simp] theorem onRif_pending (f : Rif → Rif) : (onRif f s).pending = s.pending := rfl
@[simp] theorem onRif_now (f : Rif → Rif) : (onRif f s).now = s.now := rfl
@[simp] theorem onRif_inReset (f : Rif → Rif) : (onRif f s).inReset = s.inReset := rfl
@[simp] theorem onRif_freeIndex (f : Rif → Rif) : (onRif f s).freeIndex = s.freeIndex := rfl
@[simp] theorem onRif_frameBreaks (f : Rif → Rif) : (onRif f s).frameBreaks = s.frameBreaks := rfl
@[simp] theorem onRif_rcu (f : Rif → Rif) : (onRif f s).rcu = s.rcu := rfl
@[simp] theorem onRif_rif (f : Rif → Rif) : (onRif f s).rif = f s.rif := rfl
@[simp] theorem onRif_moc (f : Rif → Rif) : (onRif f s).moc = s.moc := rfl
@[simp] theorem onRif_bmu (f : Rif → Rif) : (onRif f s).bmu = s.bmu := rfl
@[simp] theorem onRif_btg (f : Rif → Rif) : (onRif f s).btg = s.btg := rfl
@[simp] theorem onRif_ssq (f : Rif → Rif) : (onRif f s).ssq = s.ssq := rfl
@[simp] theorem onRif_smu (f : Rif → Rif) : (onRif f s).smu = s.smu := rfl
@[simp] theorem onRif_ltc (f : Rif → Rif) : (onRif f s).ltc = s.ltc := rfl
@[simp] theorem onRif_pws (f : Rif → Rif) : (onRif f s).pws = s.pws := rfl
@[simp] theorem onRif_odu (f : Rif → Rif) : (onRif f s).odu = s.odu := rfl
@[simp] theorem onRif_cfs (f : Rif → Rif) : (onRif f s).cfs = s.cfs := rfl
@[simp] theorem onRif_hpt (f : Rif → Rif) : (onRif f s).hpt = s.hpt := rfl

/-! ## onMoc -/

@[simp] theorem onMoc_pending (f : Moc → Moc) : (onMoc f s).pending = s.pending := rfl
@[simp] theorem onMoc_now (f : Moc → Moc) : (onMoc f s).now = s.now := rfl
@[simp] theorem onMoc_inReset (f : Moc → Moc) : (onMoc f s).inReset = s.inReset := rfl
@[simp] theorem onMoc_freeIndex (f : Moc → Moc) : (onMoc f s).freeIndex = s.freeIndex := rfl
@[simp] theorem onMoc_frameBreaks (f : Moc → Moc) : (onMoc f s).frameBreaks = s.frameBreaks := rfl
@[simp] theorem onMoc_rcu (f : Moc → Moc) : (onMoc f s).rcu = s.rcu := rfl
@[simp] theorem onMoc_rif (f : Moc → Moc) : (onMoc f s).rif = s.rif := rfl
@[simp] theorem onMoc_moc (f : Moc → Moc) : (onMoc f s).moc = f s.moc := rfl
@[simp] theorem onMoc_bmu (f : Moc → Moc) : (onMoc f s).bmu = s.bmu := rfl
@[simp] theorem onMoc_btg (f : Moc → Moc) : (onMoc f s).btg = s.btg := rfl
@[simp] theorem onMoc_ssq (f : Moc → Moc) : (onMoc f s).ssq = s.ssq := rfl
@[simp] theorem onMoc_smu (f : Moc → Moc) : (onMoc f s).smu = s.smu := rfl
@[simp] theorem onMoc_ltc (f : Moc → Moc) : (onMoc f s).ltc = s.ltc := rfl
@[simp] theorem onMoc_pws (f : Moc → Moc) : (onMoc f s).pws = s.pws := rfl
@[simp] theorem onMoc_odu (f : Moc → Moc) : (onMoc f s).odu = s.odu := rfl
@[simp] theorem onMoc_cfs (f : Moc → Moc) : (onMoc f s).cfs = s.cfs := rfl
@[simp] theorem onMoc_hpt (f : Moc → Moc) : (onMoc f s).hpt = s.hpt := rfl

/-! ## onBmu -/

@[simp] theorem onBmu_pending (f : Bmu → Bmu) : (onBmu f s).pending = s.pending := rfl
@[simp] theorem onBmu_now (f : Bmu → Bmu) : (onBmu f s).now = s.now := rfl
@[simp] theorem onBmu_inReset (f : Bmu → Bmu) : (onBmu f s).inReset = s.inReset := rfl
@[simp] theorem onBmu_freeIndex (f : Bmu → Bmu) : (onBmu f s).freeIndex = s.freeIndex := rfl
@[simp] theorem onBmu_frameBreaks (f : Bmu → Bmu) : (onBmu f s).frameBreaks = s.frameBreaks := rfl
@[simp] theorem onBmu_rcu (f : Bmu → Bmu) : (onBmu f s).rcu = s.rcu := rfl
@[simp] theorem onBmu_rif (f : Bmu → Bmu) : (onBmu f s).rif = s.rif := rfl
@[simp] theorem onBmu_moc (f : Bmu → Bmu) : (onBmu f s).moc = s.moc := rfl
@[simp] theorem onBmu_bmu (f : Bmu → Bmu) : (onBmu f s).bmu = f s.bmu := rfl
@[simp] theorem onBmu_btg (f : Bmu → Bmu) : (onBmu f s).btg = s.btg := rfl
@[simp] theorem onBmu_ssq (f : Bmu → Bmu) : (onBmu f s).ssq = s.ssq := rfl
@[simp] theorem onBmu_smu (f : Bmu → Bmu) : (onBmu f s).smu = s.smu := rfl
@[simp] theorem onBmu_ltc (f : Bmu → Bmu) : (onBmu f s).ltc = s.ltc := rfl
@[simp] theorem onBmu_pws (f : Bmu → Bmu) : (onBmu f s).pws = s.pws := rfl
@[simp] theorem onBmu_odu (f : Bmu → Bmu) : (onBmu f s).odu = s.odu := rfl
@[simp] theorem onBmu_cfs (f : Bmu → Bmu) : (onBmu f s).cfs = s.cfs := rfl
@[simp] theorem onBmu_hpt (f : Bmu → Bmu) : (onBmu f s).hpt = s.hpt := rfl

/-! ## onBtg -/

@[simp] theorem onBtg_pending (f : Btg → Btg) : (onBtg f s).pending = s.pending := rfl
@[simp] theorem onBtg_now (f : Btg → Btg) : (onBtg f s).now = s.now := rfl
@[simp] theorem onBtg_inReset (f : Btg → Btg) : (onBtg f s).inReset = s.inReset := rfl
@[simp] theorem onBtg_freeIndex (f : Btg → Btg) : (onBtg f s).freeIndex = s.freeIndex := rfl
@[simp] theorem onBtg_frameBreaks (f : Btg → Btg) : (onBtg f s).frameBreaks = s.frameBreaks := rfl
@[simp] theorem onBtg_rcu (f : Btg → Btg) : (onBtg f s).rcu = s.rcu := rfl
@[simp] theorem onBtg_rif (f : Btg → Btg) : (onBtg f s).rif = s.rif := rfl
@[simp] theorem onBtg_moc (f : Btg → Btg) : (onBtg f s).moc = s.moc := rfl
@[simp] theorem onBtg_bmu (f : Btg → Btg) : (onBtg f s).bmu = s.bmu := rfl
@[simp] theorem onBtg_btg (f : Btg → Btg) : (onBtg f s).btg = f s.btg := rfl
@[simp] theorem onBtg_ssq (f : Btg → Btg) : (onBtg f s).ssq = s.ssq := rfl
@[simp] theorem onBtg_smu (f : Btg → Btg) : (onBtg f s).smu = s.smu := rfl
@[simp] theorem onBtg_ltc (f : Btg → Btg) : (onBtg f s).ltc = s.ltc := rfl
@[simp] theorem onBtg_pws (f : Btg → Btg) : (onBtg f s).pws = s.pws := rfl
@[simp] theorem onBtg_odu (f : Btg → Btg) : (onBtg f s).odu = s.odu := rfl
@[simp] theorem onBtg_cfs (f : Btg → Btg) : (onBtg f s).cfs = s.cfs := rfl
@[simp] theorem onBtg_hpt (f : Btg → Btg) : (onBtg f s).hpt = s.hpt := rfl

/-! ## onSmu -/

@[simp] theorem onSmu_pending (f : Smu → Smu) : (onSmu f s).pending = s.pending := rfl
@[simp] theorem onSmu_now (f : Smu → Smu) : (onSmu f s).now = s.now := rfl
@[simp] theorem onSmu_inReset (f : Smu → Smu) : (onSmu f s).inReset = s.inReset := rfl
@[simp] theorem onSmu_freeIndex (f : Smu → Smu) : (onSmu f s).freeIndex = s.freeIndex := rfl
@[simp] theorem onSmu_frameBreaks (f : Smu → Smu) : (onSmu f s).frameBreaks = s.frameBreaks := rfl
@[simp] theorem onSmu_rcu (f : Smu → Smu) : (onSmu f s).rcu = s.rcu := rfl
@[simp] theorem onSmu_rif (f : Smu → Smu) : (onSmu f s).rif = s.rif := rfl
@[simp] theorem onSmu_moc (f : Smu → Smu) : (onSmu f s).moc = s.moc := rfl
@[simp] theorem onSmu_bmu (f : Smu → Smu) : (onSmu f s).bmu = s.bmu := rfl
@[simp] theorem onSmu_btg (f : Smu → Smu) : (onSmu f s).btg = s.btg := rfl
@[simp] theorem onSmu_ssq (f : Smu → Smu) : (onSmu f s).ssq = s.ssq := rfl
@[simp] theorem onSmu_smu (f : Smu → Smu) : (onSmu f s).smu = f s.smu := rfl
@[simp] theorem onSmu_ltc (f : Smu → Smu) : (onSmu f s).ltc = s.ltc := rfl
@[simp] theorem onSmu_pws (f : Smu → Smu) : (onSmu f s).pws = s.pws := rfl
@[simp] theorem onSmu_odu (f : Smu → Smu) : (onSmu f s).odu = s.odu := rfl
@[simp] theorem onSmu_cfs (f : Smu → Smu) : (onSmu f s).cfs = s.cfs := rfl
@[simp] theorem onSmu_hpt (f : Smu → Smu) : (onSmu f s).hpt = s.hpt := rfl

/-! ## onLtc -/

@[simp] theorem onLtc_pending (f : Ltc → Ltc) : (onLtc f s).pending = s.pending := rfl
@[simp] theorem onLtc_now (f : Ltc → Ltc) : (onLtc f s).now = s.now := rfl
@[simp] theorem onLtc_inReset (f : Ltc → Ltc) : (onLtc f s).inReset = s.inReset := rfl
@[simp] theorem onLtc_freeIndex (f : Ltc → Ltc) : (onLtc f s).freeIndex = s.freeIndex := rfl
@[simp] theorem onLtc_frameBreaks (f : Ltc → Ltc) : (onLtc f s).frameBreaks = s.frameBreaks := rfl
@[simp] theorem onLtc_rcu (f : Ltc → Ltc) : (onLtc f s).rcu = s.rcu := rfl
@[simp] theorem onLtc_rif (f : Ltc → Ltc) : (onLtc f s).rif = s.rif := rfl
@[simp] theorem onLtc_moc (f : Ltc → Ltc) : (onLtc f s).moc = s.moc := rfl
@[simp] theorem onLtc_bmu (f : Ltc → Ltc) : (onLtc f s).bmu = s.bmu := rfl
@[simp] theorem onLtc_btg (f : Ltc → Ltc) : (onLtc f s).btg = s.btg := rfl
@[simp] theorem onLtc_ssq (f : Ltc → Ltc) : (onLtc f s).ssq = s.ssq := rfl
@[simp] theorem onLtc_smu (f : Ltc → Ltc) : (onLtc f s).smu = s.smu := rfl
@[simp] theorem onLtc_ltc (f : Ltc → Ltc) : (onLtc f s).ltc = f s.ltc := rfl
@[simp] theorem onLtc_pws (f : Ltc → Ltc) : (onLtc f s).pws = s.pws := rfl
@[simp] theorem onLtc_odu (f : Ltc → Ltc) : (onLtc f s).odu = s.odu := rfl
@[simp] theorem onLtc_cfs (f : Ltc → Ltc) : (onLtc f s).cfs = s.cfs := rfl
@[simp] theorem onLtc_hpt (f : Ltc → Ltc) : (onLtc f s).hpt = s.hpt := rfl

/-! ## onPws -/

@[simp] theorem onPws_pending (f : Pws → Pws) : (onPws f s).pending = s.pending := rfl
@[simp] theorem onPws_now (f : Pws → Pws) : (onPws f s).now = s.now := rfl
@[simp] theorem onPws_inReset (f : Pws → Pws) : (onPws f s).inReset = s.inReset := rfl
@[simp] theorem onPws_freeIndex (f : Pws → Pws) : (onPws f s).freeIndex = s.freeIndex := rfl
@[simp] theorem onPws_frameBreaks (f : Pws → Pws) : (onPws f s).frameBreaks = s.frameBreaks := rfl
@[simp] theorem onPws_rcu (f : Pws → Pws) : (onPws f s).rcu = s.rcu := rfl
@[simp] theorem onPws_rif (f : Pws → Pws) : (onPws f s).rif = s.rif := rfl
@[simp] theorem onPws_moc (f : Pws → Pws) : (onPws f s).moc = s.moc := rfl
@[simp] theorem onPws_bmu (f : Pws → Pws) : (onPws f s).bmu = s.bmu := rfl
@[simp] theorem onPws_btg (f : Pws → Pws) : (onPws f s).btg = s.btg := rfl
@[simp] theorem onPws_ssq (f : Pws → Pws) : (onPws f s).ssq = s.ssq := rfl
@[simp] theorem onPws_smu (f : Pws → Pws) : (onPws f s).smu = s.smu := rfl
@[simp] theorem onPws_ltc (f : Pws → Pws) : (onPws f s).ltc = s.ltc := rfl
@[simp] theorem onPws_pws (f : Pws → Pws) : (onPws f s).pws = f s.pws := rfl
@[simp] theorem onPws_odu (f : Pws → Pws) : (onPws f s).odu = s.odu := rfl
@[simp] theorem onPws_cfs (f : Pws → Pws) : (onPws f s).cfs = s.cfs := rfl
@[simp] theorem onPws_hpt (f : Pws → Pws) : (onPws f s).hpt = s.hpt := rfl

/-! ## onCfs -/

@[simp] theorem onCfs_pending (f : Cfs → Cfs) : (onCfs f s).pending = s.pending := rfl
@[simp] theorem onCfs_now (f : Cfs → Cfs) : (onCfs f s).now = s.now := rfl
@[simp] theorem onCfs_inReset (f : Cfs → Cfs) : (onCfs f s).inReset = s.inReset := rfl
@[simp] theorem onCfs_freeIndex (f : Cfs → Cfs) : (onCfs f s).freeIndex = s.freeIndex := rfl
@[simp] theorem onCfs_frameBreaks (f : Cfs → Cfs) : (onCfs f s).frameBreaks = s.frameBreaks := rfl
@[simp] theorem onCfs_rcu (f : Cfs → Cfs) : (onCfs f s).rcu = s.rcu := rfl
@[simp] theorem onCfs_rif (f : Cfs → Cfs) : (onCfs f s).rif = s.rif := rfl
@[simp] theorem onCfs_moc (f : Cfs → Cfs) : (onCfs f s).moc = s.moc := rfl
@[simp] theorem onCfs_bmu (f : Cfs → Cfs) : (onCfs f s).bmu = s.bmu := rfl
@[simp] theorem onCfs_btg (f : Cfs → Cfs) : (onCfs f s).btg = s.btg := rfl
@[simp] theorem onCfs_ssq (f : Cfs → Cfs) : (onCfs f s).ssq = s.ssq := rfl
@[simp] theorem onCfs_smu (f : Cfs → Cfs) : (onCfs f s).smu = s.smu := rfl
@[simp] theorem onCfs_ltc (f : Cfs → Cfs) : (onCfs f s).ltc = s.ltc := rfl
@[simp] theorem onCfs_pws (f : Cfs → Cfs) : (onCfs f s).pws = s.pws := rfl
@[simp] theorem onCfs_odu (f : Cfs → Cfs) : (onCfs f s).odu = s.odu := rfl
@[simp] theorem onCfs_cfs (f : Cfs → Cfs) : (onCfs f s).cfs = f s.cfs := rfl
@[simp] theorem onCfs_hpt (f : Cfs → Cfs) : (onCfs f s).hpt = s.hpt := rfl

/-! ## onHpt -/

@[simp] theorem onHpt_pending (f : Hpt → Hpt) : (onHpt f s).pending = s.pending := rfl
@[simp] theorem onHpt_now (f : Hpt → Hpt) : (onHpt f s).now = s.now := rfl
@[simp] theorem onHpt_inReset (f : Hpt → Hpt) : (onHpt f s).inReset = s.inReset := rfl
@[simp] theorem onHpt_freeIndex (f : Hpt → Hpt) : (onHpt f s).freeIndex = s.freeIndex := rfl
@[simp] theorem onHpt_frameBreaks (f : Hpt → Hpt) : (onHpt f s).frameBreaks = s.frameBreaks := rfl
@[simp] theorem onHpt_rcu (f : Hpt → Hpt) : (onHpt f s).rcu = s.rcu := rfl
@[simp] theorem onHpt_rif (f : Hpt → Hpt) : (onHpt f s).rif = s.rif := rfl
@[simp] theorem onHpt_moc (f : Hpt → Hpt) : (onHpt f s).moc = s.moc := rfl
@[simp] theorem onHpt_bmu (f : Hpt → Hpt) : (onHpt f s).bmu = s.bmu := rfl
@[simp] theorem onHpt_btg (f : Hpt → Hpt) : (onHpt f s).btg = s.btg := rfl
@[simp] theorem onHpt_ssq (f : Hpt → Hpt) : (onHpt f s).ssq = s.ssq := rfl
@[simp] theorem onHpt_smu (f : Hpt → Hpt) : (onHpt f s).smu = s.smu := rfl
@[simp] theorem onHpt_ltc (f : Hpt → Hpt) : (onHpt f s).ltc = s.ltc := rfl
@[simp] theorem onHpt_pws (f : Hpt → Hpt) : (onHpt f s).pws = s.pws := rfl
@[simp] theorem onHpt_odu (f : Hpt → Hpt) : (onHpt f s).odu = s.odu := rfl
@[simp] theorem onHpt_cfs (f : Hpt → Hpt) : (onHpt f s).cfs = s.cfs := rfl
@[simp] theorem onHpt_hpt (f : Hpt → Hpt) : (onHpt f s).hpt = f s.hpt := rfl

/-! ## publish -/

@[simp] theorem publish_pending (f : Views → Views) : (publish f s).pending = s.pending := rfl
@[simp] theorem publish_now (f : Views → Views) : (publish f s).now = s.now := rfl
@[simp] theorem publish_inReset (f : Views → Views) : (publish f s).inReset = s.inReset := rfl
@[simp] theorem publish_freeIndex (f : Views → Views) : (publish f s).freeIndex = s.freeIndex := rfl
@[simp] theorem publish_frameBreaks (f : Views → Views) : (publish f s).frameBreaks = s.frameBreaks := rfl
@[simp] theorem publish_rcu (f : Views → Views) : (publish f s).rcu = { s.rcu with views := f s.rcu.views } := rfl
@[simp] theorem publish_rif (f : Views → Views) : (publish f s).rif = s.rif := rfl
@[simp] theorem publish_moc (f : Views → Views) : (publish f s).moc = s.moc := rfl
@[simp] theorem publish_bmu (f : Views → Views) : (publish f s).bmu = s.bmu := rfl
@[simp] theorem publish_btg (f : Views → Views) : (publish f s).btg = s.btg := rfl
@[simp] theorem publish_ssq (f : Views → Views) : (publish f s).ssq = s.ssq := rfl
@[simp] theorem publish_smu (f : Views → Views) : (publish f s).smu = s.smu := rfl
@[simp] theorem publish_ltc (f : Views → Views) : (publish f s).ltc = s.ltc := rfl
@[simp] theorem publish_pws (f : Views → Views) : (publish f s).pws = s.pws := rfl
@[simp] theorem publish_odu (f : Views → Views) : (publish f s).odu = s.odu := rfl
@[simp] theorem publish_cfs (f : Views → Views) : (publish f s).cfs = s.cfs := rfl
@[simp] theorem publish_hpt (f : Views → Views) : (publish f s).hpt = s.hpt := rfl

/-! ## pushNotice -/

@[simp] theorem pushNotice_pending (n : Notice) : (pushNotice n s).pending = s.pending := rfl
@[simp] theorem pushNotice_now (n : Notice) : (pushNotice n s).now = s.now := rfl
@[simp] theorem pushNotice_inReset (n : Notice) : (pushNotice n s).inReset = s.inReset := rfl
@[simp] theorem pushNotice_freeIndex (n : Notice) : (pushNotice n s).freeIndex = s.freeIndex := rfl
@[simp] theorem pushNotice_frameBreaks (n : Notice) : (pushNotice n s).frameBreaks = s.frameBreaks := rfl
@[simp] theorem pushNotice_rcu (n : Notice) : (pushNotice n s).rcu = s.rcu := rfl
@[simp] theorem pushNotice_rif (n : Notice) : (pushNotice n s).rif = s.rif := rfl
@[simp] theorem pushNotice_moc (n : Notice) : (pushNotice n s).moc = s.moc := rfl
@[simp] theorem pushNotice_bmu (n : Notice) : (pushNotice n s).bmu = s.bmu := rfl
@[simp] theorem pushNotice_btg (n : Notice) : (pushNotice n s).btg = s.btg := rfl
@[simp] theorem pushNotice_ssq (n : Notice) : (pushNotice n s).ssq = s.ssq := rfl
@[simp] theorem pushNotice_smu (n : Notice) : (pushNotice n s).smu = s.smu := rfl
@[simp] theorem pushNotice_ltc (n : Notice) : (pushNotice n s).ltc = s.ltc := rfl
@[simp] theorem pushNotice_pws (n : Notice) : (pushNotice n s).pws = s.pws := rfl
@[simp] theorem pushNotice_odu (n : Notice) : (pushNotice n s).odu = s.odu := rfl
@[simp] theorem pushNotice_cfs (n : Notice) : (pushNotice n s).cfs = s.cfs := rfl
@[simp] theorem pushNotice_hpt (n : Notice) : (pushNotice n s).hpt = s.hpt.push n := rfl

/-! ## State.reach -/

@[simp] theorem reach_pending (due : Time) : (s.reach due).pending = s.pending := rfl
@[simp] theorem reach_now (due : Time) : (s.reach due).now = max s.now due := rfl
@[simp] theorem reach_inReset (due : Time) : (s.reach due).inReset = s.inReset := rfl
@[simp] theorem reach_freeIndex (due : Time) : (s.reach due).freeIndex = s.freeIndex := rfl
@[simp] theorem reach_frameBreaks (due : Time) : (s.reach due).frameBreaks = s.frameBreaks := rfl
@[simp] theorem reach_rcu (due : Time) : (s.reach due).rcu = s.rcu := rfl
@[simp] theorem reach_rif (due : Time) : (s.reach due).rif = s.rif := rfl
@[simp] theorem reach_moc (due : Time) : (s.reach due).moc = s.moc := rfl
@[simp] theorem reach_bmu (due : Time) : (s.reach due).bmu = s.bmu := rfl
@[simp] theorem reach_btg (due : Time) : (s.reach due).btg = s.btg := rfl
@[simp] theorem reach_ssq (due : Time) : (s.reach due).ssq = s.ssq := rfl
@[simp] theorem reach_smu (due : Time) : (s.reach due).smu = s.smu := rfl
@[simp] theorem reach_ltc (due : Time) : (s.reach due).ltc = s.ltc := rfl
@[simp] theorem reach_pws (due : Time) : (s.reach due).pws = s.pws := rfl
@[simp] theorem reach_odu (due : Time) : (s.reach due).odu = s.odu := rfl
@[simp] theorem reach_cfs (due : Time) : (s.reach due).cfs = s.cfs := rfl
@[simp] theorem reach_hpt (due : Time) : (s.reach due).hpt = s.hpt := rfl

/-! ## setBridge -/

@[simp] theorem setBridge_pending (t : Truck) (b : Bridge) : (setBridge t b s).pending = s.pending := rfl
@[simp] theorem setBridge_now (t : Truck) (b : Bridge) : (setBridge t b s).now = s.now := rfl
@[simp] theorem setBridge_inReset (t : Truck) (b : Bridge) : (setBridge t b s).inReset = s.inReset := rfl
@[simp] theorem setBridge_freeIndex (t : Truck) (b : Bridge) : (setBridge t b s).freeIndex = s.freeIndex := rfl
@[simp] theorem setBridge_frameBreaks (t : Truck) (b : Bridge) : (setBridge t b s).frameBreaks = s.frameBreaks := rfl
@[simp] theorem setBridge_rcu (t : Truck) (b : Bridge) : (setBridge t b s).rcu = s.rcu := rfl
@[simp] theorem setBridge_rif (t : Truck) (b : Bridge) : (setBridge t b s).rif = s.rif := rfl
@[simp] theorem setBridge_moc (t : Truck) (b : Bridge) : (setBridge t b s).moc = s.moc := rfl
@[simp] theorem setBridge_bmu (t : Truck) (b : Bridge) : (setBridge t b s).bmu = s.bmu.setBridge t b := rfl
@[simp] theorem setBridge_btg (t : Truck) (b : Bridge) : (setBridge t b s).btg = s.btg := rfl
@[simp] theorem setBridge_ssq (t : Truck) (b : Bridge) : (setBridge t b s).ssq = s.ssq := rfl
@[simp] theorem setBridge_smu (t : Truck) (b : Bridge) : (setBridge t b s).smu = s.smu := rfl
@[simp] theorem setBridge_ltc (t : Truck) (b : Bridge) : (setBridge t b s).ltc = s.ltc := rfl
@[simp] theorem setBridge_pws (t : Truck) (b : Bridge) : (setBridge t b s).pws = s.pws := rfl
@[simp] theorem setBridge_odu (t : Truck) (b : Bridge) : (setBridge t b s).odu = s.odu := rfl
@[simp] theorem setBridge_cfs (t : Truck) (b : Bridge) : (setBridge t b s).cfs = s.cfs := rfl
@[simp] theorem setBridge_hpt (t : Truck) (b : Bridge) : (setBridge t b s).hpt = s.hpt := rfl

/-! ## raiseTrigger -/

@[simp] theorem raiseTrigger_pending (t : Trigger) : (raiseTrigger t s).pending = s.pending := rfl
@[simp] theorem raiseTrigger_now (t : Trigger) : (raiseTrigger t s).now = s.now := rfl
@[simp] theorem raiseTrigger_inReset (t : Trigger) : (raiseTrigger t s).inReset = s.inReset := rfl
@[simp] theorem raiseTrigger_freeIndex (t : Trigger) : (raiseTrigger t s).freeIndex = s.freeIndex := rfl
@[simp] theorem raiseTrigger_frameBreaks (t : Trigger) : (raiseTrigger t s).frameBreaks = s.frameBreaks := rfl
@[simp] theorem raiseTrigger_rcu (t : Trigger) : (raiseTrigger t s).rcu = s.rcu := rfl
@[simp] theorem raiseTrigger_rif (t : Trigger) : (raiseTrigger t s).rif = s.rif := rfl
@[simp] theorem raiseTrigger_moc (t : Trigger) : (raiseTrigger t s).moc = s.moc := rfl
@[simp] theorem raiseTrigger_bmu (t : Trigger) : (raiseTrigger t s).bmu = s.bmu := rfl
@[simp] theorem raiseTrigger_btg (t : Trigger) : (raiseTrigger t s).btg = s.btg := rfl
@[simp] theorem raiseTrigger_ssq (t : Trigger) : (raiseTrigger t s).ssq = s.ssq.takeTrigger s.cfg t := rfl
@[simp] theorem raiseTrigger_smu (t : Trigger) : (raiseTrigger t s).smu = s.smu := rfl
@[simp] theorem raiseTrigger_ltc (t : Trigger) : (raiseTrigger t s).ltc = s.ltc := rfl
@[simp] theorem raiseTrigger_pws (t : Trigger) : (raiseTrigger t s).pws = s.pws := rfl
@[simp] theorem raiseTrigger_odu (t : Trigger) : (raiseTrigger t s).odu = s.odu := rfl
@[simp] theorem raiseTrigger_cfs (t : Trigger) : (raiseTrigger t s).cfs = s.cfs := rfl
@[simp] theorem raiseTrigger_hpt (t : Trigger) : (raiseTrigger t s).hpt = s.hpt := rfl

/-! ## takeCommand and mapWatch -/

@[simp] theorem takeCommand_pending (o : Output) (n : Nat) : (takeCommand o n s).pending = s.pending := rfl
@[simp] theorem mapWatch_pending (o : Output) (f : Watch → Watch) : (mapWatch o f s).pending = s.pending := rfl
@[simp] theorem takeCommand_now (o : Output) (n : Nat) : (takeCommand o n s).now = s.now := rfl
@[simp] theorem mapWatch_now (o : Output) (f : Watch → Watch) : (mapWatch o f s).now = s.now := rfl
@[simp] theorem takeCommand_inReset (o : Output) (n : Nat) : (takeCommand o n s).inReset = s.inReset := rfl
@[simp] theorem mapWatch_inReset (o : Output) (f : Watch → Watch) : (mapWatch o f s).inReset = s.inReset := rfl
@[simp] theorem takeCommand_freeIndex (o : Output) (n : Nat) : (takeCommand o n s).freeIndex = s.freeIndex := rfl
@[simp] theorem takeCommand_frameBreaks (o : Output) (n : Nat) : (takeCommand o n s).frameBreaks = s.frameBreaks := rfl
@[simp] theorem mapWatch_freeIndex (o : Output) (f : Watch → Watch) : (mapWatch o f s).freeIndex = s.freeIndex := rfl
@[simp] theorem mapWatch_frameBreaks (o : Output) (f : Watch → Watch) : (mapWatch o f s).frameBreaks = s.frameBreaks := rfl
@[simp] theorem takeCommand_rcu (o : Output) (n : Nat) : (takeCommand o n s).rcu = s.rcu := rfl
@[simp] theorem mapWatch_rcu (o : Output) (f : Watch → Watch) : (mapWatch o f s).rcu = s.rcu := rfl
@[simp] theorem takeCommand_rif (o : Output) (n : Nat) : (takeCommand o n s).rif = s.rif := rfl
@[simp] theorem mapWatch_rif (o : Output) (f : Watch → Watch) : (mapWatch o f s).rif = s.rif := rfl
@[simp] theorem takeCommand_moc (o : Output) (n : Nat) : (takeCommand o n s).moc = s.moc := rfl
@[simp] theorem mapWatch_moc (o : Output) (f : Watch → Watch) : (mapWatch o f s).moc = s.moc := rfl
@[simp] theorem takeCommand_bmu (o : Output) (n : Nat) : (takeCommand o n s).bmu = s.bmu := rfl
@[simp] theorem mapWatch_bmu (o : Output) (f : Watch → Watch) : (mapWatch o f s).bmu = s.bmu := rfl
@[simp] theorem takeCommand_btg (o : Output) (n : Nat) : (takeCommand o n s).btg = s.btg := rfl
@[simp] theorem mapWatch_btg (o : Output) (f : Watch → Watch) : (mapWatch o f s).btg = s.btg := rfl
@[simp] theorem takeCommand_ssq (o : Output) (n : Nat) : (takeCommand o n s).ssq = s.ssq := rfl
@[simp] theorem mapWatch_ssq (o : Output) (f : Watch → Watch) : (mapWatch o f s).ssq = s.ssq := rfl
@[simp] theorem takeCommand_smu (o : Output) (n : Nat) : (takeCommand o n s).smu = s.smu := rfl
@[simp] theorem mapWatch_smu (o : Output) (f : Watch → Watch) : (mapWatch o f s).smu = s.smu := rfl
@[simp] theorem takeCommand_ltc (o : Output) (n : Nat) : (takeCommand o n s).ltc = s.ltc := rfl
@[simp] theorem mapWatch_ltc (o : Output) (f : Watch → Watch) : (mapWatch o f s).ltc = s.ltc := rfl
@[simp] theorem takeCommand_pws (o : Output) (n : Nat) : (takeCommand o n s).pws = s.pws := rfl
@[simp] theorem mapWatch_pws (o : Output) (f : Watch → Watch) : (mapWatch o f s).pws = s.pws := rfl
@[simp] theorem takeCommand_cfs (o : Output) (n : Nat) : (takeCommand o n s).cfs = s.cfs := rfl
@[simp] theorem mapWatch_cfs (o : Output) (f : Watch → Watch) : (mapWatch o f s).cfs = s.cfs := rfl
@[simp] theorem takeCommand_hpt (o : Output) (n : Nat) : (takeCommand o n s).hpt = s.hpt := rfl
@[simp] theorem mapWatch_hpt (o : Output) (f : Watch → Watch) : (mapWatch o f s).hpt = s.hpt := rfl

@[simp] theorem mapWatch_odu (o : Output) (f : Watch → Watch) : (mapWatch o f s).odu = s.odu.setWatch o (f (s.odu.watch o)) := rfl

/-- The configuration is CFS's working one. -/
theorem cfg_eq : s.cfg = s.cfs.working := rfl

end Sys2Proof.Laws
end

