-- ==== Sys2Proof/Laws/Ops.lean ====
section
/-! SUPPORT. What each shared operation can do, said once: a proof cites these cases instead of unfolding the operation. -/

namespace Sys2Proof.Laws

open Sys2Proof.Machine

variable (s : State)

/-! ## Commands and timers -/

/-- An event in device reset changes nothing, and one outside it has its effect (R156). -/
theorem whenReleased_eq (f : State → State) :
    whenReleased f s = .next s ∧ s.inReset = true ∨ whenReleased f s = .next (f s) ∧ s.inReset = false := by
  unfold whenReleased
  cases h : s.inReset
  · exact .inr ⟨rfl, rfl⟩
  · exact .inl ⟨rfl, rfl⟩

/-- What a command that waits for the release keeps of every property that its effect keeps. -/
theorem whenReleased_keeps {P : State → Prop} {f : State → State} {s t : State} (hf : P s → P (f s)) (h : whenReleased f s = .next t)
    (hs : P s) : P t := by
  rcases whenReleased_eq s f with ⟨e, _⟩ | ⟨e, _⟩ <;> rw [e] at h <;> cases h
  · exact hs
  · exact hf hs

/-- A stopped timer does not expire; a running one has its effect at its time. -/
theorem onExpiry_cases (t : Timer) (f : State → State) :
    t = .stopped ∧ onExpiry t f s = s ∨ ∃ due, t = .running due ∧ onExpiry t f s = f (s.reach due) := by
  cases t with
  | stopped => exact .inl ⟨rfl, rfl⟩
  | running due => exact .inr ⟨due, rfl, rfl⟩

/-- What a timer's expiry keeps of every property that its effect keeps, at any time. -/
theorem onExpiry_keeps {P : State → Prop} {t : Timer} {f : State → State} {s : State} (hr : ∀ due, P s → P (s.reach due))
    (hf : ∀ due, t = .running due → P (s.reach due) → P (f (s.reach due))) (hs : P s) : P (onExpiry t f s) := by
  rcases onExpiry_cases s t f with ⟨_, e⟩ | ⟨due, h, e⟩ <;> rw [e]
  · exact hs
  · exact hf due h (hr due hs)

/-- A fold over events keeps what each event keeps. -/
theorem foldl_keeps {α : Type} {P : State → Prop} {f : State → α → State} (h : ∀ s a, P s → P (f s a)) (l : List α) (s : State)
    (hs : P s) : P (l.foldl f s) := by
  induction l generalizing s with
  | nil => exact hs
  | cons a l ih => exact ih (f s a) (h s a hs)

/-! ## Notices (R187) -/

/-- A push appends, or drops the arriving notice, or drops the oldest event notice for it; nothing but the queue and the count moves. -/
theorem push_cases (h : Hpt) (n : Notice) :
    h.notices.length < 16 ∧ h.push n = { h with notices := h.notices ++ [n] }
    ∨ 16 ≤ h.notices.length ∧ h.push n = { h with lost := min (h.lost + 1) 255 }
    ∨ 16 ≤ h.notices.length ∧ h.push n = { h with notices := dropOldestEvent h.notices ++ [n], lost := min (h.lost + 1) 255 } := by
  unfold Hpt.push
  by_cases h1 : h.notices.length < Config.noticeCapacity
  · rw [if_pos h1]; exact .inl ⟨h1, rfl⟩
  · rw [if_neg h1]
    split
    · exact .inr (.inl ⟨Nat.le_of_not_lt h1, rfl⟩)
    · exact .inr (.inr ⟨Nat.le_of_not_lt h1, rfl⟩)

/-- A queue with an event notice is shorter by one without its oldest. -/
theorem dropOldestEvent_length {l : List Notice} (h : l.any Notice.isEvent = true) : (dropOldestEvent l).length + 1 = l.length := by
  induction l with
  | nil => cases h
  | cons n ns ih =>
    unfold dropOldestEvent
    by_cases e : n.isEvent = true
    · rw [if_pos e, List.length_cons]
    · rw [if_neg e, List.length_cons, List.length_cons, ih (by simpa [e] using h)]

/-- A push keeps the queue within sixteen notices. -/
theorem push_length {h : Hpt} (n : Notice) (hl : h.notices.length ≤ 16) : (h.push n).notices.length ≤ 16 := by
  unfold Hpt.push
  split
  · rename_i g
    have : h.notices.length < 16 := g
    simp only [List.length_append, List.length_singleton]
    omega
  · split
    · exact hl
    · rename_i g
      have e : h.notices.any Notice.isEvent = true := by
        by_contra c
        refine g ?_
        rw [Bool.or_eq_true]
        refine .inr (List.all_eq_true.mpr fun m hm => ?_)
        have := mt (fun x => List.any_eq_true.mpr ⟨m, hm, x⟩) c
        simp [this]
      have := dropOldestEvent_length e
      simp only [List.length_append, List.length_singleton]
      omega

/-- A push leaves the deferred slots, the transaction and the bytes to shift out. -/
theorem push_frame (h : Hpt) (n : Notice) :
    (h.push n).slots = h.slots ∧ (h.push n).transaction = h.transaction ∧ (h.push n).out = h.out
      ∧ (h.push n).selectLow = h.selectLow ∧ (h.push n).framingErrors = h.framingErrors := by
  rcases push_cases h n with ⟨_, e⟩ | ⟨_, e⟩ | ⟨_, e⟩ <;> rw [e] <;> exact ⟨rfl, rfl, rfl, rfl, rfl⟩

/-! ## The claim (R17, R19) -/

/-- A change of DRIVE_HOLDER to the present holder is none; any other takes the three places that hold it and pushes one notice. -/
theorem setHolder_cases (frame : Option Byte) (h : Holder) :
    h = s.rcu.holder ∧ setHolder frame h s = s
    ∨ h ≠ s.rcu.holder ∧ setHolder frame h s = { s with
        rcu := { s.rcu with holder := h }, hpt := s.hpt.push (.claimChanged h), rif := (setHolder frame h s).rif }
      ∧ (setHolder frame h s).rif = { s.rif with holderView := h, throttles := (setHolder frame h s).rif.throttles } := by
  unfold setHolder
  split
  · exact .inl ⟨by assumption, rfl⟩
  · exact .inr ⟨by assumption, rfl, rfl⟩

/-- A refresh of the lease is none, or starts it in full for the holder whose request was accepted (R19). -/
theorem refreshLease_cases (src : Source) (code : Code) :
    refreshLease src code s = s
    ∨ s.rcu.holder = holderOf src ∧ code.refuses = false
      ∧ refreshLease src code s = { s with rcu := { s.rcu with lease := .running (s.now + 1600000 * s.cfs.working.leaseTime) } } := by
  unfold refreshLease
  split
  · rename_i h
    rw [Bool.and_eq_true, Bool.not_eq_true'] at h
    refine .inr ⟨of_decide_eq_true h.2, h.1, ?_⟩
    have e : 16000 * (100 * s.cfs.working.leaseTime) = 1600000 * s.cfs.working.leaseTime := by omega
    simp [startLease, onRcu, State.timer, State.cfg, Config.ms, e]
  · exact .inl rfl

/-! ## Motion (R58, R68) -/

/-- An evaluation of the motion state that finds the state held changes nothing; any other publishes and notices it (R58). -/
theorem evaluateMotion_cases :
    s.motionStateNow = s.moc.motionState ∧ evaluateMotion s = s
    ∨ s.motionStateNow ≠ s.moc.motionState
      ∧ evaluateMotion s = pushNotice (.motionState s.motionStateNow)
          (smokeTakeMotion s.motionStateNow (publish (fun v => { v with motionState := s.motionStateNow })
            (onMoc (fun x => { x with motionState := s.motionStateNow }) s))) := by
  unfold evaluateMotion
  by_cases h : s.motionStateNow = s.moc.motionState
  · exact .inl ⟨h, if_pos h⟩
  · exact .inr ⟨h, if_neg h⟩

/-- All that the taking of a shed stage does to MOC (R58, R61, R62): nothing at a repeated 4, the end of suspension, suspension, or the
stage with an evaluation of the state. -/
theorem motionTakeShed_cases (stage : Nat) (s : State) :
    motionTakeShed stage s = s ∧ s.moc.shedView = 4 ∧ stage = 4
    ∨ motionTakeShed stage s = resumeMotion stage s ∧ s.moc.shedView = 4 ∧ stage ≠ 4
    ∨ motionTakeShed stage s = suspendMotion s ∧ s.moc.shedView ≠ 4 ∧ stage = 4
    ∨ motionTakeShed stage s = evaluateMotion (onMoc (fun m => { m with shedView := stage }) s) ∧ s.moc.shedView ≠ 4 ∧ stage ≠ 4 := by
  by_cases h : s.moc.shedView = 4 <;> by_cases k : stage = 4 <;> simp [motionTakeShed, h, k]

/-- The end of a slip: none under way, and only the count is set to 0; or it is noticed and published (R68). -/
theorem endSlip_cases :
    s.moc.slipState = .grip ∧ endSlip s = { s with moc := { s.moc with slipCount := 0 } }
    ∨ ∃ t, s.moc.slipState = .slip t
      ∧ endSlip s = { s with
          moc := { s.moc with slipState := .grip, slipCount := 0, slipCap := 1023 }, hpt := s.hpt.push (.slip true t)
          rcu := { s.rcu with views := { s.rcu.views with slipState := .grip } } } := by
  unfold endSlip
  cases h : s.moc.slipState with
  | grip => exact .inl ⟨rfl, rfl⟩
  | slip t => exact .inr ⟨t, rfl, rfl⟩

/-! ## The bridges (R76, R77, R80) -/

/-- A drive that nothing has begun is not cut; one of no counts ends with nothing to join (R80); one with counts joins the accumulators with
a free charge (log entry 7). -/
theorem cutDrive_cases (t : Truck) :
    (s.bmu.bridge t).drivenSince = none ∧ cutDrive t s = s
    ∨ (∃ since, (s.bmu.bridge t).drivenSince = some since ∧ min s.now (s.bmu.periodStart + (s.bmu.bridge t).compare) ≤ since
        ∧ cutDrive t s = setBridge t { s.bmu.bridge t with drivenSince := none } s)
    ∨ ∃ since, (s.bmu.bridge t).drivenSince = some since ∧ since < min s.now (s.bmu.periodStart + (s.bmu.bridge t).compare)
      ∧ cutDrive t s = { setBridge t ((s.bmu.bridge t).accumulate since (min s.now (s.bmu.periodStart + (s.bmu.bridge t).compare))
          (Config.cutCharge s.freeIndex)) s with freeIndex := s.freeIndex + 1 } := by
  unfold cutDrive
  cases h : (s.bmu.bridge t).drivenSince with
  | none => exact .inl ⟨rfl, by simp only [h]⟩
  | some since =>
    by_cases c : since < min s.now (s.bmu.periodStart + (s.bmu.bridge t).compare)
    · exact .inr (.inr ⟨since, rfl, c, by simp only [h, if_pos c]⟩)
    · exact .inr (.inl ⟨since, rfl, Nat.le_of_not_lt c, by simp only [h, if_neg c]⟩)

/-- A bridge read back after it was set. -/
@[simp] theorem bridge_setBridge (m : Bmu) (t u : Truck) (b : Bridge) :
    (m.setBridge t b).bridge u = if t = u then b else m.bridge u := by
  cases t <;> cases u <;> rfl

/-- A bridge switched off at once is OFF, with both legs off and no drive under way, and keeps its shadows and its hold-off. -/
theorem switchOff_bridge (t : Truck) :
    ((switchOff t s).bmu.bridge t).isOff ∧ ((switchOff t s).bmu.bridge t).drivenSince = none
      ∧ ((switchOff t s).bmu.bridge t).heldOff = (s.bmu.bridge t).heldOff
      ∧ ((switchOff t s).bmu.bridge t).dutyShadow = (s.bmu.bridge t).dutyShadow
      ∧ ((switchOff t s).bmu.bridge t).modeShadow = (s.bmu.bridge t).modeShadow := by
  rcases cutDrive_cases s t with ⟨_, e⟩ | ⟨_, _, _, e⟩ | ⟨_, _, _, e⟩ <;> unfold switchOff <;> simp only [] <;> rw [e] <;>
    cases t <;> exact ⟨⟨rfl, rfl, rfl⟩, rfl, rfl, rfl, rfl⟩

/-! ## The conversion list (R83) -/

/-- A channel appended to a list with room waits there, or is taken at once by an idle converter with an empty list; a full list takes
none. -/
theorem appendChannel_cases (ch : Channel) :
    8 ≤ s.bmu.conversions.length ∧ appendChannel ch s = s
    ∨ s.bmu.conversions.length < 8
      ∧ appendChannel ch s = startConversion { s with bmu := { s.bmu with conversions := s.bmu.conversions ++ [ch] } } := by
  unfold appendChannel
  by_cases h : s.bmu.conversions.length < conversionCapacity
  · exact .inr ⟨h, if_pos h⟩
  · exact .inl ⟨Nat.le_of_not_lt h, if_neg h⟩

/-- A converter that is busy, or has nothing to do, starts nothing; an idle one takes the oldest channel for 10 µs. -/
theorem startConversion_cases :
    startConversion s = s
    ∨ ∃ ch rest, s.bmu.converting = none ∧ s.bmu.conversions = ch :: rest
      ∧ startConversion s = { s with bmu := { s.bmu with converting := some (ch, s.now + 160), conversions := rest } } := by
  unfold startConversion
  split
  · rename_i ch rest h1 h2
    exact .inr ⟨ch, rest, h1, h2, rfl⟩
  · exact .inl rfl

/-! ## Smoke (R123) -/

/-- A transition of the smoke state to itself is none; any other sets the state, its publication, its notice, and the heater and the fan as
the new state lets them be. -/
theorem enterSmoke_cases (st : SmokeState) :
    st = s.smu.state ∧ enterSmoke st s = s
    ∨ st ≠ s.smu.state ∧ (enterSmoke st s).smu.state = st ∧ (enterSmoke st s).smu.puffTimer = .stopped
      ∧ (enterSmoke st s).rcu.views.smokeState = st
      ∧ (st.heats = false → (enterSmoke st s).smu.heater = 0) ∧ (st.heats = true → (enterSmoke st s).smu.heater = s.smu.heater)
      ∧ (st ≠ .regulating → (enterSmoke st s).smu.fan = 0) := by
  unfold enterSmoke
  by_cases h : st = s.smu.state
  · exact .inl ⟨h, if_pos h⟩
  · refine .inr ⟨h, ?_⟩
    rw [if_neg h]
    cases st <;> simp [SmokeState.heats, setHeater, setFan, fanBetween, stopPuff, takeCommand, onSmu, publish, pushNotice]

/-! ## Power (R162, R164) -/

/-- The shed stage formed anew is the stage held, or reaches RCU and its consumers with a notice (R164). -/
theorem formStage_cases :
    s.pws.stageNow = s.pws.shedStage ∧ formStage s = s
    ∨ s.pws.stageNow ≠ s.pws.shedStage
      ∧ formStage s = consumeStage s.pws.stageNow (pushNotice (.shedStage s.pws.stageNow)
          (publish (fun v => { v with shedStage := s.pws.stageNow })
            (onPws (fun p => { p with shedStage := s.pws.stageNow }) s))) := by
  unfold formStage
  by_cases h : s.pws.stageNow = s.pws.shedStage
  · exact .inl ⟨h, if_pos h⟩
  · exact .inr ⟨h, if_neg h⟩

/-- A comparator's judgement changes nothing, or sets its output and hands the change to PWS (R89). -/
theorem judgeComparator_cases (c : Comparator) :
    judgeComparator c s = s
    ∨ ∃ high, s.bmu.running = true ∧ high ≠ s.bmu.output c
      ∧ judgeComparator c s = powerTakeComparator c high (onBmu (·.setOutput c high) s) := by
  unfold judgeComparator
  simp only []
  split
  · exact .inl rfl
  · rename_i h
    rw [Bool.not_eq_true, Bool.or_eq_false_iff, Bool.not_eq_false'] at h
    exact .inr ⟨_, h.1, by simpa using h.2, rfl⟩

/-! ## Fault records (R169) -/

/-- What ODU holds for an output, read back after it was set. -/
@[simp] theorem watch_setWatch (d : Odu) (o u : Output) (w : Watch) : (d.setWatch o w).watch u = if o = u then w else d.watch u := by
  have inj : outputIndex o = outputIndex u ↔ o = u := by
    constructor
    · intro h
      match o, u with
      | .truck .front, .truck .front => rfl
      | .truck .rear, .truck .rear => rfl
      | .heater, .heater => rfl
      | .fan, .fan => rfl
      | .light a, .light b => have := congrArg Fin.val h; simp [outputIndex] at this; rw [Fin.ext this]
      | .truck .front, .truck .rear => cases h
      | .truck .front, .heater => cases h
      | .truck .front, .fan => cases h
      | .truck .front, .light b => have := congrArg Fin.val h; simp [outputIndex] at this; omega
      | .truck .rear, .truck .front => cases h
      | .truck .rear, .heater => cases h
      | .truck .rear, .fan => cases h
      | .truck .rear, .light b => have := congrArg Fin.val h; simp [outputIndex] at this; omega
      | .heater, .truck .front => cases h
      | .heater, .truck .rear => cases h
      | .heater, .fan => cases h
      | .heater, .light b => have := congrArg Fin.val h; simp [outputIndex] at this; omega
      | .fan, .truck .front => cases h
      | .fan, .truck .rear => cases h
      | .fan, .heater => cases h
      | .fan, .light b => have := congrArg Fin.val h; simp [outputIndex] at this; omega
      | .light a, .truck .front => have := congrArg Fin.val h; simp [outputIndex] at this
      | .light a, .truck .rear => have := congrArg Fin.val h; simp [outputIndex] at this; omega
      | .light a, .heater => have := congrArg Fin.val h; simp [outputIndex] at this; omega
      | .light a, .fan => have := congrArg Fin.val h; simp [outputIndex] at this; omega
    · intro h; rw [h]
  unfold Odu.watch Odu.setWatch
  simp only [Fin.getElem_fin, Vector.getElem_set, ← inj, Fin.ext_iff]

/-- A publication of the summary is none, or hands the new one to RCU and RIF (R6, R169). -/
theorem publishSummary_cases :
    s.odu.faultSet = s.odu.summary ∧ publishSummary s = s
    ∨ s.odu.faultSet ≠ s.odu.summary ∧ publishSummary s = { s with
        odu := { s.odu with summary := s.odu.faultSet }, rif := { s.rif with summaryView := s.odu.faultSet }
        rcu := { s.rcu with views := { s.rcu.views with faultSummary := s.odu.faultSet } } } := by
  unfold publishSummary
  by_cases h : s.odu.faultSet = s.odu.summary
  · exact .inl ⟨h, if_pos h⟩
  · exact .inr ⟨h, if_neg h⟩

/-! ## The Host Port (R184, R188) -/

/-- The first byte of a transaction, at a port where one can begin, names a REQUEST, a NOTICE or a STATUS, or is a framing error; at any
other port it changes nothing (R184). -/
theorem takeFirstByte_cases (b : Byte) :
    s.hpt.fresh = false ∧ takeFirstByte b s = s
    ∨ s.hpt.fresh = true ∧
      (b = 0x01 ∧ takeFirstByte b s = { s with hpt := { s.hpt with transaction := .receiving, selectLow := true, out := [] } }
      ∨ b = 0x02 ∧ takeFirstByte b s = { s with hpt := { s.hpt with
          transaction := .sending, selectLow := true, out := s.noticeBytes, notices := s.hpt.notices.eraseP s.offers } }
      ∨ b = 0x03 ∧ takeFirstByte b s = { s with hpt := { s.hpt with
          transaction := .sending, selectLow := true, out := s.statusBytes, lost := 0 } }
      ∨ b ≠ 0x01 ∧ b ≠ 0x02 ∧ b ≠ 0x03 ∧ takeFirstByte b s = framingError s) := by
  unfold takeFirstByte TransactionKind.ofByte
  cases f : s.hpt.fresh with
  | false => exact .inl ⟨rfl, rfl⟩
  | true =>
    refine .inr ⟨rfl, ?_⟩
    by_cases h1 : b = 0x01
    · subst h1; exact .inl ⟨rfl, rfl⟩
    by_cases h2 : b = 0x02
    · subst h2; exact .inr (.inl ⟨rfl, rfl⟩)
    by_cases h3 : b = 0x03
    · subst h3; exact .inr (.inr (.inl ⟨rfl, rfl⟩))
    exact .inr (.inr (.inr ⟨h1, h2, h3, by rw [if_neg h1, if_neg h2, if_neg h3]; rfl⟩))

/-- Outside LOAD a NOTICE returns the oldest notice and leaves the rest (R188). -/
theorem notice_outside_load (loaded : s.rcu.views.powerState ≠ .load) :
    s.noticeBytes = (match s.hpt.notices with
      | [] => emptyMarker
      | n :: _ => n.bytes)
    ∧ s.hpt.notices.eraseP s.offers = s.hpt.notices.tail := by
  have any : s.offers = fun _ => true := funext fun n => by simp [State.offers, loaded]
  unfold State.noticeBytes
  rw [any]
  cases s.hpt.notices <;> exact ⟨rfl, rfl⟩

/-- In LOAD a NOTICE returns the empty marker and leaves the queue, unless an ERROR waits (R189). -/
theorem notice_in_load (loading : s.rcu.views.powerState = .load) (quiet : ∀ k c, Notice.error k c ∉ s.hpt.notices) :
    s.noticeBytes = emptyMarker ∧ s.hpt.notices.eraseP s.offers = s.hpt.notices := by
  have none : ∀ n ∈ s.hpt.notices, ¬s.offers n = true := fun n hn => by
    cases n with
    | error k c => exact absurd hn (quiet k c)
    | _ => simp [State.offers, loading]
  unfold State.noticeBytes
  rw [List.find?_eq_none.mpr none]
  exact ⟨rfl, List.eraseP_of_forall_not none⟩

/-! ## The throttle table (R35, R36) -/

/-- A throttle is in the table exactly where its entry is found. -/
theorem entry_isSome (r : Rif) (id : Byte) : (r.entry id).isSome = true ↔ ∃ e ∈ r.throttles, e.id = id := by
  simp [Rif.entry, List.find?_isSome]

/-- The entry that goes is one of the candidates. -/
theorem oldestEntry_mem {l : List ThrottleEntry} {o : ThrottleEntry} (h : oldestEntry l = some o) : o ∈ l := by
  induction l generalizing o with
  | nil => cases h
  | cons e es ih =>
    unfold oldestEntry at h
    cases c : oldestEntry es with
    | none => rw [c] at h; cases h; exact .head ..
    | some x =>
      rw [c] at h
      simp only [] at h
      split at h <;> cases h
      · exact .tail _ (ih c)
      · exact .head ..

/-- An eviction leaves the drive holder's entry (R35, R36). -/
theorem evict_keeps_holder {r : Rif} {e : ThrottleEntry} (he : e ∈ r.throttles) (named : r.holderView.names e.id = true) : e ∈ r.evict := by
  unfold Rif.evict
  split
  · exact he
  · rename_i o h
    have ho := (List.mem_filter.mp (oldestEntry_mem h)).2
    refine List.mem_filter.mpr ⟨he, ?_⟩
    simp only [bne_iff_ne, ne_eq]
    intro same
    rw [same] at named
    simp [named] at ho

/-- A frame heard gives its throttle an entry, and leaves the drive holder's (R35, R36). -/
theorem hear_keeps (r : Rif) (id seq : Byte) (t : Time) :
    (∃ e ∈ (r.hear id seq t).throttles, e.id = id)
    ∧ ∀ e ∈ r.throttles, r.holderView.names e.id = true → ∃ x ∈ (r.hear id seq t).throttles, x.id = e.id := by
  unfold Rif.hear
  split
  · rename_i known
    obtain ⟨e, he, same⟩ := (entry_isSome r id).mp known
    refine ⟨⟨⟨id, seq, t⟩, List.mem_map.mpr ⟨e, he, if_pos same⟩, rfl⟩, fun x hx _ => ?_⟩
    refine ⟨_, List.mem_map.mpr ⟨x, hx, rfl⟩, ?_⟩
    split
    · exact Eq.symm (by assumption)
    · rfl
  · split
    · exact ⟨⟨_, List.mem_append_right _ (.head _), rfl⟩, fun e he _ => ⟨e, List.mem_append_left _ he, rfl⟩⟩
    · exact ⟨⟨_, List.mem_append_right _ (.head _), rfl⟩, fun e he named => ⟨e, List.mem_append_left _ (evict_keeps_holder he named), rfl⟩⟩

/-- A new drive holder leaves every entry but the former holder's, and that too while RIF handles a frame of its throttle (R36, log entry
49). -/
theorem radioTakeHolder_keeps (frame : Option Byte) (h : Holder) {e : ThrottleEntry} (he : e ∈ s.rif.throttles)
    (stays : s.rif.holderView.names e.id = false ∨ s.rif.handles frame e.id = true) :
    e ∈ (radioTakeHolder frame h s).rif.throttles := by
  refine List.mem_filter.mpr ⟨he, ?_⟩
  rcases stays with c | c <;> simp [c]

/-- A throttle that has an entry has been heard; one that has none is heard now, by its frame's arrival (R35, R37, log entry 4). -/
theorem hearThrottle_cases (id : Byte) :
    (∃ e ∈ s.rif.throttles, e.id = id) ∧ hearThrottle id s = s
    ∨ (∀ e ∈ s.rif.throttles, e.id ≠ id)
      ∧ hearThrottle id s = frameArrives id { s with
          rif := s.rif.hear id (Config.frameSeq s.freeIndex) s.now, freeIndex := s.freeIndex + 1 } := by
  unfold hearThrottle
  by_cases h : (s.rif.entry id).isSome = true
  · exact .inl ⟨(entry_isSome _ _).mp h, if_pos h⟩
  · exact .inr ⟨fun e he same => h ((entry_isSome _ _).mpr ⟨e, he, same⟩), if_neg h⟩

/-! ## Requests (R7, R14, R185) -/

/-- A request at a host port that takes it, outside LOAD, of the right length and within the deferred slots, reaches its owner. -/
theorem hostRequest_serves {h : Head} {b : Body} {s : State} (port : s.hpt.transaction = .receiving)
    (loaded : s.rcu.views.powerState ≠ .load) (whole : h.length.toNat = headBytes h.posted + b.operandBytes)
    (room : b.kind.deferred = true → s.hpt.slots.length < 4) :
    hostRequest h b s = hostAnswer b.kind.byte (h.posted || b.kind.alwaysPosted) h.tag (serve .host h.posted h.tag b s) := by
  have takes : s.hpt.takesRecord = true := by simp [Hpt.takesRecord, port]
  have long : recordTooShort h = false := by simp [recordTooShort, whole]
  have fits : handOn h b = some b := by simp [handOn, recordFits, whole]
  have free : (b.kind.deferred && decide (Config.deferredSlots ≤ s.hpt.slots.length)) = false := by
    cases e : b.kind.deferred with
    | false => rfl
    | true => rw [Bool.true_and]; exact decide_eq_false (Nat.not_le_of_lt (room e))
  simp [hostRequest, hostServe, takes, long, fits, loaded, free]

/-- A request of a throttle taken alone, outside LOAD, with no frame in handling and of the right length, reaches its owner through
RIF's checks, once its throttle has been heard. -/
theorem radioRequest_serves {id : Byte} {h : Head} {b : Body} {s : State} (named : id ≠ 0 ∧ id ≠ 255)
    (loaded : s.rcu.views.powerState ≠ .load) (idle : s.rif.handling = none)
    (whole : h.length.toNat = headBytes h.posted + b.operandBytes) :
    radioRequest id h b s =
      let r := radioServe id h.posted h.tag b.kind (some b) (hearThrottle id s)
      { r.2 with rif := { r.2.rif with lastEntry := replyEntry b.kind.byte (h.posted || b.kind.alwaysPosted) h.tag r.1 } } := by
  have n : throttleId id = true := by simpa [throttleId] using named
  have long : recordTooShort h = false := by simp [recordTooShort, whole]
  have fits : handOn h b = some b := by simp [handOn, recordFits, whole]
  simp [radioRequest, n, long, fits, loaded, idle]

/-! ## The run of a frame (R37) -/

/-- A frame's requests run in two parts as they do in one. -/
theorem radioRun_append (id : Byte) (consist : Option Configuration) (xs ys : List RawRecord) (s : State) :
    radioRun id consist (xs ++ ys) s =
      let first := radioRun id consist xs s
      let second := radioRun id consist ys first.2
      (first.1 ++ second.1, second.2) := by
  induction xs generalizing s with
  | nil => rfl
  | cons r rs ih => simp [radioRun, ih]

/-- RIF goes on with a frame: it answers it where no more requests wait than it hands on, and keeps it otherwise. -/
theorem continueFrame_cases (run : FrameRun) (s : State) :
    let n := s.frameBreaks.headD run.waiting.length
    let x := radioRun run.thr run.consist (run.waiting.take n) { s with frameBreaks := s.frameBreaks.tail }
    let left := { run with waiting := run.waiting.drop n, answered := run.answered ++ x.1 }
    (run.waiting.length ≤ n ∧ continueFrame run s = answerFrame left x.2)
    ∨ (n < run.waiting.length ∧ continueFrame run s = onRif (fun r => { r with handling := some left }) x.2) := by
  intro n x left
  have empty : left.waiting.isEmpty = decide (run.waiting.length ≤ n) := by
    rw [Bool.eq_iff_iff, List.isEmpty_iff, decide_eq_true_iff]
    exact List.drop_eq_nil_iff
  have all : continueFrame run s =
      if left.waiting.isEmpty then answerFrame left x.2 else onRif (fun r => { r with handling := some left }) x.2 := rfl
  by_cases h : run.waiting.length ≤ n
  · exact .inl ⟨h, by simp [all, empty, h]⟩
  · exact .inr ⟨Nat.lt_of_not_le h, by simp [all, empty, h]⟩

end Sys2Proof.Laws
end

