-- ==== Sys2Proof/WellFormed.lean ====
section
/-! DEFINITION. The commands that the outside can send: records that lie whole in what carries them, throttle IDs in their range, and
measured quantities that fit the event they come with. A meaning is total; for a command that is not well-formed it is no claim about
the part. -/

namespace Sys2Proof

open Sys2Proof.Machine

/-- A source is the host processor or a throttle ID in 1 to 254. -/
def Source.wellFormed : Source → Bool
  | .host => true
  | .throttle id => throttleId id

/-- A record's head: a source, and a LENGTH that takes in the head itself. -/
def Head.wellFormed (h : Head) : Bool := h.source.wellFormed && !recordTooShort h

/-- A record of an undefined kind at the Host Port. -/
def UndefinedRecord.wellFormed (r : UndefinedRecord) : Bool :=
  r.head.wellFormed && decide (r.head.source = .host) && (Kind.ofByte r.kind).isNone

/-- The most bytes a header read clocks in: 64 descriptors (R190). -/
def headerBytes : Nat := 5 + 12 * 64 + 2

/-- A command that the outside can send. -/
def Instr.wellFormed : Instr → Bool
  | .resetRelease _ capV => decide (Config.releaseVoltage ≤ capV)
  | .clipHeaderRead bytes => decide (bytes.length ≤ headerBytes)
  | .read h _ _ => h.wellFormed
  | .write h _ _ => h.wellFormed
  | .add h _ _ => h.wellFormed
  | .keys h _ _ _ => h.wellFormed
  | .flip h _ _ => h.wellFormed
  | .swap h _ _ => h.wellFormed
  | .claim h _ _ => h.wellFormed
  | .release h _ => h.wellFormed
  | .haltNow h => h.wellFormed
  | .measure h _ => h.wellFormed
  | .play h _ _ _ _ => h.wellFormed
  | .refill h _ => h.wellFormed
  | .sceneWrite h _ _ _ _ => h.wellFormed
  | .clearFaults h _ => h.wellFormed
  | .configRead h _ _ => h.wellFormed
  | .configWrite h i e value => h.wellFormed && recordFits h (.configWrite i e value)
  | .commit h => h.wellFormed
  | .throttleEntryAgeing id => throttleId id
  | .shortComparatorTrip o current => decide (shortThreshold o < current)
  | .burstLands samples => decide (samples.length ≤ 32)
  | .requestKindByte (some r) => r.wellFormed
  | .requestKindByte none => true
  | .transactionFramingError (.unknownKind first) => (TransactionKind.ofByte first).isNone
  | .transactionFramingError .badLength => true
  | .resetnLow | .logicSupplyFail | .loadEnd | .commitEnd _ | .hostSelectFall | .hostSelectRise
  | .notice | .status | .radioByte _ | .interByteTimerExpiry | .radioFrame | .replySent | .leaseExpiry | .controlStep
  | .pwmPeriodStart | .pwmCompareMatch _ _ | .deadIntervalEnd _ _ | .controlPeriodExpiry | .gapSettleExpiry _ _
  | .gapConversionEnd | .conversionEnd _ | .dieTimerExpiry | .supervisionComparatorChange _ _ | .retryTimerExpiry _
  | .probationTimerExpiry _ | .openTimerExpiry _ | .beatSample | .sensorEdge | .audioSample | .smokeTick | .regulationStep
  | .puffTimerExpiry | .heaterPwmPeriodStart | .fanPwmPeriodStart | .lightPwmPeriodStart _ | .lightFrame
  | .trackQualificationExpiry | .bridgeLimitExpiry | .settleTimerExpiry | .sagTimerExpiry | .heaterPwmCompare | .fanPwmCompare
  | .lightPwmCompare _ => true

end Sys2Proof
end

