-- ==== Sys2Proof/Laws/PerInstr.lean ====
section
/-! SUPPORT. The family `Wire` of LAWS.json: what the well-formedness of a command says of the record that carries it. -/

namespace Sys2Proof.Laws

/-- The head of a request command's record; none for the events of the pins, the timers and the flash. -/
def requestHead : Instr → Option Head
  | .read h _ _ => some h
  | .write h _ _ => some h
  | .add h _ _ => some h
  | .keys h _ _ _ => some h
  | .flip h _ _ => some h
  | .swap h _ _ => some h
  | .claim h _ _ => some h
  | .release h _ => some h
  | .haltNow h => some h
  | .measure h _ => some h
  | .play h _ _ _ _ => some h
  | .refill h _ => some h
  | .sceneWrite h _ _ _ _ => some h
  | .clearFaults h _ => some h
  | .configRead h _ _ => some h
  | .configWrite h _ _ _ => some h
  | .commit h => some h
  | _ => none

namespace Wire

/-- A well-formed request command comes from the host or from a throttle ID in 1 to 254, and its LENGTH takes in its own head: KIND,
LENGTH and CONTROL, and TAG where it is not posted (R190). -/
def Statement (i : Instr) : Prop :=
  i.wellFormed = true → ∀ h, requestHead i = some h →
    (if h.posted then 3 else 4) ≤ h.length.toNat ∧ ∀ id, h.source = .throttle id → id ≠ 0 ∧ id ≠ 255

/-- What a well-formed head says. -/
theorem of_head {h : Head} (w : h.wellFormed = true) :
    (if h.posted then 3 else 4) ≤ h.length.toNat ∧ ∀ id, h.source = .throttle id → id ≠ 0 ∧ id ≠ 255 := by
  simp only [Head.wellFormed, Machine.recordTooShort, Machine.headBytes, Bool.and_eq_true, Bool.not_eq_true'] at w
  refine ⟨Nat.le_of_not_lt (of_decide_eq_false w.2), fun id e => ?_⟩
  have s := w.1
  rw [e] at s
  simpa [Source.wellFormed, Machine.throttleId] using s

theorem resetnLow : Statement .resetnLow := by
  intro _ _ e
  cases e

theorem logicSupplyFail : Statement .logicSupplyFail := by
  intro _ _ e
  cases e

theorem resetRelease (trackV capV : Nat) : Statement (.resetRelease trackV capV) := by
  intro _ _ e
  cases e

theorem clipHeaderRead (bytes : List Byte) : Statement (.clipHeaderRead bytes) := by
  intro _ _ e
  cases e

theorem loadEnd : Statement .loadEnd := by
  intro _ _ e
  cases e

theorem read (h : Head) (field selector : Byte) : Statement (.read h field selector) := by
  intro w k e
  cases e
  exact of_head w

theorem write (h : Head) (field : Byte) (value : Word32) : Statement (.write h field value) := by
  intro w k e
  cases e
  exact of_head w

theorem add (h : Head) (field : Byte) (imm : Word16) : Statement (.add h field imm) := by
  intro w k e
  cases e
  exact of_head w

theorem keys (h : Head) (field : Byte) (mask states : KeySet) : Statement (.keys h field mask states) := by
  intro w k e
  cases e
  exact of_head w

theorem flip (h : Head) (field : Byte) (mask : KeySet) : Statement (.flip h field mask) := by
  intro w k e
  cases e
  exact of_head w

theorem swap (h : Head) (field : Byte) (value : Word32) : Statement (.swap h field value) := by
  intro w k e
  cases e
  exact of_head w

theorem claim (h : Head) (expected newHolder : Byte) : Statement (.claim h expected newHolder) := by
  intro w k e
  cases e
  exact of_head w

theorem release (h : Head) (choice : Byte) : Statement (.release h choice) := by
  intro w k e
  cases e
  exact of_head w

theorem haltNow (h : Head) : Statement (.haltNow h) := by
  intro w k e
  cases e
  exact of_head w

theorem measure (h : Head) (channel : Byte) : Statement (.measure h channel) := by
  intro w k e
  cases e
  exact of_head w

theorem play (h : Head) (voice clip : Byte) (gain : Word16) (timing : Byte) : Statement (.play h voice clip gain timing) := by
  intro w k e
  cases e
  exact of_head w

theorem refill (h : Head) (amount : Word16) : Statement (.refill h amount) := by
  intro w k e
  cases e
  exact of_head w

theorem sceneWrite (h : Head) (row stepIndex duration : Byte) (codes : Vector Byte 12) : Statement (.sceneWrite h row stepIndex duration codes) := by
  intro w k e
  cases e
  exact of_head w

theorem clearFaults (h : Head) (outputs : OutputSet) : Statement (.clearFaults h outputs) := by
  intro w k e
  cases e
  exact of_head w

theorem configRead (h : Head) (item entry : Byte) : Statement (.configRead h item entry) := by
  intro w k e
  cases e
  exact of_head w

theorem configWrite (h : Head) (item entry : Byte) (value : List Byte) : Statement (.configWrite h item entry value) := by
  intro w k e
  cases e
  exact of_head (Bool.and_eq_true_iff.mp w).1

theorem commit (h : Head) : Statement (.commit h) := by
  intro w k e
  cases e
  exact of_head w

theorem commitEnd (good : Bool) : Statement (.commitEnd good) := by
  intro _ _ e
  cases e

theorem hostSelectFall : Statement .hostSelectFall := by
  intro _ _ e
  cases e

theorem hostSelectRise : Statement .hostSelectRise := by
  intro _ _ e
  cases e

theorem transactionFramingError (cause : FramingCause) : Statement (.transactionFramingError cause) := by
  intro _ _ e
  cases e

theorem notice : Statement .notice := by
  intro _ _ e
  cases e

theorem status : Statement .status := by
  intro _ _ e
  cases e

theorem radioByte (b : Byte) : Statement (.radioByte b) := by
  intro _ _ e
  cases e

theorem interByteTimerExpiry : Statement .interByteTimerExpiry := by
  intro _ _ e
  cases e

theorem radioFrame : Statement .radioFrame := by
  intro _ _ e
  cases e

theorem replySent : Statement .replySent := by
  intro _ _ e
  cases e

theorem throttleEntryAgeing (id : Byte) : Statement (.throttleEntryAgeing id) := by
  intro _ _ e
  cases e

theorem leaseExpiry : Statement .leaseExpiry := by
  intro _ _ e
  cases e

theorem controlStep : Statement .controlStep := by
  intro _ _ e
  cases e

theorem pwmPeriodStart : Statement .pwmPeriodStart := by
  intro _ _ e
  cases e

theorem pwmCompareMatch (t : Truck) (charge : Nat) : Statement (.pwmCompareMatch t charge) := by
  intro _ _ e
  cases e

theorem deadIntervalEnd (t : Truck) (leg : Leg) : Statement (.deadIntervalEnd t leg) := by
  intro _ _ e
  cases e

theorem controlPeriodExpiry : Statement .controlPeriodExpiry := by
  intro _ _ e
  cases e

theorem gapSettleExpiry (voltsF voltsR : Int) : Statement (.gapSettleExpiry voltsF voltsR) := by
  intro _ _ e
  cases e

theorem gapConversionEnd : Statement .gapConversionEnd := by
  intro _ _ e
  cases e

theorem conversionEnd (value : Int) : Statement (.conversionEnd value) := by
  intro _ _ e
  cases e

theorem dieTimerExpiry : Statement .dieTimerExpiry := by
  intro _ _ e
  cases e

theorem supervisionComparatorChange (c : Comparator) (v : Nat) : Statement (.supervisionComparatorChange c v) := by
  intro _ _ e
  cases e

theorem shortComparatorTrip (o : Output) (current : Nat) : Statement (.shortComparatorTrip o current) := by
  intro _ _ e
  cases e

theorem retryTimerExpiry (o : Output) : Statement (.retryTimerExpiry o) := by
  intro _ _ e
  cases e

theorem probationTimerExpiry (o : Output) : Statement (.probationTimerExpiry o) := by
  intro _ _ e
  cases e

theorem openTimerExpiry (o : Output) : Statement (.openTimerExpiry o) := by
  intro _ _ e
  cases e

theorem beatSample : Statement .beatSample := by
  intro _ _ e
  cases e

theorem sensorEdge : Statement .sensorEdge := by
  intro _ _ e
  cases e

theorem audioSample : Statement .audioSample := by
  intro _ _ e
  cases e

theorem burstLands (samples : List Byte) : Statement (.burstLands samples) := by
  intro _ _ e
  cases e

theorem smokeTick : Statement .smokeTick := by
  intro _ _ e
  cases e

theorem regulationStep : Statement .regulationStep := by
  intro _ _ e
  cases e

theorem puffTimerExpiry : Statement .puffTimerExpiry := by
  intro _ _ e
  cases e

theorem heaterPwmPeriodStart : Statement .heaterPwmPeriodStart := by
  intro _ _ e
  cases e

theorem fanPwmPeriodStart : Statement .fanPwmPeriodStart := by
  intro _ _ e
  cases e

theorem lightPwmPeriodStart (n : Fin 12) : Statement (.lightPwmPeriodStart n) := by
  intro _ _ e
  cases e

theorem lightFrame : Statement .lightFrame := by
  intro _ _ e
  cases e

theorem trackQualificationExpiry : Statement .trackQualificationExpiry := by
  intro _ _ e
  cases e

theorem bridgeLimitExpiry : Statement .bridgeLimitExpiry := by
  intro _ _ e
  cases e

theorem settleTimerExpiry : Statement .settleTimerExpiry := by
  intro _ _ e
  cases e

theorem sagTimerExpiry : Statement .sagTimerExpiry := by
  intro _ _ e
  cases e

theorem requestKindByte (undefinedRecord : Option UndefinedRecord) : Statement (.requestKindByte undefinedRecord) := by
  intro _ _ e
  cases e

theorem heaterPwmCompare : Statement .heaterPwmCompare := by
  intro _ _ e
  cases e

theorem fanPwmCompare : Statement .fanPwmCompare := by
  intro _ _ e
  cases e

theorem lightPwmCompare (n : Fin 12) : Statement (.lightPwmCompare n) := by
  intro _ _ e
  cases e

end Wire

end Sys2Proof.Laws
end

