-- ==== Sys2Proof/Tests/Slice0.lean ====
section
/-! SUPPORT. The model's own tests: ill-formed commands that WellFormed refuses, the manual's worked sequences (named in each comment), and
for every statement with hypotheses a state and operands that meet them. -/

open Sys2Proof Sys2Proof.Machine

namespace Sys2Proof.Tests

/- One theorem after another, so that waiting elaboration threads do not fill the memory. -/
set_option Elab.async false

/-! ## States and heads for the tests -/

/-- A request of the host with `n` operand bytes and tag 7. -/
def host (n : Nat) : Head := ⟨.host, BitVec.ofNat 8 (4 + n), 0, 7⟩

/-- The same, posted. -/
def posted (n : Nat) : Head := ⟨.host, BitVec.ofNat 8 (3 + n), 1, 0⟩

/-- A request of a throttle. -/
def radio (id : Byte) (n : Nat) : Head := ⟨.throttle id, BitVec.ofNat 8 (4 + n), 0, 7⟩

/-- The part in LOAD, with every report of start-up but that of the die. -/
def loading : State :=
  { State.reset with
    inReset := false, pws.storeReport := some false, pws.recordReport := true, pws.soundReport := some true
    pws.comparatorReport := true, pws.trackPresent := true }

/-- The part in RUN, the train standing, a request on its way at the Host Port. -/
def run : State :=
  { loading with
    rcu.views.powerState := .run, rcu.views.shedStage := 0, rcu.views.motionState := .idle
    moc.powerView := .run, moc.shedView := 0, moc.motionState := .idle
    bmu.running := true, bmu.controlTimer := .running 80000, bmu.dieTimer := .running 1600000
    btg.watching := true
    ssq.shedView := 0, ssq.sampleTimer := .running 1000, ssq.clips := State.reset.ssq.clips.set 0 (some ⟨0, 100, 10, 50⟩)
    smu.shedView := 0, smu.motionView := .idle, smu.tickTimer := .running 1600000
    ltc.shedView := 0, ltc.frameTimer := .running 160000
    pws.powerState := .run, pws.powerPart := 0, pws.shedStage := 0, pws.reserveView := true, pws.presentView := true
    cfs.powerView := .run
    hpt.transaction := .receiving, hpt.selectLow := true }

/-- RUN, with throttle 9 in the throttle table. -/
def known : State := { run with rif.throttles := [⟨9, 0, 0⟩] }

/-- RUN, with the host holding the claim. -/
def driver : State :=
  { run with rcu.holder := .hostProcessor, rcu.lease := .running 48000000, rif.holderView := .hostProcessor }

/-- RUN, after a HALT_NOW. -/
def halted : State :=
  { driver with moc.emergencyLatch := true, moc.motionState := .emergency, rcu.views.motionState := .emergency }

/-- BRIDGE, with the capacitor at 6.00 V above the default reserve level. -/
def bridged : State :=
  { run with
    rcu.views.powerState := .bridge, rcu.views.shedStage := 2, moc.powerView := .bridge, moc.shedView := 2, ssq.shedView := 2
    smu.shedView := 2, ltc.shedView := 2, pws.powerState := .bridge, pws.powerPart := 2, pws.shedStage := 2
    pws.bridgeTimer := .running 8000000, cfs.powerView := .bridge, bmu.capReserve := true, bmu.capPin := 600 }

/-- SETTLE, at the end of its delay, with the train rolling in SUSPENDED. -/
def settling : State :=
  { run with
    rcu.views.powerState := .settle, rcu.views.shedStage := 4, rcu.views.motionState := .suspended, moc.powerView := .settle
    moc.shedView := 4, moc.motionState := .suspended, moc.notch := 100, moc.front.emf := 90, ssq.shedView := 4, smu.shedView := 4
    smu.motionView := .suspended, ltc.shedView := 4, pws.powerState := .settle, pws.powerPart := 4, pws.shedStage := 4
    pws.settlePhase := .delaying, pws.settleTimer := .running 1600000, cfs.powerView := .settle }

/-- What a command leaves, seen through `f`. -/
def after {α : Type} (c : Instr) (s : State) (f : State → α) : Option α :=
  match exec c s with
  | .next t => some (f t)
  | .fault _ => none
  | .refused _ => none

/-- A request of the host arrives. -/
theorem arrives (s : State) (n : Nat) (hr : s.inReset = false) (hl : s.rcu.views.powerState ≠ .load)
    (hp : s.hpt.transaction = .receiving) (hn : n ≤ 200) : Spec.Arrives (host n) n s :=
  ⟨hr, hl, by simp [host]; omega, hp⟩

/-- A posted one. -/
theorem arrives_posted (s : State) (n : Nat) (hr : s.inReset = false) (hl : s.rcu.views.powerState ≠ .load)
    (hp : s.hpt.transaction = .receiving) (hn : n ≤ 200) : Spec.Arrives (posted n) n s :=
  ⟨hr, hl, by simp [posted]; omega, hp⟩

/-- A request of throttle 9. -/
theorem arrives_radio (s : State) (n : Nat) (hr : s.inReset = false) (hl : s.rcu.views.powerState ≠ .load)
    (hf : s.rif.handling = none) (hk : ∃ e ∈ s.rif.throttles, e.id = 9) (hn : n ≤ 200) : Spec.Arrives (radio 9 n) n s :=
  ⟨hr, hl, by simp [radio]; omega, (by decide : (9 : Byte) ≠ 0), (by decide : (9 : Byte) ≠ 255), hf, hk⟩

theorem known_arrives (n : Nat) (hn : n ≤ 200) : Spec.Arrives (radio 9 n) n known :=
  arrives_radio known n rfl (by decide) rfl ⟨_, .head _, rfl⟩ hn

theorem run_arrives (n : Nat) (hn : n ≤ 200) : Spec.Arrives (host n) n run := arrives run n rfl (by decide) rfl hn

theorem driver_arrives (n : Nat) (hn : n ≤ 200) : Spec.Arrives (host n) n driver := arrives driver n rfl (by decide) rfl hn

theorem loading_stage : StageInv loading := by constructor <;> decide

theorem run_stage : StageInv run := by constructor <;> decide

theorem run_rest : RestInv run := by constructor <;> decide

theorem driver_rest : RestInv driver := by constructor <;> decide

theorem halted_rest : RestInv halted := by constructor <;> decide

theorem run_smoke : SmokeInv run := by constructor <;> decide

theorem run_bridges : BridgeInv run := ⟨nofun, nofun, nofun, nofun, by decide, by decide, by decide, by decide⟩

theorem bridged_stage : StageInv bridged := by constructor <;> decide

theorem bridged_rest : RestInv bridged := by constructor <;> decide

theorem settling_stage : StageInv settling := by constructor <;> decide

theorem settling_rest : RestInv settling := by constructor <;> decide

/-- No output of `run` has a fault, a timer or a command. -/
theorem run_clean (o : Output) : run.odu.watch o = {} := by
  cases o with
  | truck t => cases t <;> rfl
  | heater => rfl
  | fan => rfl
  | light n => revert n; decide +kernel

theorem run_faults : FaultInv run := by
  refine ⟨fun o => ?_, fun o => ?_, fun o => ?_, fun o => ?_, fun o => ?_, fun o => ?_, fun t => ?_, by decide, fun n => ?_,
    by decide, by decide, by decide +kernel⟩
  · rw [run_clean o]; decide
  · rw [run_clean o]; decide
  · rw [run_clean o]; decide
  · intro h; rw [State.heldOff, run_clean o] at h; exact absurd h (by decide)
  · rw [run_clean o]; decide
  · rw [run_clean o]; exact Vector.getElem_replicate ..
  · cases t <;> rfl
  · revert n; decide +kernel

/-! ## WellFormed -/

theorem test_wf_release_below : (Instr.resetRelease 1600 439).wellFormed = false := by decide
theorem test_wf_release_at : (Instr.resetRelease 1600 440).wellFormed = true := by decide
theorem test_wf_header_too_long : (Instr.clipHeaderRead (List.replicate 776 0)).wellFormed = false := by decide +kernel
theorem test_wf_short_record : (Instr.read ⟨.host, 3, 0, 7⟩ 0 0).wellFormed = false := by decide
theorem test_wf_throttle_zero : (Instr.write (radio 0 5) 0 1).wellFormed = false := by decide
theorem test_wf_throttle_255 : (Instr.add (radio 255 3) 0 1).wellFormed = false := by decide
theorem test_wf_config_length : (Instr.configWrite (host 9) 7 255 [64]).wellFormed = false := by decide
theorem test_wf_ageing_zero : (Instr.throttleEntryAgeing 0).wellFormed = false := by decide
theorem test_wf_trip_at_threshold : (Instr.shortComparatorTrip .heater 1500).wellFormed = false := by decide
theorem test_wf_burst_too_long : (Instr.burstLands (List.replicate 33 0)).wellFormed = false := by decide
theorem test_wf_defined_kind : (Instr.requestKindByte (some ⟨0x10, host 2⟩)).wellFormed = false := by decide
theorem test_wf_first_byte : (Instr.transactionFramingError (.unknownKind 3)).wellFormed = false := by decide
theorem test_wf_undefined_kind : (Instr.requestKindByte (some ⟨0x19, host 2⟩)).wellFormed = true := by decide

/-- The table gives no bits, so no word spells a command. -/
theorem test_no_word_spells : decodeTableWord 32 0xFFFFFFFF = none ∧ State.reset.withFetchWord 32 0 = State.reset := ⟨rfl, rfl⟩

/-! ## The manual's worked figures -/

/-- R31: the CRC-16 of the nine digits is 0x29B1. -/
theorem test_crc_of_nine_digits : crc16 [0x31, 0x32, 0x33, 0x34, 0x35, 0x36, 0x37, 0x38, 0x39] = 0x29B1 := by decide +kernel

/-- R49: notch 255 on the default curve gives 4079. -/
theorem test_speed_target_default : speedTarget Configuration.defaults.speedCurve 255 = 4079 := by decide +kernel

/-- R49: S[3] = 900 and S[4] = 800, notch 50 gives 887. -/
theorem test_speed_target_falling :
    speedTarget ((Configuration.defaults.speedCurve.set 3 900).set 4 800) 50 = 887 := by
  decide +kernel

/-- R51: d = 32 and BRAKE 10 give a fall of 192. -/
theorem test_brake_deceleration : moveRamp 16000 0 32 32 10 false = 15808 := by decide

/-- 3.12: the regulator with E = 1500 gives 268 from J = 41440, and with E = 1700 gives 167 from J = 39840. -/
theorem test_regulator :
    regulate { Configuration.defaults with kp := 32, ki := 8 } 1560 (feedforwardOf 1560 600) 1500 40960 = (41440, 268)
    ∧ regulate { Configuration.defaults with kp := 32, ki := 8 } 1560 (feedforwardOf 1560 600) 1700 40960 = (39840, 167) := by
  decide +kernel

/-- 3.12: the limiter's first steps. -/
theorem test_limiter : [0, 1, 2, 9].map (fun n => (fun l => nextCeiling l 3100 3000)^[n] 1023) = [1023, 895, 783, 305] := by decide +kernel

/-- R74: the compare values of the table. -/
theorem test_compare_values :
    [0, 1, 268, 512, 1023].map (fun d => [compareValue d .m1024, compareValue d .m512, compareValue d .m256])
      = [[0, 0, 0], [1, 0, 0], [268, 134, 67], [512, 256, 128], [1023, 511, 255]] := by decide

/-- R140: the values of a PULSE. -/
theorem test_pulse :
    [0, 25, 50, 75, 99].map (pulseValue 255 100) = [0, 127, 255, 127, 5] ∧ pulseValue 255 5 2 = 255 := by decide

/-- R142: the flicker generator. -/
theorem test_flicker : advanceFlicker 0xACE1 = 0x5670 ∧ advanceFlicker 0x5670 = 0xAB38 := by decide

/-! ## Commands, by the manual's worked sequences and rules -/

/-- R89: the track-present comparator of level 8 V falls below 7.8 V alone, and starts the qualification of R159. -/
theorem test_comparator_hysteresis :
    [780, 779].map (fun v => after (.supervisionComparatorChange .trackPresent v) { run with bmu.trackPresent := true }
      (fun t => (t.bmu.trackPresent, t.pws.qualification))) = [some (true, .stopped), some (false, .running 16000)] := by decide +kernel

/-- R157: LOAD goes on while a report is missing. -/
theorem test_load_waits : after .loadEnd loading (·.pws.powerState) = some .load := by decide +kernel

/-- R9: a WRITE of BRAKE 20 sets BRAKE to 15, with CLAMPED. -/
theorem test_write_brake_20 :
    after (.write (host 5) 2 20) driver (fun t => (t.rcu.brake, t.hpt.out)) = some (15, [0, 0, 7, 0, 0x01, 1, 0]) := by decide +kernel

/-- R10: BRAKE 12 with ADD 5 gives 15 and SATURATED. -/
theorem test_add_brake : after (.add (host 3) 2 5) { driver with rcu.brake := 12 } (fun t => (t.rcu.brake, t.hpt.out))
    = some (15, [0, 0, 7, 0, 0x02, 1, 12]) := by decide +kernel

/-- R10: VOLUME 100 with ADD −40 gives 60. -/
theorem test_add_volume : after (.add (host 3) 5 (BitVec.ofInt 16 (-40))) { run with rcu.volume := 100 } (·.rcu.volume) = some 60 := by
  decide +kernel

/-- 1.8: FLIP of K5 and KEYS of K3 off, in this order. -/
theorem test_two_operators :
    (after (.flip (host 5) 3 0x20) { run with rcu.keys := 0x09 } fun t =>
      (t.rcu.keys, t.hpt.out, after (.keys (host 9) 3 0x08 0) { t with hpt.transaction := .receiving } fun u => (u.rcu.keys, u.hpt.out)))
    = some (0x29, [0, 0, 7, 0, 0x04, 4, 0, 0, 0, 0x09], some (0x21, [0, 0, 7, 0, 0x04, 4, 0, 0, 0, 0x29])) := by decide +kernel

/-- R13: a posted SWAP is refused with BAD_KIND, as an ERROR notice. -/
theorem test_posted_swap : after (.swap (posted 5) 5 1) run (fun t => (t.rcu.volume, t.hpt.notices)) = some (128, [.error 0x15 .badKind]) := by
  decide +kernel

/-- 1.8: the stale steal of a dispatcher fails and reports the holder; with the holder expected it succeeds. -/
theorem test_stale_steal :
    let s : State := { run with
      rcu.holder := .throttle 31, rcu.lease := .running 48000000, rif.holderView := .throttle 31
      cfs.working.dispatchers := #v[some 200, none] }
    (after (.claim (radio 200 2) 12 200) s fun t => (t.rcu.holder, t.rif.lastEntry.map ReplyEntry.bytes),
      after (.claim (radio 200 2) 31 200) s fun t => (t.rcu.holder, t.rif.lastEntry.map ReplyEntry.bytes, t.hpt.notices))
    = (some (.throttle 31, some [1, 7, 0, 0x00, 1, 31]), some (.throttle 200, some [1, 7, 0, 0x08, 1, 31], [.claimChanged (.throttle 200)])) := by
  decide +kernel

/-- R35, R36: a throttle of which RIF holds no entry has one when its CLAIM is applied. -/
theorem test_claim_makes_the_entry :
    after (.claim (radio 12 2) 0 12) run (fun t => (t.rcu.holder, t.rif.throttles.map fun e => (e.id, e.lastHeard)))
      = some (.throttle 12, [(12, 0)]) := by decide +kernel

/-- R36: an entry not heard for more than 60 s is FREE as its throttle loses the claim, and stays where RIF is kept in its frame. -/
theorem test_former_holder_entry :
    [none, some (FrameRun.mk 12 57 .locomotive none [⟨0x16, false, 5, [0, 12]⟩] [])].map (fun h => after .leaseExpiry
      { run with
        now := 2000000000, rcu.holder := .throttle 12, rcu.lease := .running 2000000000
        rif.holderView := .throttle 12, rif.throttles := [⟨12, 57, 0⟩], rif.handling := h }
      (fun t => t.rif.throttles)) = [some [], some [⟨12, 57, 0⟩]] := by decide +kernel

/-- 1.8: RELEASE KEEP of the holder. -/
theorem test_release_keep :
    after (.release (host 1) 0) { driver with rcu.targetNotch := 80 } (fun t => (t.rcu.holder, t.rcu.lease, t.rcu.targetNotch, t.hpt.out))
      = some (.none, .stopped, 80, [0, 0, 7, 0, 0, 1, 255]) := by decide +kernel

/-- R59: HALT_NOW brakes both bridges, and carries no response. -/
theorem test_halt : after (.haltNow (host 0)) run
    (fun t => (t.moc.motionState, t.bmu.front.output, t.bmu.rear.output, t.hpt.out)) = some (.emergency, .braking, .braking, [0, 0]) := by
  decide +kernel

/-- 12.5: MEASURE DIE_T with tag 4 takes a slot and is answered 0x04, 0x01, 0x00, 0x00. -/
theorem test_measure : after (.measure ⟨.host, 5, 0, 4⟩ 0x15) run (fun t => (t.hpt.out, t.hpt.slots, t.bmu.slots))
    = some ([0, 0, 0x04, 0x01, 0x00, 0x00], [⟨.measure, 4⟩], [⟨.dieT, 4, false⟩]) := by decide +kernel

/-- 12.5: the completion joins a queue of sixteen events, and its bytes. -/
theorem test_completion_displaces :
    (fun t : State => (t.hpt.notices.length, t.hpt.notices.getLast?.map Notice.bytes, t.hpt.lost))
      (pushNotice (.completion 4 .done 52) { run with hpt.notices := List.replicate 16 (.shedStage 0), hpt.lost := 3 })
    = (16, some [0x01, 0x04, 0x00, 0x00, 0x00, 0x34, 0x00, 0x00], 4) := by decide +kernel

/-- R116: PLAY on a SILENT voice starts it at once. -/
theorem test_play : after (.play (host 5) 1 0 300 1) run (fun t => (t.ssq.voices[1].state, t.ssq.voices[1].gain, t.hpt.out))
    = some (.start, 255, [0, 0, 7, 0, 0x01, 1, 0]) := by decide +kernel

/-- R131: a REFILL above the capacity is SATURATED. -/
theorem test_refill : after (.refill (host 2) 100) { run with smu.fluid := 29950 } (fun t => (t.smu.fluid, t.hpt.out))
    = some (30000, [0, 0, 7, 0, 0x02, 2, 0x75, 0x30]) := by decide +kernel

/-- R153: a write of step 0 to the row waited on starts it. -/
theorem test_scene_write_starts :
    after (.sceneWrite (host 15) 0 0 3 (Vector.replicate 12 2)) { run with ltc.player := .waiting }
      (fun t => (t.ltc.player, t.ltc.remaining, t.hpt.out)) = some (.playing, 3, [0, 0, 7, 0, 0, 1, 1]) := by decide +kernel

/-- 11.4: CONFIG_WRITE of ACCEL 64 answers 32; CONFIG_READ then answers 64. -/
theorem test_config_accel :
    (after (.configWrite (host 3) 7 0xFF [64]) run fun t =>
      (t.hpt.out, t.cfs.dirty, after (.configRead (host 2) 7 0xFF) { t with hpt.transaction := .receiving } (·.hpt.out)))
    = some ([0, 0, 7, 0, 0, 1, 32], true, some [0, 0, 7, 0, 0, 1, 64]) := by decide +kernel

/-- 11.4: a write during the commit leaves DIRTY yes at a good end, which completes tag 7. -/
theorem test_commit_end :
    after (.commitEnd true)
      { run with cfs.writing := true, cfs.origin := .host 7, cfs.dirty := true, cfs.writtenDuring := true, hpt.slots := [⟨.commit, 7⟩] }
      (fun t => (t.cfs.writing, t.cfs.dirty, t.hpt.notices, t.hpt.slots)) = some (false, true, [.completion 7 .done 0], []) := by
  decide +kernel

/-- R39, R179: a CONFIG_WRITE record that ends after an item above 53 is BAD_FIELD, and after STORE_STATUS READ_ONLY. -/
theorem test_config_write_ends_after_its_item :
    [(54 : Byte), 53, 7].map (fun i => (radioRecord 200 none ⟨0x31, false, 7, [i]⟩
      { run with cfs.working.dispatchers := #v[some 200, none] }).1.code) = [.badField, .readOnly, .badValue] := by decide +kernel

/-- R184: past its answer the part shifts out 0xFF, and a first byte of 0x04 names no transaction. -/
theorem test_shifted_bytes :
    [5, 6, 7].map { run.hpt with out := [0, 0, 7, 0, 0, 1, 32] }.shifted = [1, 32, 0xFF]
    ∧ after (.transactionFramingError (.unknownKind 4)) { run with hpt.transaction := .kind } (fun t => (t.hpt.framingErrors, t.hpt.transaction))
      = some (1, .filling) := by decide +kernel

/-- 12.5: a NOTICE of an empty queue is the empty marker. -/
theorem test_notice_empty : after .notice { run with hpt.transaction := .kind } (·.hpt.out) = some (List.replicate 8 0) := by decide +kernel

/-- R189: a SCENE_WAITING pushed in LOAD waits there, while a NOTICE returns the empty marker or the ERROR of a request answered BUSY. -/
theorem test_notice_in_load :
    [[Notice.sceneWaiting .a], [.sceneWaiting .a, .error 0x11 .busy]].map (fun q => after .notice
      { loading with hpt.transaction := .kind, hpt.notices := q } (fun t => (t.hpt.out, t.hpt.notices)))
    = [some ([0, 0, 0, 0, 0, 0, 0, 0], [.sceneWaiting .a]), some ([0x02, 0x11, 8, 0, 0, 0, 0, 0], [.sceneWaiting .a])] := by decide +kernel

/-- 12.5: a STATUS clears the lost-event count. -/
theorem test_status : after .status { run with hpt.transaction := .kind, hpt.lost := 4 } (fun t => (t.hpt.out.take 2, t.hpt.lost))
    = some ([0, 4], 0) := by decide +kernel

/-- 2.9: a frame sent twice is answered once, and counted DUPLICATE. -/
theorem test_frame_twice :
    let bytes := Spec.frameBytes 3 12 57 [[0x14, 9, 0, 5, 3, 0, 0, 0, 0x04], [0x10, 6, 0, 6, 9, 0]]
    let f (at' : Time) : CompletedFrame := ⟨bytes, at', false, 3, 0⟩
    (after .radioFrame { run with rcu.keys := 1, rcu.views.runSpeed := 640, rif.completed := [f 164800000, f 165440000] } fun t =>
      (t.rcu.keys, t.rif.replies.map (fun r => r.entries.map ReplyEntry.bytes),
        after .radioFrame t fun u => (u.rif.counts.duplicate, u.rif.replies.length)))
    = some (0x05, [[[1, 5, 0, 0x04, 4, 0, 0, 0, 1], [1, 6, 0, 0, 2, 0x02, 0x80]]], some (1, 1)) := by decide +kernel

/-- R37: a FLIP of the host falls between a FLIP and a READ of one frame, and the READ answers with both. -/
theorem test_frame_break :
    let bytes := Spec.frameBytes 3 12 57 [[0x14, 9, 0, 5, 3, 0, 0, 0, 0x04], [0x10, 6, 0, 6, 3, 0]]
    let first := after .radioFrame { run with rcu.keys := 1, rif.completed := [⟨bytes, 16000, false, 3, 0⟩], frameBreaks := [1] } id
    let last := first.bind fun t => (after (.flip (host 5) 3 0x08) t id).bind fun u => after .radioFrame u id
    first.map (fun t => (t.rcu.keys, t.rif.replies.length)) = some (0x05, 0)
    ∧ last.map (fun v => v.rif.replies.map fun r => r.entries.map ReplyEntry.bytes)
      = some [[[1, 5, 0, 0x04, 4, 0, 0, 0, 1], [1, 6, 0, 0, 4, 0, 0, 0, 0x0D]]] := by decide +kernel

/-- R40, R41, R42: a lead that faces backward inverts DIRECTION both ways, and masks KEYS, of a consist frame. -/
theorem test_consist_frame :
    let bytes := Spec.frameBytes 10005 12 57 [[0x10, 6, 0, 6, 1, 0], [0x11, 9, 0, 7, 3, 0, 0, 0, 0x0F]]
    after .radioFrame
      { run with
        rcu.keys := 0x10, rif.completed := [⟨bytes, 16000, false, 3, 5⟩], cfs.working.consistNumber := 5
        cfs.working.consistOrientation := .reversed, cfs.working.consistLead := true, cfs.working.consistKeyMask := 0x03 }
      (fun t => (t.rcu.keys, t.rif.replies.map fun r => (r.runDirection, r.entries.map ReplyEntry.bytes)))
    = some (0x13, [(.reverse, [[1, 6, 0, 0, 1, 1], [1, 7, 0, 0x04, 4, 0, 0, 0, 0x10]])]) := by decide +kernel

/-- R20, R52: a lease expiry with BRAKE. -/
theorem test_lease_expiry :
    after .leaseExpiry { driver with cfs.working.lossAction := .brake } (fun t => (t.rcu.failsafe, t.moc.lossBrake, t.hpt.notices))
      = some (true, true, [.leaseExpired .hostProcessor .brake, .claimChanged .none]) := by decide +kernel

/-- 3.12: the first step after notch 100 raises P to ACCEL, and the state becomes DRIVING. -/
theorem test_control_step :
    after .controlStep { run with moc.notch := 100, cfs.working.accel := 64, moc.samples := [⟨0, 0, 0, 0⟩] }
      (fun t => (t.moc.ramp, t.moc.motionState, t.rcu.views.runSpeed)) = some (64, .driving, 4) := by decide +kernel

/-- R115: SQUEAL fires in a falling step under BRAKE 8 below SQUEAL_SPEED, and is then disarmed. -/
theorem test_squeal :
    (fun q : Ssq => (q.squealArmed, q.voices[3].state))
      (({ run.ssq with squealArmed := true }).takeMotion
        { run.cfs.working with eventBindings := run.cfs.working.eventBindings.set 4 ⟨some 0, 3, 200⟩, squealSpeed := 100 } 0 0 99 true 8)
    = (false, .start) := by decide +kernel

/-- 3.12 and R74: duty 268 at modulus 512 drives from the period start for 134 counts. -/
theorem test_period_start :
    after .pwmPeriodStart { run with bmu.front.modeShadow := .drive, bmu.front.dutyShadow := 268 }
      (fun t => (t.bmu.front.compare, t.bmu.front.legA, t.bmu.front.legB)) = some (134, .on .high, .on .low) := by decide +kernel

/-- R76: DRIVING after BRAKING waits 8 counts. -/
theorem test_dead_interval :
    after .pwmPeriodStart
      { run with bmu.front.modeShadow := .drive, bmu.front.dutyShadow := 268, bmu.front.output := .braking
                 bmu.front.legA := .on .low, bmu.front.legB := .on .low }
      (fun t => (t.bmu.front.legA, t.bmu.front.legB)) = some (.dead .high 520, .on .low) := by decide +kernel

/-- R80: a drive cut at its first count carried nothing, and draws no free value. -/
theorem test_cut_of_no_counts :
    (fun t : State => (t.bmu.front.charge, t.bmu.front.driveCounts, t.bmu.front.drivenSince, t.freeIndex))
      (cutDrive .front { run with now := 512, bmu.front.compare := 134, bmu.front.drivenSince := some 512, bmu.front.charge := 9 })
    = (9, 0, none, 0) := by decide +kernel

/-- R79: 9.52 V is 1559 units. -/
theorem test_gap_conversion :
    after .gapConversionEnd { run with bmu.gapConversion := .running 160, bmu.gap := .converting, bmu.front.heldVolts := -9520 }
      (fun t => (t.moc.samples.map GapSample.emfF, t.bmu.gap)) = some ([1559], .resuming) := by decide +kernel

/-- R167: 110 °C raises the thermal contribution to 2. -/
theorem test_die_result :
    after (.conversionEnd 110) { run with bmu.converting := some (.dieT, 160) } (fun t => (t.pws.thermalPart, t.smu.shedView, t.hpt.notices))
      = some (2, 2, [.shedStage 2]) := by decide +kernel

/-- R160: a LOST track in RUN with the reserve enters BRIDGE. -/
theorem test_bridge_entry :
    after .trackQualificationExpiry { run with pws.qualification := .running 16000 }
      (fun t => (t.pws.powerState, t.pws.bridgeTimer, t.pws.shedStage)) = some (.bridge, .running 8016000, 2) := by decide +kernel

/-- R58: MOC evaluates its state as it takes a shed stage, with N as stored. -/
theorem test_stage_evaluates :
    after .sagTimerExpiry { run with moc.notch := 100, pws.sagTimer := .running 320000, pws.sagRaise := true }
      (fun t => (t.moc.shedView, t.moc.motionState, t.hpt.notices)) = some (1, .driving, [.shedStage 1, .motionState .driving]) := by
  decide +kernel

/-- R61, R62: the settle delay ends in RUN, and P is seeded with 16 × E of the front truck; the bridges get DRIVE with duty 0. -/
theorem test_resumes :
    after .settleTimerExpiry { settling with bmu.front.dutyShadow := 300 }
      (fun t => (t.moc.ramp, t.moc.motionState, t.bmu.front.dutyShadow, t.bmu.front.modeShadow))
    = some (1440, .driving, 0, .drive) := by decide +kernel

/-- R173, R174: a low HEATER_I under a command of 64 starts the open test, and one that is not low clears OPEN. -/
theorem test_open_test :
    let s (w : Watch) : State := { run with bmu.converting := some (.heaterI, 160), odu.watches := run.odu.watches.set 2 w }
    after (.conversionEnd 74) (s { command := 64 }) (fun t => (t.odu.watch .heater).openTimer) = some (.running 8000160)
    ∧ after (.conversionEnd 75) (s { command := 1, record.opened := true }) (fun t => ((t.odu.watch .heater).record.opened, t.hpt.notices))
      = some (false, []) := by decide +kernel

/-- 10.5: L5 trips in the probation of a retry made with the count at 3, and is LATCHED. -/
theorem test_latches :
    after (.shortComparatorTrip (.light 5) 300)
      { run with
        ltc.lights := run.ltc.lights.set 5 { level := 255, pwm := ⟨255, true⟩ }
        odu.watches := run.odu.watches.set 9 { record := ⟨false, true, .ok, 3⟩, probation := .running 16000000 } }
      (fun t => ((t.odu.watch (.light 5)).record, t.hpt.notices)) = some (⟨false, true, .latched, 3⟩, [.fault (.light 5) .latched]) := by
  decide +kernel

/-- 10.5: the retry after the first second. -/
theorem test_retry :
    after (.retryTimerExpiry (.light 5))
      { run with odu.watches := run.odu.watches.set 9 { record := ⟨false, true, .shortWait, 0⟩, retry := .running 16000000 } }
      (fun t => ((t.odu.watch (.light 5)).record, (t.odu.watch (.light 5)).probation))
      = some (⟨false, true, .ok, 1⟩, .running 32000000) := by decide +kernel

/-- 5.7: sample 2 gives the beat that ends the revolution. -/
theorem test_beat :
    after .beatSample
      { run with btg.accumulator := 16243, btg.beatIndex := 3, btg.beatCount := 1203, btg.odometer := 300, btg.samples := [⟨1580, 0, 0, 0⟩] }
      (fun t => (t.btg.accumulator, t.btg.beatIndex, t.rcu.views.beatCount, t.rcu.views.odometer)) = some (105, 0, 1204, 301) := by
  decide +kernel

/-- R113, R143: a beat starts the MEDIUM chuff on V0 and flares a firebox to its level of the last frame. -/
theorem test_beat_sounds_and_flares :
    after .beatSample
      { run with
        btg.accumulator := 16243, btg.samples := [⟨1580, 0, 0, 0⟩], ssq.effortU := 268, ssq.effortFF := 228
        cfs.working.chuffClips := #v[none, some 0, none, none], cfs.working.heavyThreshold := 60
        cfs.working.patterns := run.cfs.working.patterns.set 3 { kind := .firebox, level := 200, invert := false, period := 1 }
        ltc.lights := run.ltc.lights.set 2 { last := some ⟨4, 100⟩ } }
      (fun t => (t.ssq.voices[0].state, t.ltc.lights[2].flare)) = some (.start, 100) := by decide +kernel

/-- R100, R106: a voice one sample into its clip gets a burst of 32 from the clip's start on, by 0x03 and the address. -/
theorem test_burst_starts :
    after .audioSample
      { run with
        ssq.clips := run.ssq.clips.set 0 (some ⟨0x012345, 100, 10, 50⟩)
        ssq.voices := run.ssq.voices.set 1 { state := .start, fetch := .active, fetchPos := 32, buffer := [1], gain := 255 } }
      (fun t => (t.ssq.transfer, t.ssq.transfer.map Transfer.command))
    = some (some (.burst 1 0x012365 32), some [0x03, 0x01, 0x23, 0x65]) := by decide +kernel

/-- R105: a landing at the loop end goes back to the loop's start while the key is on, and on into the tail when it is off. -/
theorem test_boundary :
    let s (keys : KeySet) : State := { run with
      ssq.voices := run.ssq.voices.set 1 { state := .start, fetch := .active, fetchPos := 40, burst := some 10, owner := some 0 }
      ssq.transfer := some (.burst 1 40 10), ssq.keysView := keys
      cfs.working.keyBindings := run.cfs.working.keyBindings.set 0 ⟨some 3, 1, 0, 255, .hold⟩ }
    [(8 : KeySet), 0].map (fun k => after (.burstLands (List.replicate 10 0)) (s k) fun t => (t.ssq.voices[1].state, t.ssq.voices[1].fetchPos))
    = [some (.loop, 10), some (.tail, 50)] := by decide +kernel

/-- R118: the first and the third of the three mixes. -/
theorem test_mixes :
    let voice (b : Byte) (gain : Nat) : Voice := { state := .tail, gain := gain, buffer := [b, 0, 0] }
    after .audioSample { run with ssq.volumeView := 180, ssq.voices := (run.ssq.voices.set 1 (voice 100 200)).set 2 (voice (-60) 255) }
      (·.ssq.outputCompare) = some 563
    ∧ after .audioSample { run with ssq.volumeView := 100, ssq.voices := run.ssq.voices.set 4 (voice (-1) 100) }
      (·.ssq.outputCompare) = some 511 := by decide +kernel

/-- 7.7: a tick at 189 °C with G = 8 sets h = 168 in WARMING at stage 0. -/
theorem test_regulation_step :
    after .regulationStep
      { run with smu.state := .warming, smu.levelView := 2, smu.tView := 190, smu.results := [189], cfs.working.heaterGain := 8 }
      (fun t => (t.smu.heater, t.smu.state, t.smu.tView)) = some (168, .warming, 189) := by decide +kernel

/-- 8.9: frames 1 and 2 of a firebox flare on L2. -/
theorem test_firebox_flare :
    (after .lightFrame { run with ltc.lights := run.ltc.lights.set 2 { flare := 200 } } fun t =>
      (t.ltc.lights[2].level, t.ltc.lights[2].flare, t.ltc.flicker,
        after .lightFrame t fun u => (u.ltc.lights[2].level, u.ltc.lights[2].flare)))
    = some (200, 168, 0x5670, some (171, 136)) := by decide +kernel

/-! ## Witnesses: a state and operands for the hypotheses of each statement, clause by clause -/

theorem witness_DeviceReset :
    State.reset.inReset = true ∧ Instr.notice ≠ .resetnLow ∧ Instr.notice ≠ .logicSupplyFail ∧ Instr.notice ≠ .hostSelectFall
    ∧ Instr.notice ≠ .hostSelectRise ∧ (∀ trackV capV, Instr.notice = .resetRelease trackV capV → capV < 440)
    ∧ ∀ trackV capV, Instr.resetRelease 0 439 = .resetRelease trackV capV → capV < 440 :=
  ⟨rfl, nofun, nofun, nofun, nofun, nofun, fun _ _ h => by cases h; decide⟩

/-- A good image, a bad one and a commit in flight, whatever the configuration of the image. -/
theorem images (c : Configuration) (s : State) (h : s.cfs.writing = false) :
    Spec.loaded { s with cfs.image := ⟨c, c.crc⟩ } = (true, c)
    ∧ Spec.loaded { s with cfs.image := badImage c } = (false, Configuration.defaults)
    ∧ Spec.loaded { s with cfs.writing := true } = (false, Configuration.defaults) := by
  have bad (x : Word16) : x ≠ ~~~x := fun h => by simpa using congrArg (·.getLsbD 0) h
  exact ⟨by simp [Spec.loaded, h], by simp [Spec.loaded, badImage, bad], by simp [Spec.loaded]⟩

/-- The defaults with the scene key on at the start. -/
def withScene : Configuration := { Configuration.defaults with sceneKey := some 0, startKeys := 1 }

/-- A release at 4.40 V, from a state with a good image, one with a bad image, one in a commit, and one whose scene key is on. -/
theorem witness_ReleaseStartsLoad :
    440 ≤ 440 ∧ Spec.loaded { run with cfs.image := ⟨withScene, withScene.crc⟩ } = (true, withScene)
    ∧ Spec.loaded { run with cfs.image := badImage withScene } = (false, Configuration.defaults)
    ∧ Spec.loaded { run with cfs.writing := true } = (false, Configuration.defaults)
    ∧ withScene.sceneKey = some 0 ∧ withScene.startKeys.getLsbD 0 = true := by
  obtain ⟨good, bad, cut⟩ := images withScene run rfl
  exact ⟨by decide, good, bad, cut, rfl, by decide⟩

/-- A header of one clip that ends with the flash, and loops to its end. -/
def header : List Byte :=
  let body : List Byte := [0x53, 0x43, 0x4C, 0x50, 1] ++ [0xFF, 0xFF, 0x00] ++ [0, 1, 0] ++ [0, 0, 0] ++ [0, 1, 0]
  body ++ be2 (crc16 body).toNat

theorem witness_HeaderReadFillsClips :
    let s : State := { loading with pws.soundReport := none }
    s.inReset = false ∧ s.pws.powerState = .load ∧ s.pws.storeReport.isSome = true ∧ s.pws.soundReport = none
    ∧ Spec.headerGood header ∧ Spec.descriptorValid (Spec.descriptor header 0) s.cfs.working.flashSize ∧ ¬Spec.headerGood []
    ∧ ¬Spec.descriptorValid (Spec.descriptor header 0) 255 := by
  unfold Spec.headerGood Spec.descriptorValid
  decide +kernel

theorem witness_LoadEnds :
    let s : State := { loading with pws.dieReport := true }
    s.inReset = false ∧ StageInv s ∧ s.pws.powerState = .load ∧ s.pws.storeReport = some false ∧ s.pws.recordReport = true
    ∧ s.pws.soundReport = some true ∧ s.pws.comparatorReport = true ∧ s.pws.dieReport = true :=
  ⟨rfl, by constructor <;> decide, rfl, rfl, rfl, rfl, rfl, rfl⟩

theorem witness_ReadAnswersTheField :
    Spec.Arrives (posted 2) 2 run ∧ (posted 2).control.getLsbD 0 = true
    ∧ Spec.Arrives (host 2) 2 run ∧ (host 2).control.getLsbD 0 = false
    ∧ Spec.fieldBytes run 0 = some [0] ∧ Spec.fieldBytes run 27 = some [0, 0] ∧ 28 < (29 : Byte).toNat
    ∧ (15 : Byte).toNat = (15 : Fin 16).val ∧ 16 ≤ (16 : Byte).toNat ∧ Spec.counterBytes {} (7 : Byte).toNat = some [0, 0]
    ∧ 8 ≤ (8 : Byte).toNat :=
  ⟨arrives_posted run 2 rfl (by decide) rfl (by decide), by decide, run_arrives 2 (by decide), by decide⟩

theorem witness_WritesStoreTheField :
    Spec.setting 255 driver.rcu.volume (.write (host 5) 5 256) = some ⟨host 5, 5, 0x11, 5, { clamped := true }, 255⟩
    ∧ Spec.setting 15 driver.rcu.brake (.add (host 3) 2 16) = some ⟨host 3, 2, 0x12, 3, { saturated := true }, 15⟩
    ∧ Spec.setting 255 driver.rcu.targetNotch (.swap (host 5) 0 255) = some ⟨host 5, 0, 0x15, 5, {}, 255⟩
    ∧ Spec.Arrives (host 5) 5 driver ∧ Spec.Arrives (host 3) 3 driver
    ∧ driver.rcu.holder = holderOf (host 5).source ∧ driver.moc.emergencyLatch = false :=
  ⟨rfl, rfl, rfl, driver_arrives 5 (by decide), driver_arrives 3 (by decide), rfl, rfl⟩

theorem witness_NotchEndsEmergency :
    Spec.setting 255 halted.rcu.targetNotch (.write (host 5) 0 1) = some ⟨host 5, 0, 0x11, 5, {}, 1⟩
    ∧ Spec.Arrives (host 5) 5 halted ∧ halted.rcu.holder = holderOf (host 5).source ∧ RestInv halted
    ∧ halted.moc.emergencyLatch = true :=
  ⟨rfl, arrives halted 5 rfl (by decide) rfl (by decide), rfl, halted_rest, rfl⟩

/-- The latch set by a HALT_NOW in SUSPENDED, with a reversal still pending. -/
theorem witness_NotchEndsEmergency_suspended :
    let s : State := { settling with
      rcu.holder := .hostProcessor, moc.emergencyLatch := true, moc.reversalPending := true, moc.directionView := .reverse }
    Spec.Arrives (host 5) 5 s ∧ s.rcu.holder = holderOf (host 5).source ∧ RestInv s ∧ s.moc.emergencyLatch = true
    ∧ s.moc.motionState = .suspended :=
  ⟨arrives _ 5 rfl (by decide) rfl (by decide), rfl, by constructor <;> decide, rfl, rfl⟩

theorem witness_DirectionWriteTurnsTheTrain :
    Spec.Arrives (host 5) 5 driver ∧ driver.rcu.holder = holderOf (host 5).source ∧ RestInv driver :=
  ⟨driver_arrives 5 (by decide), rfl, driver_rest⟩

theorem witness_SmokeLevelTaken :
    Spec.setting 3 run.rcu.smokeLevel (.write (host 5) 4 3) = some ⟨host 5, 4, 0x11, 5, {}, 3⟩ ∧ Spec.Arrives (host 5) 5 run
    ∧ SmokeInv run ∧ run.smu.levelView = run.rcu.smokeLevel ∧ run.rcu.smokeLevel ≤ 3 ∧ 3 ≠ run.rcu.smokeLevel :=
  ⟨rfl, run_arrives 5 (by decide), run_smoke, rfl, by decide, by decide⟩

theorem witness_KeyRequestsSetTheKeys :
    Spec.keyRequest run.rcu.keys (.keys (host 9) 3 0x80000000 0xFFFFFFFF) = some (host 9, 0x13, 9, 0x80000000)
    ∧ Spec.keyRequest run.rcu.keys (.flip (host 5) 3 1) = some (host 5, 0x14, 5, 1)
    ∧ Spec.keyRequest run.rcu.keys (.write (host 5) 3 1) = some (host 5, 0x11, 5, 1)
    ∧ Spec.Arrives (host 9) 9 run ∧ Spec.Arrives (host 5) 5 run :=
  ⟨by decide, by decide, by decide, run_arrives 9 (by decide), run_arrives 5 (by decide)⟩

/-- The edges of K3 at binding 0, and the two states in which SSQ ignores them. -/
theorem witness_edges :
    let b : KeyBinding := ⟨some 3, 1, 0, 255, .hold⟩
    let c : Configuration := { run.cfs.working with keyBindings := run.cfs.working.keyBindings.set 0 b }
    ((Spec.edge c 0 8 run.ssq 0).voices[1].owner, (Spec.edge c 8 8 run.ssq 0).voices[1].owner) = (some 0, none)
    ∧ run.ssq.clips[0] ≠ none ∧ run.ssq.soundFault = false ∧ run.ssq.shedView ≠ 4 ∧ loading.ssq.shedView = 4 := by decide +kernel

theorem witness_FlipTogglesTheMask : Spec.Arrives (host 5) 5 run ∧ Spec.Arrives (radio 9 5) 5 known ∧ (radio 9 5).source ≠ .host :=
  ⟨run_arrives 5 (by decide), known_arrives 5 (by decide), nofun⟩

theorem witness_FieldChecksRefuse :
    Spec.fieldRequest (.swap (posted 5) 0 1) = some (posted 5, 0x15, 5, 0, [0, 2, 4, 5]) ∧ Spec.Arrives (posted 5) 5 run
    ∧ (posted 5).control.getLsbD 0 = true ∧ (host 5).control.getLsbD 0 = false
    ∧ Spec.fieldRequest (.write (host 5) 29 1) = some (host 5, 0x11, 5, 29, [0, 1, 2, 3, 4, 5, 6]) ∧ 28 < (29 : Byte).toNat
    ∧ 7 ≤ (7 : Byte).toNat ∧ (28 : Byte).toNat ≤ 28
    ∧ Spec.fieldRequest (.add (host 3) 6 1) = some (host 3, 0x12, 3, 6, [0, 2, 4, 5]) ∧ (6 : Byte).toNat < 7
    ∧ (6 : Byte) ∉ ([0, 2, 4, 5] : List Byte) ∧ Spec.Arrives (host 5) 5 run ∧ Spec.Arrives (host 3) 3 run
    ∧ (2 : Byte).toNat < 3 ∧ run.rcu.holder ≠ holderOf (host 5).source
    ∧ Spec.Arrives (host 5) 5 driver ∧ driver.rcu.holder = holderOf (host 5).source ∧ 1 < (2 : Word32).toNat ∧ (1 : Word32) ≠ 0 :=
  ⟨rfl, arrives_posted run 5 rfl (by decide) rfl (by decide), by decide, by decide, rfl, by decide, by decide, by decide, rfl, by decide,
    by decide, run_arrives 5 (by decide), run_arrives 3 (by decide), by decide, by decide, driver_arrives 5 (by decide), rfl, by decide,
    by decide⟩

theorem witness_ClaimComparesAndSwaps : Spec.Arrives (host 2) 2 run ∧ Spec.Arrives (radio 9 2) 2 known :=
  ⟨run_arrives 2 (by decide), known_arrives 2 (by decide)⟩

theorem witness_ReleaseGivesUpTheClaim :
    Spec.Arrives (host 1) 1 run ∧ 1 < (2 : Byte).toNat ∧ (1 : Byte).toNat ≤ 1 ∧ run.rcu.holder ≠ holderOf (host 1).source
    ∧ Spec.Arrives (host 1) 1 driver ∧ driver.rcu.holder = holderOf (host 1).source :=
  ⟨run_arrives 1 (by decide), by decide, by decide, by decide, driver_arrives 1 (by decide), rfl⟩

theorem witness_HaltStopsTheTrain :
    Spec.Arrives (host 0) 0 run ∧ run.moc.shedView ≠ 4 ∧ run.bmu.running = true ∧ run.bmu.gap = .closed
    ∧ (run.bmu.bridge .rear).heldOff = false ∧ (host 0).source = .host ∧ loading.moc.shedView = 4
    ∧ Spec.Arrives (radio 9 0) 0 known ∧ (radio 9 0).source ≠ .host
    ∧ Spec.Arrives (host 0) 0 { run with bmu.gap := .requested, bmu.rear.heldOff := true } :=
  ⟨run_arrives 0 (by decide), by decide, rfl, rfl, rfl, rfl, rfl, known_arrives 0 (by decide), nofun,
    arrives _ 0 rfl (by decide) rfl (by decide)⟩

theorem witness_LeaseExpires :
    run.inReset = false ∧ run.rcu.lease = .stopped ∧ driver.rcu.lease = .running 48000000 ∧ driver.rcu.holder ≠ .none
    ∧ driver.hpt.notices.length ≤ 12 ∧ driver.cfs.working.lossAction = .ramp
    ∧ { driver with cfs.working.lossAction := .coast }.cfs.working.lossAction = .coast
    ∧ { driver with moc.motionState := .driving }.moc.motionState = .driving ∧ driver.moc.reversalPending = false
    ∧ driver.moc.motionState ≠ .emergency ∧ RestInv driver
    ∧ driver.bmu.running = true ∧ driver.bmu.gap = .closed ∧ (driver.bmu.bridge .front).heldOff = false :=
  ⟨rfl, rfl, rfl, by decide, by decide, rfl, rfl, rfl, rfl, by decide, driver_rest, rfl, rfl, rfl⟩

theorem witness_OnlyTheHolderDrives :
    (∃ t, exec (.haltNow (host 0)) driver = .next t) ∧ ¬Spec.mayDrive driver (.haltNow (host 0))
    ∧ ¬Spec.mayDrive run (.write (host 5) 0 5) ∧ ¬Spec.mayDrive driver (.write (host 5) 3 5) :=
  ⟨⟨_, rfl⟩, id, fun h => absurd h.1 (by decide), fun h => absurd h.2 (by decide)⟩

theorem witness_MeasureWaitsInItsSlot :
    Spec.Arrives (radio 9 1) 1 known ∧ Spec.Arrives (host 1) 1 run ∧ (host 1).source = .host
    ∧ (List.replicate 3 (⟨.measure, 1⟩ : DeferredSlot)).length < 4 ∧ Spec.channel 21 = some .dieT ∧ Spec.channel 22 = none :=
  ⟨known_arrives 1 (by decide), run_arrives 1 (by decide), rfl, by decide, by decide, by decide⟩

theorem witness_PlayStartsOrQueuesTheClip : Spec.Arrives (host 5) 5 run ∧ run.ssq.clips[0] ≠ none :=
  ⟨run_arrives 5 (by decide), by decide⟩

theorem witness_RefillFillsTheTank :
    Spec.Arrives (host 2) 2 run ∧ run.smu.state ≠ .dry
    ∧ Spec.Arrives (host 2) 2 { run with smu.state := .dry, smu.fluid := 0 } ∧ run.smu.heater = 0 ∧ run.smu.levelView ≤ 3
    ∧ 0 < min (0 + 1) run.cfs.working.fluidCapacity :=
  ⟨run_arrives 2 (by decide), by decide, arrives _ 2 rfl (by decide) rfl (by decide), rfl, by decide, by decide⟩

theorem witness_SceneWriteReplacesTheStep :
    Spec.Arrives (host 15) 15 run ∧ 1 < (2 : Byte).toNat ∧ 15 < (16 : Byte).toNat ∧ (1 : Byte).toNat ≤ 1 ∧ (15 : Byte).toNat ≤ 15
    ∧ ∀ n : Fin 12, ((Vector.replicate 12 (15 : Byte))[n]).toNat ≤ 15 :=
  ⟨run_arrives 15 (by decide), by decide, by decide, by decide, by decide, by decide⟩

theorem witness_ClearFaultsCleansRecords :
    let s : State := { run with odu.watches := run.odu.watches.set 0 { record := ⟨false, true, .latched, 3⟩ }, smu.state := .fault }
    Spec.Arrives (host 2) 2 s ∧ (0x0005 : OutputSet).getLsbD (outputIndex (.truck .front)).val = true
    ∧ (0x0005 : OutputSet).getLsbD (outputIndex (.truck .rear)).val = false ∧ s.heldOff (.truck .front) = true
    ∧ (0x0005 : OutputSet).getLsbD 2 = true ∧ s.smu.state = .fault ∧ (0x0001 : OutputSet).getLsbD 2 = false
    ∧ s.smu.levelView ≤ 3 ∧ Spec.Arrives (host 2) 2 run ∧ run.smu.state ≠ .fault ∧ FaultInv run :=
  ⟨arrives _ 2 rfl (by decide) rfl (by decide), by decide, by decide, by decide, by decide, rfl, by decide, by decide,
    run_arrives 2 (by decide), by decide, run_faults⟩

theorem witness_ConfigReadAnswersTheItem : Spec.Arrives (host 2) 2 run ∧ Item.ofByte 53 = some .storeStatus ∧ Item.ofByte 54 = none :=
  ⟨run_arrives 2 (by decide), by decide, by decide⟩

theorem witness_ConfigWriteSetsTheItem :
    Spec.Arrives (radio 9 3) (2 + [(64 : Byte)].length) known ∧ Spec.mayConfigure run.cfs.working (radio 9 3).source = false
    ∧ Spec.Arrives (host 3) (2 + [(64 : Byte)].length) run ∧ Spec.mayConfigure run.cfs.working (host 3).source = true
    ∧ 53 < (54 : Byte).toNat ∧ (7 : Byte).toNat < 53 ∧ Spec.writable 7 0 = none ∧ Spec.writable 7 0xFF = some .accel
    ∧ [(64 : Byte), 0].length ≠ Item.accel.size ∧ splitFields Item.accel.fields [64] = some [64]
    ∧ (List.zipWith FieldSpec.legal Item.accel.fields [64]).all id = true
    ∧ (run.cfs.working.put .accel 0xFF [64]).consistent .accel 0xFF = true
    ∧ splitFields Item.lossAction.fields [3] = some [3]
    ∧ (List.zipWith FieldSpec.legal Item.lossAction.fields [3]).all id = false := by
  refine ⟨known_arrives 3 (by decide), ?_, run_arrives 3 (by decide), ?_⟩ <;> decide +kernel

/-- CAP_RESERVE_LEVEL of 6.50 V with the capacitor at 6.00 V: a fall in BRIDGE, and none in RUN. -/
theorem witness_ConfigWriteSetsTheItem_reserve :
    let new : Configuration := bridged.cfs.working.put .capReserveLevel 0xFF [3]
    Spec.Arrives (host 3) (2 + [(3 : Byte)].length) bridged ∧ Spec.mayConfigure bridged.cfs.working (host 3).source = true
    ∧ Spec.writable 20 0xFF = some .capReserveLevel ∧ splitFields Item.capReserveLevel.fields [3] = some [3]
    ∧ (List.zipWith FieldSpec.legal Item.capReserveLevel.fields [3]).all id = true ∧ new.consistent .capReserveLevel 0xFF = true
    ∧ new.get .capReserveLevel 0xFF ≠ bridged.cfs.working.get .capReserveLevel 0xFF
    ∧ Spec.reserveFalls { bridged with cfs.working := new } = true ∧ StageInv bridged ∧ RestInv bridged
    ∧ Spec.reserveFalls { run with cfs.working := new } = false ∧ SmokeInv run ∧ run.smu.levelView ≤ 3 := by
  refine ⟨arrives bridged 3 rfl (by decide) rfl (by decide), ?_, ?_, ?_, ?_, ?_, ?_, ?_, bridged_stage, bridged_rest, ?_, run_smoke, ?_⟩ <;>
    decide +kernel

theorem witness_ConfigValuesReadBack :
    Spec.writable 7 0xFF = some .accel ∧ splitFields Item.accel.fields [64] = some [64]
    ∧ (List.zipWith FieldSpec.legal Item.accel.fields [64]).all id = true
    ∧ List.zipWith FieldSpec.clamp Item.accel.fields [64] = [64]
    ∧ Spec.writable 6 16 = some .speedCurve ∧ ((6 : Byte), (16 : Byte)) ≠ (7, 0xFF) := by decide +kernel

theorem witness_CommitStartsAndEnds :
    Spec.Arrives (host 0) 0 run ∧ run.hpt.slots.length < 4 ∧ run.inReset = false ∧ run.cfs.writing = false
    ∧ { run with cfs.writing := true }.cfs.writing = true :=
  ⟨run_arrives 0 (by decide), by decide, rfl, rfl, rfl⟩

theorem witness_HostPortTurnsAway :
    let short : Head := ⟨.host, 3, 0, 7⟩
    let s : State := { run with hpt.slots := List.replicate 4 ⟨.measure, 1⟩ }
    let l : State := { loading with hpt.transaction := .receiving }
    Spec.record (.read short 0 0) = some (short, 0x10, 2) ∧ short.source = .host ∧ run.inReset = false
    ∧ run.hpt.transaction = .receiving ∧ short.length.toNat < 4
    ∧ Spec.record (.read (host 2) 0 0) = some (host 2, 0x10, 2) ∧ 4 ≤ (host 2).length.toNat ∧ l.rcu.views.powerState = .load
    ∧ l.hpt.transaction = .receiving ∧ Spec.record (.haltNow (host 2)) = some (host 2, 0x18, 0) ∧ run.rcu.views.powerState ≠ .load
    ∧ (host 2).length.toNat ≠ 4 + 0
    ∧ Spec.record (.measure (host 1) 21) = some (host 1, 0x20, 1) ∧ (host 1).length.toNat = 4 + 1 ∧ 4 ≤ s.hpt.slots.length
    ∧ Spec.record (.configWrite (host 1) 54 0xFF []) = some (host 1, 0x31, 2) ∧ (host 1).length.toNat ≠ 4 + 2
    ∧ (host 0).length.toNat = 4 ∧ 53 < (54 : Byte).toNat := by decide

theorem witness_HostTransactionsBeginAndEnd :
    let k : State := { run with hpt.transaction := .kind }
    loading.inReset = false ∧ loading.hpt.selectLow = false ∧ run.hpt.selectLow = true ∧ k.inReset = false ∧ k.hpt.transaction = .kind
    ∧ run.hpt.transaction = .receiving
    ∧ (0x19 : Byte) ∉ ([0x10, 0x11, 0x12, 0x13, 0x14, 0x15, 0x16, 0x17, 0x18, 0x20, 0x21, 0x22, 0x23, 0x24, 0x30, 0x31, 0x32] : List Byte)
    ∧ (0 : Byte) ∉ ([0x01, 0x02, 0x03] : List Byte) ∧ (4 : Byte) ∉ ([0x01, 0x02, 0x03] : List Byte)
    ∧ (host 0).source = .host ∧ 4 ≤ (host 0).length.toNat ∧ k.rcu.views.powerState ≠ .load := by decide

/-- LOAD, with a SCENE_WAITING in the queue, and an ERROR behind it. -/
theorem witness_HostTransactionsBeginAndEnd_load :
    let k : State := { loading with hpt.transaction := .kind, hpt.notices := [.sceneWaiting .a] }
    k.inReset = false ∧ k.hpt.transaction = .kind ∧ k.rcu.views.powerState = .load ∧ (∀ r c, Notice.error r c ∉ k.hpt.notices)
    ∧ { k with hpt.notices := [.sceneWaiting .a, .error 0x11 .busy] }.hpt.notices = [.sceneWaiting .a] ++ .error 0x11 .busy :: [] := by
  refine ⟨rfl, rfl, rfl, fun r c h => ?_, rfl⟩
  simp at h

theorem witness_NoticesQueueOrDrop :
    let c : Notice := .completion 1 .done 0
    let e : Notice := .shedStage 0
    (List.replicate 15 e).length < 16 ∧ 16 ≤ (List.replicate 16 e).length
    ∧ [c, c] ++ List.replicate 14 e = [c, c] ++ e :: List.replicate 13 e
    ∧ 16 ≤ (List.replicate 16 c).length ∧ (List.replicate 16 c).all (fun m => !m.isEvent) = true
    ∧ run.inReset = false ∧ { run with hpt.transaction := .kind }.hpt.transaction = .kind
    ∧ run.rcu.views.powerState ≠ .load := by decide

theorem witness_RadioBytesAssemble :
    let collecting : State := { run with rif.assembly := .collecting, rif.frameLen := 8, rif.collected := List.replicate 7 0
                                         rif.interByte := .running 32000 }
    run.inReset = false ∧ run.rif.assembly = .idle ∧ 8 ≤ (8 : Byte).toNat ∧ (46 : Byte).toNat ≤ 46 ∧ (7 : Byte).toNat < 8
    ∧ 46 < (47 : Byte).toNat ∧ collecting.rif.assembly = .collecting
    ∧ collecting.rif.frameLen ≤ (collecting.rif.collected ++ [(0 : Byte)]).length ∧ (List.replicate 7 (0 : Byte)).length < 8
    ∧ collecting.rif.interByte = .running 32000
    ∧ { run with rif.assembly := .discarding }.rif.assembly = .discarding
    ∧ 8 ≤ (List.replicate 8 (0 : Byte)).length ∧ (List.replicate 46 (0 : Byte)).length ≤ 46 := by decide

/-- A completed frame with one request of throttle 9 for this locomotive. -/
def frame : CompletedFrame := ⟨Spec.frameBytes 3 9 57 [[0x14, 9, 0, 5, 3, 0, 0, 0, 0x04]], 16000, false, 3, 0⟩

theorem witness_BadFramesAreCountedAndDropped :
    let bad : CompletedFrame := { frame with bytes := frame.bytes.take 15 ++ [0] }
    run.rif.handling = none ∧ 8 ≤ bad.bytes.length ∧ Spec.raised bad run.rif = some { run.rif.counts with crc := 1 }
    ∧ Spec.raised { frame with duringLoad := true } run.rif = some { run.rif.counts with notReady := 1 }
    ∧ Spec.raised { frame with address := 4 } run.rif = some { run.rif.counts with notMine := 1 }
    ∧ Spec.raised frame { run.rif with throttles := [⟨9, 57, 16000⟩] } = some { run.rif.counts with duplicate := 1 } := by decide +kernel

theorem witness_FramesReadBack :
    let c : Instr := .flip ⟨.throttle 9, 9, 0, 5⟩ 3 0x04
    (9 : Byte) ≠ 0 ∧ (9 : Byte) ≠ 255 ∧ 1 ≤ [c].length ∧ [c, c, c, c].length ≤ 4 ∧ [c].all (Spec.carried 9) = true
    ∧ [c].map Spec.recordBytes = [[0x14, 9, 0, 5, 3, 0, 0, 0, 0x04]].map some
    ∧ (Spec.frameBytes 3 9 57 (List.replicate 4 [0x14, 9, 0, 5, 3, 0, 0, 0, 0x04])).length ≤ 46
    ∧ frame.bytes = Spec.frameBytes 3 9 57 [[0x14, 9, 0, 5, 3, 0, 0, 0, 0x04]] := by decide +kernel

/-- A frame in handling, with one request answered and one to come. -/
def midFrame : FrameRun :=
  { thr := 9, seq := 57, addr := .locomotive, consist := none, waiting := [⟨0x14, false, 5, [3, 0, 0, 0, 0x04]⟩]
    answered := [(⟨0x18, true, 0, []⟩, none)] }

theorem witness_AFrameDoesItsRequest :
    let s : State := { run with rif.completed := [frame], frameBreaks := [0] }
    let raw : RawRecord := ⟨0x14, false, 5, [3, 0, 0, 0, 0x04]⟩
    s.rif.completed = frame :: [] ∧ run.rif.completed = [] ∧ s.inReset = false ∧ s.rif.handling = none ∧ s.rcu.views.powerState ≠ .load
    ∧ 8 ≤ frame.bytes.length ∧ Spec.raised frame s.rif = none ∧ Spec.dest frame = frame.address
    ∧ splitRecords (Spec.at' frame 4).toNat (Spec.requestBytes frame) = some [raw]
    ∧ Spec.commandOf (Spec.at' frame 2) raw = some (.flip ⟨.throttle 9, 9, 0, 5⟩ 3 0x04) := by decide +kernel

theorem witness_AFrameDoesItsRequest_kept :
    { known with rif.handling := some midFrame }.rif.handling = some midFrame ∧ midFrame.Fits
    ∧ (∃ e ∈ known.rif.throttles, e.id = midFrame.thr)
    ∧ (Spec.record (.flip (radio 12 5) 3 1)).map (·.1) = some (radio 12 5) ∧ (radio 12 5).source ≠ .host :=
  ⟨rfl, ⟨by decide, by decide, by decide, by decide⟩, ⟨_, .head _, rfl⟩, rfl, by decide⟩

/-- R35: a known throttle, a FREE entry, and a full table, in which the holder's entry is the oldest and two of the others are as old. -/
theorem witness_heard :
    let full : List ThrottleEntry := [⟨9, 0, 1⟩, ⟨12, 0, 5⟩, ⟨8, 0, 5⟩, ⟨4, 0, 7⟩, ⟨5, 0, 7⟩, ⟨6, 0, 7⟩, ⟨7, 0, 7⟩, ⟨3, 0, 7⟩]
    Spec.tableAfter 9 57 20 .none [⟨9, 0, 1⟩] = [⟨9, 57, 20⟩] ∧ Spec.tableAfter 2 57 20 .none [⟨9, 0, 1⟩] = [⟨9, 0, 1⟩, ⟨2, 57, 20⟩]
    ∧ Spec.victim (.throttle 9) full = some ⟨8, 0, 5⟩ ∧ (Spec.tableAfter 2 57 20 (.throttle 9) full).length = 8 := by decide +kernel

/-- A frame of two records, one of them posted, and one that is no command, for the consist and for all. -/
theorem witness_AFrameDoesItsRequest_group :
    let records : List (List Byte) := [[0x11, 9, 0, 5, 1, 0, 0, 0, 0], [0x18, 3, 1], [0x99, 4, 0, 6]]
    let f (dest : Nat) : CompletedFrame := ⟨Spec.frameBytes dest 9 57 records, 16000, false, 3, 5⟩
    let raws : List RawRecord := [⟨0x11, false, 5, [1, 0, 0, 0, 0]⟩, ⟨0x18, true, 0, []⟩, ⟨0x99, false, 6, []⟩]
    Spec.raised (f 10005) run.rif = none ∧ Spec.dest (f 10005) = 10000 + 5 ∧ 10005 ≠ (f 10005).address ∧ 1 ≤ (f 10005).consistNumber
    ∧ splitRecords (Spec.at' (f 10005) 4).toNat (Spec.requestBytes (f 10005)) = some raws
    ∧ Spec.raised (f 0) run.rif = none ∧ Spec.dest (f 0) = 0 ∧ 0 ≠ (f 0).address
    ∧ splitRecords (Spec.at' (f 0) 4).toNat (Spec.requestBytes (f 0)) = some raws
    ∧ raws.filter (fun r => r.kind == 0x18 && r.operands.isEmpty) = [⟨0x18, true, 0, []⟩]
    ∧ Spec.commandOf 9 ⟨0x99, false, 6, []⟩ = none := by decide +kernel

theorem witness_RepliesLeaveAndEntriesAge :
    let r : Reply := ⟨9, 3, 57, 0, .idle, .forward, .none, false, true, .run, []⟩
    let s : State := { run with rif.replies := [r], rif.sending := some r, rif.throttles := [⟨9, 57, 16000⟩] }
    s.inReset = false ∧ s.rif.sending ≠ none ∧ run.rif.sending = none
    ∧ s.rif.throttles.find? (fun e => e.id == 9) = some ⟨9, 57, 16000⟩ ∧ s.rif.holderView ≠ .throttle 9
    ∧ { s with rif.holderView := .throttle 9 }.rif.holderView = .throttle 9
    ∧ s.rif.handling.map (·.thr) ≠ some 9 ∧ { s with rif.handling := some midFrame }.rif.handling.map FrameRun.thr = some 9
    ∧ (Spec.record (.claim (radio 200 2) 0 200)).map (·.1) = some (radio 200 2) ∧ (radio 200 2).source = .throttle 200
    ∧ s.rcu.views.powerState ≠ .load ∧ 4 ≤ (radio 200 2).length.toNat ∧ s.rif.handling = none
    ∧ (∀ e ∈ s.rif.throttles, e.id ≠ 200) := by decide

/-- A gap sample to take. -/
def sampled : State := { run with moc.samples := [⟨1500, 1500, 100, 8191⟩], btg.samples := [⟨1500, 1500, 100, 8191⟩] }

theorem witness_ControlStepMovesTheTrain : sampled.moc.samples = ⟨1500, 1500, 100, 8191⟩ :: [] ∧ sampled.inReset = false ∧ RestInv sampled :=
  ⟨rfl, rfl, by constructor <;> decide⟩

theorem witness_RampAndCeilingKeepTheirRanges :
    65520 ≤ 65520 ∧ 1023 ≤ 1023 ∧ 3000 < 3001 ∧ 0 < 1023 ∧ 3000 ≤ 3000 ∧ 0 < 65520 ∧ 0 < 32 ∧ false = false := by decide

theorem witness_PeriodStartDecidesTheBridges :
    run.inReset = false ∧ run.bmu.running = true ∧ run.bmu.front.drivenSince = none ∧ run.bmu.rear.drivenSince = none
    ∧ loading.bmu.running = false ∧ (Spec.closed { run.bmu.rear with compare := 200, drivenSince := some 8 } 0 512).driveCounts = 192
    ∧ (Spec.closed { run.bmu.rear with drivenSince := some 0 } 0 512).driveCounts = run.bmu.rear.driveCounts := by decide

theorem witness_CompareAndDeadIntervalMoveTheLegs :
    let b : Bridge := { output := .driving, legA := .on .high, legB := .on .low, compare := 134, drivenSince := some 0 }
    let d : Bridge := { output := .braking, legA := .dead .low 8 }
    let s : State := { run with bmu.front := b, bmu.rear := d }
    s.inReset = false ∧ s.bmu.running = true ∧ (s.bmu.bridge .front).drivenSince = some 0 ∧ (s.bmu.bridge .front).output = .driving
    ∧ (s.bmu.bridge .front).legA.isOn = true ∧ (s.bmu.bridge .front).legB.isOn = true ∧ (s.bmu.bridge .rear).output ≠ .driving
    ∧ Spec.legOf (s.bmu.bridge .rear) .a = .dead .low 8 ∧ Spec.waits (Spec.legOf (s.bmu.bridge .rear) .b) = false := by decide

theorem witness_TheGapMakesOneSample :
    let s : State := { run with
      bmu.converting := some (.trackV, 160), bmu.conversions := List.replicate 6 .capV, bmu.settleTimer := .running 4800
      bmu.gapConversion := .running 4960 }
    s.inReset = false ∧ FaultInv s ∧ s.bmu.controlTimer = .running 80000 ∧ s.bmu.conversions.length ≤ 6 ∧ run.bmu.converting = none
    ∧ s.bmu.settleTimer = .running 4800 ∧ s.bmu.gapConversion = .running 4960
    ∧ Spec.waiting (fun c => if c = .current .rear then some 5 else none)
        [⟨.current .rear, 7, false⟩, ⟨.dieT, 8, true⟩, ⟨.current .rear, 9, true⟩] = [⟨.dieT, 8, true⟩, ⟨.current .rear, 9, false⟩] :=
  ⟨rfl, ⟨run_faults.waits, run_faults.probation, run_faults.openTest, run_faults.shorted, run_faults.retries, run_faults.shown,
    run_faults.motion, run_faults.beats, run_faults.lights, run_faults.heater, run_faults.smoke, run_faults.summary⟩, by decide⟩

theorem witness_ConversionsServeTheirChannels :
    let s : State := { run with bmu.converting := some (.heaterT, 160), bmu.conversions := List.replicate 5 .capV }
    s.inReset = false ∧ SmokeInv s ∧ s.smu.tickTimer = .running 1600000 ∧ s.bmu.conversions.length ≤ 5
    ∧ run.bmu.dieTimer = .running 1600000 ∧ run.bmu.conversions.length ≤ 7 ∧ run.bmu.converting = none
    ∧ s.bmu.converting = some (.heaterT, 160) ∧ s.hpt.notices.length ≤ 8 ∧ s.bmu.slots.length ≤ 4
    ∧ (Spec.completed (fun c => if c = .heaterT then some 5 else none) [⟨.heaterT, 7, false⟩, ⟨.heaterT, 8, true⟩, ⟨.heaterT, 9, false⟩]
        s).hpt.notices = [.completion 7 .done 5, .completion 9 .done 5] :=
  ⟨rfl, by constructor <;> decide, by decide⟩

theorem witness_DieResultsMoveTheThermalPart :
    let s : State := { run with bmu.converting := some (.dieT, 160) }
    s.bmu.converting = some (.dieT, 160) ∧ s.inReset = false ∧ StageInv s ∧ RestInv s :=
  ⟨rfl, rfl, by constructor <;> decide, by constructor <;> decide⟩

theorem witness_ComparatorsReachThePower :
    let s : State := { run with bmu.capReserve := true, pws.powerState := .bridge }
    run.inReset = false ∧ run.bmu.running = true ∧ run.pws.powerState ≠ .bridge ∧ s.pws.powerState = .bridge
    ∧ Spec.compared (500 + 50 * s.cfs.working.capReserveLevel.val) 10 539 true = false ∧ s.bmu.capReserve = true
    ∧ Spec.compared (500 + 50 * s.cfs.working.capReserveLevel.val) 10 540 true = true := by decide

theorem witness_PowerTimersMoveThePower :
    let s : State := { run with
      pws.qualification := .running 16000, pws.bridgeTimer := .running 8000000, pws.settleTimer := .running 1600000
      pws.sagTimer := .running 320000 }
    s.inReset = false ∧ StageInv s ∧ RestInv s ∧ s.pws.qualification = .running 16000 ∧ s.pws.bridgeTimer = .running 8000000
    ∧ s.pws.settleTimer = .running 1600000 ∧ s.pws.sagTimer = .running 320000 ∧ s.pws.resumeView = false
    ∧ Spec.afterTrack s.pws false = .bridge ∧ Spec.afterTrack { s.pws with reserveView := false } false = .halt
    ∧ Spec.afterTrack { s.pws with powerState := .halt } true = .settle ∧ Spec.afterTrack { s.pws with powerState := .bridge } true = .run :=
  ⟨rfl, by constructor <;> decide, by constructor <;> decide, rfl, rfl, rfl, rfl, rfl, rfl, rfl, rfl, rfl⟩

/-- A rise to stage 4 at the bridge limit, with BridgeInv, and the end of suspension, with a direction still to settle. -/
theorem witness_PowerTimersMoveThePower_stages :
    let turned : State := { settling with moc.directionView := .reverse }
    StageInv bridged ∧ RestInv bridged ∧ bridged.pws.bridgeTimer = .running 8000000 ∧ bridged.pws.shedStage < 4
    ∧ StageInv settling ∧ RestInv settling ∧ settling.pws.settleTimer = .running 1600000 ∧ settling.pws.shedStage = 4
    ∧ Spec.seed settling.moc = 1440 ∧ (Spec.resumed turned.moc 0).motionState = .reversing
    ∧ (Spec.resumed { turned.moc with notch := 0 } 0).runDirection = .reverse
    ∧ BridgeInv run ∧ StageInv run ∧ { run with smu.state := .warming }.smu.state = .warming
    ∧ (Spec.resumed { settling.moc with emergencyLatch := true } 0).motionState = .emergency :=
  ⟨bridged_stage, bridged_rest, rfl, by decide, settling_stage, settling_rest, rfl, rfl, by decide +kernel, by decide +kernel,
    by decide +kernel, run_bridges, run_stage, rfl, by decide +kernel⟩

theorem witness_AShortTripsTheOutput :
    let s : State := { run with ltc.lights := run.ltc.lights.set 5 { level := 255, pwm := ⟨255, true⟩ }, bmu.front.legA := .on .low }
    s.inReset = false ∧ Spec.switched s (.light 5) = true ∧ (s.odu.watch (.light 5)).record.state = .ok ∧ Spec.shortLevel (.light 5) < 251
    ∧ Spec.switched s (.truck .front) = true ∧ Spec.shortLevel (.truck .front) < 4001 ∧ Spec.switched run (.light 5) = false
    ∧ 250 ≤ Spec.shortLevel (.light 5) ∧ s.hpt.notices.length ≤ 13 := by decide +kernel

theorem witness_RetriesProbationsAndOpensEnd :
    let s : State := { run with
      odu.watches := ((run.odu.watches.set 1 { record := ⟨false, true, .shortWait, 3⟩, retry := .running 16000000 }).set 3
        { probation := .running 16000000 }).set 15 { openTimer := .running 8000000, command := 255 } }
    s.inReset = false ∧ (s.odu.watch (.truck .rear)).retry = .running 16000000 ∧ (s.odu.watch (.truck .rear)).record.shorted = true
    ∧ (s.odu.watch .fan).probation = .running 16000000 ∧ (s.odu.watch (.light 11)).openTimer = .running 8000000
    ∧ s.hpt.notices.length ≤ 13 := by decide +kernel

/-- Measurements of the heater and of a truck: low at the open-command level, and not low with OPEN set. -/
theorem witness_RetriesProbationsAndOpensEnd_measured :
    let w : Watch := { command := 64 }
    let s : State := { run with
      bmu.converting := some (.heaterI, 160), bmu.gapConversion := .running 160, bmu.front.charge := 199, bmu.front.driveCounts := 1 }
    s.inReset = false ∧ SmokeInv s ∧ s.bmu.converting = some (.heaterI, 160) ∧ Spec.outputOf .heaterI = some .heater
    ∧ s.bmu.gapConversion = .running 160 ∧ s.bmu.slots = []
    ∧ Spec.judged .heater 74 160 w = { w with openTimer := .running 8000160 } ∧ Spec.judged .heater 74 160 { command := 63 } = { command := 63 }
    ∧ Spec.judged (.truck .front) 199 160 { command := 256 } = { command := 256, openTimer := .running 8000160 }
    ∧ Spec.judged (.light 0) 13 160 { command := 1, record.opened := true } = { command := 1 } :=
  ⟨rfl, by constructor <;> decide, rfl, rfl, rfl, rfl, rfl, rfl, rfl, rfl⟩

theorem witness_SamplesAndEdgesMakeBeats :
    sampled.btg.samples = ⟨1500, 1500, 100, 8191⟩ :: [] ∧ sampled.inReset = false
    ∧ sampled.btg.beatIndex < 2 * (sampled.btg.beatsInUse.val + 1)
    ∧ { sampled with btg.beatIndex := 3 }.btg.beatIndex < 2 * (sampled.btg.beatsInUse.val + 1)
    ∧ sampled.smu.state ≠ .regulating ∧ { sampled with smu.state := .regulating }.smu.state = .regulating := by decide

theorem witness_AudioSamplesMixTheVoices :
    let v : Voice := { state := .loop, clip := 0, gain := 255, fetch := .active, buffer := [1, 2], burst := some 2 }
    let s : State := { run with ssq.voices := run.ssq.voices.set 1 v, ssq.transfer := some (.burst 1 0 2) }
    s.inReset = false ∧ s.ssq.sampleTimer = .running 1000 ∧ s.ssq.shedView ≠ 4 ∧ loading.ssq.shedView = 4
    ∧ run.ssq.transfer = none ∧ s.ssq.transfer = some (.burst 1 0 2) ∧ { run with ssq.transfer := some .header }.ssq.transfer = some .header
    ∧ (s.ssq.voices[1]).burst = some 2 ∧ 2 ≤ [(1 : Byte), 2].length ∧ (s.ssq.voices[0]).burst = none
    ∧ Spec.served 5 (fun _ => { v with burst := none }) = some 0 ∧ Spec.served 5 (fun _ => {}) = none
    ∧ (Spec.sampled { v with buffer := [1], fetch := .done }).state = .silent
    ∧ Spec.sampled { v with buffer := [1], fetch := .paused, queued := some (2, 9) } = Spec.started 2 9 none
    ∧ Spec.boundary v ⟨0, 100, 10, 50⟩ = 50 ∧ (Spec.decided ⟨0, 100, 10, 50⟩ true v).fetchPos = 10 := by decide +kernel

theorem witness_RegulationStepsTheHeater :
    let s : State := { run with
      smu.state := .regulating, smu.levelView := 3, smu.results := [0], smu.fan := 40, smu.puffTimer := .running 960000
      odu.watches := run.odu.watches.set 3 { command := 40 }, rcu.views.smokeState := .regulating }
    s.smu.results = 0 :: [] ∧ s.inReset = false ∧ SmokeInv s ∧ s.smu.levelView ≤ 3 ∧ SmokeInv { run with smu.results := [0] }
    ∧ s.smu.puffTimer = .running 960000 :=
  ⟨rfl, rfl, by constructor <;> decide +kernel, by decide, by constructor <;> decide, rfl⟩

theorem witness_EightBitPwmSwitchesItsOutput : run.inReset = false := rfl

theorem witness_LightFramesComposeEveryOutput :
    let s : State := { run with bmu.conversions := List.replicate 7 .capV, bmu.converting := some (.capV, 160) }
    s.ltc.frameTimer = .running 160000 ∧ s.inReset = false ∧ s.bmu.conversions.length ≤ 7
    ∧ s.ltc.player ≠ .playing ∧ { s with ltc.player := .playing, ltc.remaining := 1 }.ltc.remaining ≤ 1 ∧ s.ltc.shedView < 4
    ∧ 1 < { s with ltc.player := .playing, ltc.remaining := 2 }.ltc.remaining := by decide

/-- The front of the queue for the witnesses of what every step keeps. -/
def waiting (c : Instr) : State := { driver with pending := [c] }

theorem witness_StepsKeepTheClaim : ClaimInv (waiting (.haltNow (host 0))) ∧ ∃ t, step (waiting (.haltNow (host 0))) = .next t :=
  ⟨by constructor <;> decide, _, rfl⟩

theorem witness_StepsKeepTheQueues :
    QueueInv (waiting (.measure (host 1) 21)) ∧ DeferredInv (waiting (.measure (host 1) 21))
    ∧ ∃ t, step (waiting (.measure (host 1) 21)) = .next t :=
  ⟨⟨by decide, by decide, by decide, by decide, by decide, by decide, nofun,
    fun _ h => nomatch (show (waiting (.measure (host 1) 21)).rif.handling = none from rfl).symm.trans h⟩, ⟨nofun, fun _ => rfl, fun _ => rfl, fun _ => rfl, nofun⟩, _, rfl⟩

theorem witness_StepsKeepTheStage :
    StageInv (waiting (.haltNow (host 0))) ∧ RestInv (waiting (.haltNow (host 0))) ∧ ∃ t, step (waiting (.haltNow (host 0))) = .next t :=
  ⟨by constructor <;> decide, by constructor <;> decide, _, rfl⟩

theorem witness_StepsKeepTheSmokeSafe :
    SmokeInv (waiting (.write (host 5) 4 1)) ∧ ∃ t, step (waiting (.write (host 5) 4 1)) = .next t :=
  ⟨by constructor <;> decide, _, rfl⟩

theorem witness_StepsKeepTheBridgesOff : BridgeInv (waiting .pwmPeriodStart) ∧ ∃ t, step (waiting .pwmPeriodStart) = .next t := by
  refine ⟨⟨nofun, nofun, nofun, nofun, by decide, by decide, by decide, by decide⟩, _, rfl⟩

theorem witness_StepsKeepTheFaultRecords :
    FaultInv (waiting (.clearFaults (host 2) 0xFFFF)) ∧ ∃ t, step (waiting (.clearFaults (host 2) 0xFFFF)) = .next t :=
  ⟨⟨run_faults.waits, run_faults.probation, run_faults.openTest, run_faults.shorted, run_faults.retries, run_faults.shown,
    run_faults.motion, run_faults.beats, run_faults.lights, run_faults.heater, run_faults.smoke, run_faults.summary⟩, _, rfl⟩

theorem witness_StepsKeepTheRanges : DriveInv (waiting .audioSample) ∧ SoundInv (waiting .audioSample) ∧ ∃ t, step (waiting .audioSample) = .next t :=
  ⟨⟨by constructor <;> decide, by constructor <;> decide, by decide, by decide, by decide, by decide⟩,
    ⟨by decide, by decide, by decide, by decide, by decide⟩, _, rfl⟩

end Sys2Proof.Tests
end

section
/-! SUPPORT. Requests as commands: the record a command lays at its port, the way to its owner, and the answer that leaves (R7, R14). -/

namespace Sys2Proof.Laws

open Sys2Proof.Machine

/-! ## From a command to its owner -/

/-- The request record that a command lays at a port, by its head and its body. -/
def requestOf : Instr → Option (Head × Body)
  | .read h f sel => some (h, .read f sel)
  | .write h f v => some (h, .write f v)
  | .add h f imm => some (h, .add f imm)
  | .keys h f m st => some (h, .keys f m st)
  | .flip h f m => some (h, .flip f m)
  | .swap h f v => some (h, .swap f v)
  | .claim h e n => some (h, .claim e n)
  | .release h c => some (h, .release c)
  | .haltNow h => some (h, .haltNow)
  | .measure h c => some (h, .measure c)
  | .play h v c g t => some (h, .play v c g t)
  | .refill h a => some (h, .refill a)
  | .sceneWrite h r st d codes => some (h, .sceneWrite r st d codes)
  | .clearFaults h o => some (h, .clearFaults o)
  | .configRead h i e => some (h, .configRead i e)
  | .configWrite h i e v => some (h, .configWrite i e v)
  | .commit h => some (h, .commit)
  | _ => none

/-- A request command has its record taken at the port, once the part is released. -/
theorem exec_request {c : Instr} {h : Head} {b : Body} (hc : requestOf c = some (h, b)) (s : State) :
    exec c s = whenReleased (takeRequest h b) s := by
  cases c <;> cases hc <;> rfl

/-- HALT_NOW, and it alone, is taken as posted: its kind code is 0x18 (R24, R190). -/
theorem alwaysPosted_eq (k : Kind) : k.alwaysPosted = (k.byte == 0x18) := by cases k <;> decide

/-- A code refuses exactly where it is neither DONE nor ACCEPTED. -/
theorem refuses_iff (c : Code) : c.refuses = true ↔ c ≠ .done ∧ c ≠ .accepted := by cases c <;> decide

/-! ## The answer -/

/-- The Host Port's answer is `Spec.answered`'s. -/
theorem hostAnswer_eq {h : Head} (src : h.source = .host) (k : Kind) (r : Answer × State) :
    hostAnswer k.byte (h.posted || k.alwaysPosted) h.tag r = Spec.answered h k.byte r.1 r.2 := by
  unfold hostAnswer Spec.answered
  rw [alwaysPosted_eq, src]
  simp only [Head.posted, Bool.and_eq_true, refuses_iff]
  rfl

/-- A throttle's entry of the reply is `Spec.answered`'s. -/
theorem radioAnswer_eq {h : Head} {id : Byte} (src : h.source = .throttle id) (k : Kind) (r : Answer × State) :
    { r.2 with rif := { r.2.rif with lastEntry := replyEntry k.byte (h.posted || k.alwaysPosted) h.tag r.1 } }
      = Spec.answered h k.byte r.1 r.2 := by
  unfold replyEntry Spec.answered
  rw [alwaysPosted_eq, src]
  have accepts : (r.1.code = .done ∨ r.1.code = .accepted) ↔ ¬r.1.code.refuses = true := by rw [refuses_iff]; tauto
  simp only [Head.posted, accepts, ite_not]
  rfl

/-- A posted READ, SWAP or CLAIM is refused by its owner as RIF refuses it (check 1 of R7). -/
theorem serve_neverPosted {b : Body} (hb : b.kind.neverPosted = true) (src : Source) (tag : Byte) (s : State) :
    serve src true tag b s = (refusal .badKind, s) := by
  cases b with
  | read f sel => rfl
  | swap f v => rfl
  | claim e n => rfl
  | _ => cases hb

/-- A request of a throttle that R39 lets through reaches its owner. -/
theorem radioServe_eq_serve (id : Byte) (posted : Bool) (tag : Byte) (b : Body) (s : State)
    (permitted : radioDenies s.cfg id b.kind = false) :
    radioServe id posted tag b.kind (some b) s = serve (.throttle id) posted tag b s := by
  unfold radioServe
  by_cases h : (posted && b.kind.neverPosted) = true
  · obtain ⟨rfl, never⟩ := Bool.and_eq_true_iff.mp h
    simp [never, serve_neverPosted never]
  · simp [h, permitted]

/-- A request that arrives whole, and that neither the deferred slots (R185) nor R39 turns away, is served and answered. -/
theorem takeRequest_eq {h : Head} {b : Body} {s : State} (arr : Spec.Arrives h b.operandBytes s)
    (room : h.source = .host → b.kind.deferred = true → s.hpt.slots.length < 4)
    (permitted : ∀ id, h.source = .throttle id → radioDenies s.cfg id b.kind = false) :
    takeRequest h b s =
      Spec.answered h b.kind.byte (serve h.source h.posted h.tag b s).1 (serve h.source h.posted h.tag b s).2 := by
  obtain ⟨_, loaded, whole, port⟩ := arr
  unfold takeRequest
  cases src : h.source with
  | host =>
    rw [src] at port
    simp only []
    rw [hostRequest_serves port loaded whole (room src), hostAnswer_eq src]
  | throttle id =>
    rw [src] at port
    obtain ⟨h0, h255, idle, known⟩ := port
    have heard : hearThrottle id s = s := by
      rcases hearThrottle_cases s id with ⟨_, e⟩ | ⟨unknown, _⟩
      · exact e
      · obtain ⟨e, he, same⟩ := known
        exact absurd same (unknown e he)
    simp only []
    rw [radioRequest_serves ⟨h0, h255⟩ loaded idle whole]
    simp only [heard, radioServe_eq_serve id h.posted h.tag b s (permitted id src)]
    rw [radioAnswer_eq src]

/-- The answer of a command whose request its owner serves, with the lease of the holder (R19) where it is accepted. -/
theorem exec_arrives {c : Instr} {h : Head} {b : Body} {s : State} (hc : requestOf c = some (h, b))
    (arr : Spec.Arrives h b.operandBytes s)
    (room : h.source = .host → b.kind.deferred = true → s.hpt.slots.length < 4)
    (permitted : ∀ id, h.source = .throttle id → radioDenies s.cfg id b.kind = false) :
    exec c s = .next (Spec.answered h b.kind.byte (serve h.source h.posted h.tag b s).1 (serve h.source h.posted h.tag b s).2) := by
  rw [exec_request hc, whenReleased, if_neg (by simp [arr.released]), takeRequest_eq arr room permitted]

/-- The refresh of the lease by an accepted request is `Spec.leased` (R19). -/
theorem refreshLease_eq {code : Code} (accepts : code.refuses = false) (src : Source) (s : State) :
    refreshLease src code s = Spec.leased src s := by
  have due : 16000 * (100 * s.cfs.working.leaseTime) = 1600000 * s.cfs.working.leaseTime := by omega
  unfold refreshLease Spec.leased
  simp [accepts, State.holds, startLease, onRcu, State.timer, State.cfg, Config.ms, due]

/-- A refused request leaves the lease. -/
theorem refreshLease_refused {code : Code} (refuses : code.refuses = true) (src : Source) (s : State) :
    refreshLease src code s = s := by
  simp [refreshLease, refuses]

/-- The answer leaves every block but the two ports. -/
@[simp] theorem answered_frame (h : Head) (kind : Byte) (a : Answer) (s : State) :
    (Spec.answered h kind a s).rcu = s.rcu ∧ (Spec.answered h kind a s).moc = s.moc ∧ (Spec.answered h kind a s).bmu = s.bmu
    ∧ (Spec.answered h kind a s).btg = s.btg ∧ (Spec.answered h kind a s).ssq = s.ssq ∧ (Spec.answered h kind a s).smu = s.smu
    ∧ (Spec.answered h kind a s).ltc = s.ltc ∧ (Spec.answered h kind a s).pws = s.pws ∧ (Spec.answered h kind a s).odu = s.odu
    ∧ (Spec.answered h kind a s).cfs = s.cfs := by
  unfold Spec.answered
  cases h.source with
  | host =>
    dsimp only
    split <;> exact ⟨rfl, rfl, rfl, rfl, rfl, rfl, rfl, rfl, rfl, rfl⟩
  | throttle id => exact ⟨rfl, rfl, rfl, rfl, rfl, rfl, rfl, rfl, rfl, rfl⟩

/-- What the Host Port holds after an accepted request of the host: no notice more, and the response record to shift out (R185). -/
theorem answered_host {h : Head} (src : h.source = .host) (kind : Byte) {a : Answer} (accepts : a.code.refuses = false) (s : State) :
    (Spec.answered h kind a s).rif = s.rif
    ∧ (Spec.answered h kind a s).hpt = { s.hpt with
        transaction := .sending, selectLow := true
        out := [0x00, 0x00] ++ (if h.control.getLsbD 0 || kind == 0x18 then []
          else [h.tag, a.code.byte, a.flags.byte, BitVec.ofNat 8 a.value.length] ++ a.value) } := by
  unfold Spec.answered
  rw [src]
  dsimp only
  rw [if_neg fun c => absurd accepts (by rw [(refuses_iff a.code).mpr c.2]; decide)]
  exact ⟨rfl, rfl⟩

/-- What is left to the throttle of an accepted request: its entry of the reply (R43). -/
theorem answered_throttle {h : Head} {id : Byte} (src : h.source = .throttle id) (kind : Byte) {a : Answer}
    (accepts : a.code.refuses = false) (s : State) :
    (Spec.answered h kind a s).hpt = s.hpt
    ∧ (Spec.answered h kind a s).rif = { s.rif with
        lastEntry := if h.control.getLsbD 0 || kind == 0x18 then none else some (.response ⟨h.tag, a⟩) } := by
  have done : a.code = .done ∨ a.code = .accepted := by
    by_contra c
    rw [not_or] at c
    rw [(refuses_iff a.code).mpr c] at accepts
    cases accepts
  unfold Spec.answered
  rw [src]
  dsimp only
  rw [if_pos done]
  exact ⟨rfl, rfl⟩

/-! ## The kinds that no port turns away -/

/-- A kind that every source may send and that no slot holds: all but MEASURE, CONFIG_WRITE and COMMIT. -/
def plainKind (k : Kind) : Bool := k != .measure && k != .configWrite && k != .commit

/-- Neither the deferred slots nor R39 turn a plain request away. -/
theorem plain_passes {b : Body} (plain : plainKind b.kind = true) :
    b.kind.deferred = false ∧ ∀ c id, radioDenies c id b.kind = false := by
  cases b with
  | measure c => cases plain
  | configWrite i e v => cases plain
  | commit => cases plain
  | _ => exact ⟨rfl, fun _ _ => rfl⟩

/-- A plain request that its owner accepts. -/
theorem exec_accepts {c : Instr} {h : Head} {b : Body} {s t : State} {a : Answer} (hc : requestOf c = some (h, b))
    (plain : plainKind b.kind = true) (arr : Spec.Arrives h b.operandBytes s)
    (owner : serveOwner h.source h.posted h.tag b s = (a, t)) (accepts : a.code.refuses = false) :
    exec c s = .next (Spec.accepted h b.kind.byte a t) := by
  obtain ⟨free, permitted⟩ := plain_passes plain
  rw [exec_arrives hc arr (fun _ d => absurd d (by simp [free])) (fun _ _ => permitted ..)]
  simp only [serve, owner, refreshLease_eq accepts, Spec.accepted]

/-- A plain request that its owner refuses. -/
theorem exec_refuses {c : Instr} {h : Head} {b : Body} {s t : State} {a : Answer} (hc : requestOf c = some (h, b))
    (plain : plainKind b.kind = true) (arr : Spec.Arrives h b.operandBytes s)
    (owner : serveOwner h.source h.posted h.tag b s = (a, t)) (refuses : a.code.refuses = true) :
    exec c s = .next (Spec.answered h b.kind.byte a t) := by
  obtain ⟨free, permitted⟩ := plain_passes plain
  rw [exec_arrives hc arr (fun _ d => absurd d (by simp [free])) (fun _ _ => permitted ..)]
  simp only [serve, owner, refreshLease_refused refuses]

end Sys2Proof.Laws
end

section
/-! SUPPORT. The part of the state that the claim, the drive fields and the run of a frame turn on, and every operation of the blocks that
leaves it. -/

namespace Sys2Proof.Laws

open Sys2Proof.Machine

/-- What the claim, the drive fields and the run of a frame turn on: RCU's own fields of both (R3, R15), the power state that RCU shows,
RIF's table, frame and holder view, LTC's FAILSAFE view, and whether the part is in device reset. -/
structure DriveCore where
  inReset      : Bool
  holder       : Holder
  lease        : Timer
  failsafe     : Bool
  direction    : Direction
  brake        : Nat
  targetNotch  : Nat
  power        : PowerState
  holderView   : Holder
  throttles    : List ThrottleEntry
  handling     : Option FrameRun
  lastEntry    : Option ReplyEntry
  failsafeView : Bool

/-- The drive core of a state. -/
def driveCore (s : State) : DriveCore where
  inReset := s.inReset
  holder := s.rcu.holder
  lease := s.rcu.lease
  failsafe := s.rcu.failsafe
  direction := s.rcu.direction
  brake := s.rcu.brake
  targetNotch := s.rcu.targetNotch
  power := s.rcu.views.powerState
  holderView := s.rif.holderView
  throttles := s.rif.throttles
  handling := s.rif.handling
  lastEntry := s.rif.lastEntry
  failsafeView := s.ltc.failsafeView

variable (s : State)

/-! ## Updates of components -/

@[simp] theorem core_pending (l : List Instr) : driveCore { s with pending := l } = driveCore s := rfl
@[simp] theorem core_now (n : Time) : driveCore { s with now := n } = driveCore s := rfl
@[simp] theorem core_freeIndex (n : Nat) : driveCore { s with freeIndex := n } = driveCore s := rfl
@[simp] theorem core_frameBreaks (l : List Nat) : driveCore { s with frameBreaks := l } = driveCore s := rfl
@[simp] theorem core_moc (m : Moc) : driveCore { s with moc := m } = driveCore s := rfl
@[simp] theorem core_bmu (m : Bmu) : driveCore { s with bmu := m } = driveCore s := rfl
@[simp] theorem core_btg (b : Btg) : driveCore { s with btg := b } = driveCore s := rfl
@[simp] theorem core_ssq (q : Ssq) : driveCore { s with ssq := q } = driveCore s := rfl
@[simp] theorem core_smu (u : Smu) : driveCore { s with smu := u } = driveCore s := rfl
@[simp] theorem core_pws (p : Pws) : driveCore { s with pws := p } = driveCore s := rfl
@[simp] theorem core_odu (d : Odu) : driveCore { s with odu := d } = driveCore s := rfl
@[simp] theorem core_cfs (c : Cfs) : driveCore { s with cfs := c } = driveCore s := rfl
@[simp] theorem core_hpt (h : Hpt) : driveCore { s with hpt := h } = driveCore s := rfl

@[simp] theorem core_onMoc (f : Moc → Moc) : driveCore (onMoc f s) = driveCore s := rfl
@[simp] theorem core_onBmu (f : Bmu → Bmu) : driveCore (onBmu f s) = driveCore s := rfl
@[simp] theorem core_onBtg (f : Btg → Btg) : driveCore (onBtg f s) = driveCore s := rfl
@[simp] theorem core_onSmu (f : Smu → Smu) : driveCore (onSmu f s) = driveCore s := rfl
@[simp] theorem core_onPws (f : Pws → Pws) : driveCore (onPws f s) = driveCore s := rfl
@[simp] theorem core_onCfs (f : Cfs → Cfs) : driveCore (onCfs f s) = driveCore s := rfl
@[simp] theorem core_onHpt (f : Hpt → Hpt) : driveCore (onHpt f s) = driveCore s := rfl

/-- A change of LTC that leaves its FAILSAFE view leaves the core. -/
theorem core_onLtc {f : Ltc → Ltc} (h : (f s.ltc).failsafeView = s.ltc.failsafeView) : driveCore (onLtc f s) = driveCore s := by
  unfold driveCore
  simp [h]

/-- A publication of any field but POWER_STATE leaves the core. -/
theorem core_publish {f : Views → Views} (h : (f s.rcu.views).powerState = s.rcu.views.powerState) :
    driveCore (publish f s) = driveCore s := by
  unfold driveCore
  simp [h]

/-! ## Shared operations -/

@[simp] theorem core_reach (due : Time) : driveCore (s.reach due) = driveCore s := rfl

@[simp] theorem core_pushNotice (n : Notice) : driveCore (pushNotice n s) = driveCore s := rfl

@[simp] theorem core_pushCompletion (k : Kind) (tag : Byte) (c : Code) (v : Word16) :
    driveCore (pushCompletion k tag c v s) = driveCore s := rfl

@[simp] theorem core_countRadio (f : RadioCounts → RadioCounts) : driveCore (countRadio f s) = driveCore s := rfl

@[simp] theorem core_takeCommand (o : Output) (n : Nat) : driveCore (takeCommand o n s) = driveCore s := rfl

@[simp] theorem core_mapWatch (o : Output) (f : Watch → Watch) : driveCore (mapWatch o f s) = driveCore s := rfl

@[simp] theorem core_startConversion : driveCore (startConversion s) = driveCore s := by
  unfold startConversion
  split <;> rfl

@[simp] theorem core_appendChannel (ch : Channel) : driveCore (appendChannel ch s) = driveCore s := by
  unfold appendChannel
  split <;> simp only [core_startConversion, core_bmu]

@[simp] theorem core_appendLight : driveCore (appendLight s) = driveCore s := by
  simp only [appendLight, core_appendChannel, core_bmu]

/-! ## The lights (chapter 8) -/

@[simp] theorem core_enterRow (r : SceneRow) : driveCore (enterRow r s) = driveCore s := by
  unfold enterRow
  split <;> rfl

@[simp] theorem core_evaluateScene : driveCore (evaluateScene s) = driveCore s := by
  unfold evaluateScene
  split
  · split <;> simp only [core_enterRow]
  · rfl

@[simp] theorem core_endRow : driveCore (endRow s) = driveCore s := by
  simp only [endRow, core_enterRow, core_pushNotice]

@[simp] theorem core_nextStep : driveCore (nextStep s) = driveCore s := by
  unfold nextStep
  simp only []
  split
  · exact core_endRow s
  · split
    · exact core_endRow s
    · rfl

@[simp] theorem core_advanceScene : driveCore (advanceScene s) = driveCore s := by
  unfold advanceScene
  split
  · simp only []
    split
    · rw [core_nextStep]; rfl
    · rfl
  · rfl

@[simp] theorem core_lightsTakeKeys (k : KeySet) : driveCore (lightsTakeKeys k s) = driveCore s := by
  rw [lightsTakeKeys, core_evaluateScene, core_onLtc]; rfl

@[simp] theorem core_lightsTakeMotion (n : Nat) (d : Direction) : driveCore (lightsTakeMotion n d s) = driveCore s := rfl

@[simp] theorem core_lightsTakeFault (n : Fin 12) (st : FaultState) : driveCore (lightsTakeFault n st s) = driveCore s := rfl

@[simp] theorem core_lightsTakeBeat : driveCore (lightsTakeBeat s) = driveCore s := rfl

@[simp] theorem core_handLevels : driveCore (handLevels s) = driveCore s :=
  foldl_keeps (P := fun t => driveCore t = driveCore s) (fun t _ h => (core_takeCommand t _ _).trans h) allLights s rfl

/-- The flash clock leaves the FAILSAFE view. -/
theorem advanceFlash_failsafeView (l : Ltc) : l.advanceFlash.failsafeView = l.failsafeView := by
  unfold Ltc.advanceFlash
  split <;> rfl

@[simp] theorem core_lightFrame : driveCore (lightFrame s) = driveCore s := by
  unfold lightFrame
  refine (core_advanceScene _).trans ((core_onLtc _ ?_).trans ?_)
  · exact advanceFlash_failsafeView _
  · rw [core_handLevels]
    rfl

/-- A shed stage leaves the FAILSAFE view. -/
theorem takeShed_failsafeView (l : Ltc) (stage : Nat) : (l.takeShed stage).failsafeView = l.failsafeView := by
  unfold Ltc.takeShed
  simp only []
  split <;> rfl

/-! ## The smoke unit (chapter 7) -/

@[simp] theorem core_setHeater (n : Nat) : driveCore (setHeater n s) = driveCore s := rfl

@[simp] theorem core_setFan (n : Nat) : driveCore (setFan n s) = driveCore s := rfl

@[simp] theorem core_fanBetween : driveCore (fanBetween s) = driveCore s := rfl

@[simp] theorem core_stopPuff : driveCore (stopPuff s) = driveCore s := rfl

@[simp] theorem core_enterSmoke (st : SmokeState) : driveCore (enterSmoke st s) = driveCore s := by
  have shown : driveCore (publish (fun v => { v with smokeState := st }) (onSmu (fun u => { u with state := st }) s)) = driveCore s := rfl
  simp only [enterSmoke, apply_ite driveCore, core_fanBetween, core_setFan, core_stopPuff, core_setHeater, core_pushNotice, shown, ite_self]

@[simp] theorem core_disarmDry : driveCore (disarmDry s) = driveCore s := rfl

@[simp] theorem core_setFluid (n : Nat) : driveCore (setFluid n s) = driveCore s := rfl

@[simp] theorem core_smokeTakeLevel (n : Nat) : driveCore (smokeTakeLevel n s) = driveCore s := by
  unfold smokeTakeLevel
  simp only []
  split <;> simp only [apply_ite driveCore, core_enterSmoke, core_disarmDry, core_onSmu, ite_self]

@[simp] theorem core_smokeTakeShed (n : Nat) : driveCore (smokeTakeShed n s) = driveCore s := by
  simp only [smokeTakeShed, apply_ite driveCore, core_enterSmoke, core_setHeater, core_onSmu, ite_self]

@[simp] theorem core_smokeTakeFault (r : FaultRecord) : driveCore (smokeTakeFault r s) = driveCore s := by
  simp only [smokeTakeFault, apply_ite driveCore, core_enterSmoke, core_onSmu, ite_self]

@[simp] theorem core_smokeTakeMotion (m : MotionState) : driveCore (smokeTakeMotion m s) = driveCore s := by
  simp only [smokeTakeMotion, apply_ite driveCore, core_fanBetween, core_onSmu, ite_self]

@[simp] theorem core_smokeTakeBeat : driveCore (smokeTakeBeat s) = driveCore s := by
  simp only [smokeTakeBeat, apply_ite driveCore, core_setFan, core_onSmu, ite_self]

@[simp] theorem core_smokeTempsChanged (n : Nat) : driveCore (smokeTempsChanged n s) = driveCore s := by
  simp only [smokeTempsChanged, apply_ite driveCore, core_disarmDry, ite_self]

@[simp] theorem core_capacityChanged : driveCore (capacityChanged s) = driveCore s := by
  simp only [capacityChanged, apply_ite driveCore, core_setFluid, ite_self]

@[simp] theorem core_fanPuffChanged : driveCore (fanPuffChanged s) = driveCore s := by
  simp only [fanPuffChanged, apply_ite driveCore, core_setFan, ite_self]

@[simp] theorem core_fanLevelChanged : driveCore (fanLevelChanged s) = driveCore s := by
  simp only [fanLevelChanged, apply_ite driveCore, core_fanBetween, ite_self]

@[simp] theorem core_regulateHeat : driveCore (regulateHeat s) = driveCore s := by
  simp only [regulateHeat, core_setHeater, apply_ite driveCore, core_enterSmoke, ite_self]

@[simp] theorem core_regulateDry : driveCore (regulateDry s) = driveCore s := by
  simp only [regulateDry, apply_ite driveCore, core_enterSmoke, core_regulateHeat, core_onSmu, ite_self]

@[simp] theorem core_debitFluid : driveCore (debitFluid s) = driveCore s := by
  simp only [debitFluid, apply_ite driveCore, core_setFluid, ite_self]

@[simp] theorem core_regulationStep (n : Nat) : driveCore (regulationStep n s) = driveCore s := by
  simp only [regulationStep, apply_ite driveCore, core_enterSmoke, core_regulateDry, core_debitFluid, core_onSmu, ite_self]

/-! ## Sound and beats (chapters 5 and 6) -/

@[simp] theorem core_raiseTrigger (t : Trigger) : driveCore (raiseTrigger t s) = driveCore s := rfl

@[simp] theorem core_publishSound : driveCore (publishSound s) = driveCore s := rfl

@[simp] theorem core_publishBeats : driveCore (publishBeats s) = driveCore s := rfl

@[simp] theorem core_emitBeat : driveCore (emitBeat s) = driveCore s := by
  simp only [emitBeat, core_lightsTakeBeat, core_smokeTakeBeat, core_ssq, core_publishBeats, core_onBtg]

@[simp] theorem core_beatSample (g : GapSample) : driveCore (beatSample g s) = driveCore s := by
  simp only [beatSample, apply_ite driveCore, core_emitBeat, core_onBtg, ite_self]

@[simp] theorem core_beatsTakeFault (t : Truck) (st : FaultState) : driveCore (beatsTakeFault t st s) = driveCore s := rfl

@[simp] theorem core_beatSourceChanged (b : BeatSource) : driveCore (beatSourceChanged b s) = driveCore s := by
  simp only [beatSourceChanged, apply_ite driveCore, core_onBtg, ite_self]

/-! ## The bridges (4.2 to 4.4) -/

@[simp] theorem core_setBridge (t : Truck) (b : Bridge) : driveCore (setBridge t b s) = driveCore s := rfl

@[simp] theorem core_cutDrive (t : Truck) : driveCore (cutDrive t s) = driveCore s := by
  rcases cutDrive_cases s t with ⟨_, e⟩ | ⟨_, _, _, e⟩ | ⟨_, _, _, e⟩ <;> rw [e] <;> rfl

@[simp] theorem core_switchOff (t : Truck) : driveCore (switchOff t s) = driveCore s := by
  simp only [switchOff, core_setBridge, core_cutDrive]

@[simp] theorem core_holdBridge (t : Truck) : driveCore (holdBridge t s) = driveCore s := by
  simp only [holdBridge, core_setBridge, core_switchOff]

@[simp] theorem core_releaseBridge (t : Truck) : driveCore (releaseBridge t s) = driveCore s := rfl

@[simp] theorem core_handMode (t : Truck) (m : BridgeMode) : driveCore (handMode t m s) = driveCore s := by
  unfold handMode
  simp only []
  split
  · rfl
  · cases m with
    | drive => rfl
    | coast => simp only [core_switchOff, core_setBridge]
    | shortBrake => simp only [apply_ite driveCore, core_setBridge, core_cutDrive, ite_self]

@[simp] theorem core_handDuty (t : Truck) (n : Nat) : driveCore (handDuty t n s) = driveCore s := rfl

@[simp] theorem core_handPolarity (d : Direction) : driveCore (handPolarity d s) = driveCore s := rfl

@[simp] theorem core_periodStart : driveCore (periodStart s) = driveCore s := by
  simp only [periodStart, core_bmu, core_cutDrive]

/-! ## The motion controller (chapter 3) -/

@[simp] theorem core_evaluateMotion : driveCore (evaluateMotion s) = driveCore s := by
  rcases evaluateMotion_cases s with ⟨_, e⟩ | ⟨_, e⟩ <;> rw [e]
  rw [core_pushNotice, core_smokeTakeMotion, core_publish, core_onMoc]
  rfl

@[simp] theorem core_zeroIntegrators : driveCore (zeroIntegrators s) = driveCore s := rfl

@[simp] theorem core_flipDirection : driveCore (flipDirection s) = driveCore s := by
  simp only [flipDirection, core_raiseTrigger, core_lightsTakeMotion, core_handPolarity]
  rw [core_publish _ rfl, core_zeroIntegrators, core_onMoc]

@[simp] theorem core_completeReversal : driveCore (completeReversal s) = driveCore s := by
  simp only [completeReversal, apply_ite driveCore, core_flipDirection, ite_self]

@[simp] theorem core_endSlip : driveCore (endSlip s) = driveCore s := by
  rcases endSlip_cases s with ⟨_, e⟩ | ⟨_, _, e⟩ <;> rw [e] <;> rfl

@[simp] theorem core_handDrive (t : Truck) (n : Nat) : driveCore (handDrive t n s) = driveCore s := by
  simp only [handDrive, core_takeCommand, core_handMode, core_handDuty]

@[simp] theorem core_handIdle : driveCore (handIdle s) = driveCore s := by
  simp only [handIdle, core_handDrive]

@[simp] theorem core_motionTakeDriveWrite (n : Nat) (changed : Bool) :
    driveCore (motionTakeDriveWrite n changed s) = driveCore s := by
  simp only [motionTakeDriveWrite, apply_ite driveCore, core_handIdle, core_evaluateMotion, core_onMoc, ite_self]

@[simp] theorem core_motionTakeStop : driveCore (motionTakeStop s) = driveCore s := rfl

@[simp] theorem core_motionTakeBrake (n : Nat) : driveCore (motionTakeBrake n s) = driveCore s := rfl

@[simp] theorem core_motionTakeDirection (d : Direction) : driveCore (motionTakeDirection d s) = driveCore s := by
  simp only [motionTakeDirection, apply_ite driveCore, core_flipDirection, core_evaluateMotion, core_onMoc, ite_self]

@[simp] theorem core_motionHalt : driveCore (motionHalt s) = driveCore s := by
  simp only [motionHalt, core_evaluateMotion, apply_ite driveCore, core_handMode, core_endSlip, core_zeroIntegrators,
    core_completeReversal, core_onMoc, ite_self]

@[simp] theorem core_motionCoast : driveCore (motionCoast s) = driveCore s := by
  simp only [motionCoast, apply_ite driveCore, core_handMode, core_endSlip, core_evaluateMotion, core_completeReversal, core_onMoc,
    ite_self]

@[simp] theorem core_motionTakeLoss (a : LossAction) : driveCore (motionTakeLoss a s) = driveCore s := by
  cases a with
  | ramp => rfl
  | brake => rfl
  | coast => simp only [motionTakeLoss, core_motionCoast, core_onMoc]

@[simp] theorem core_suspendMotion : driveCore (suspendMotion s) = driveCore s := by
  simp only [suspendMotion, core_endSlip, core_handMode, core_evaluateMotion, core_zeroIntegrators, core_onMoc]

@[simp] theorem core_resumeMotion (n : Nat) : driveCore (resumeMotion n s) = driveCore s := by
  simp only [resumeMotion, core_handIdle, core_evaluateMotion, apply_ite driveCore, core_flipDirection, core_onMoc, ite_self]

@[simp] theorem core_motionTakeShed (n : Nat) : driveCore (motionTakeShed n s) = driveCore s := by
  rcases motionTakeShed_cases n s with ⟨e, _⟩ | ⟨e, _⟩ | ⟨e, _⟩ | ⟨e, _⟩ <;> rw [e]
  · exact core_resumeMotion s n
  · exact core_suspendMotion s
  · rw [core_evaluateMotion, core_onMoc]

@[simp] theorem core_motionTakePower (p : PowerState) : driveCore (motionTakePower p s) = driveCore s := rfl

@[simp] theorem core_motionTakeFault (t : Truck) (st : FaultState) : driveCore (motionTakeFault t st s) = driveCore s := by
  simp only [motionTakeFault, apply_ite driveCore, core_endSlip, core_onMoc, ite_self]

@[simp] theorem core_motionTakeSettings : driveCore (motionTakeSettings s) = driveCore s := rfl

@[simp] theorem core_stageSample (g : GapSample) : driveCore (stageSample g s) = driveCore s := rfl

@[simp] theorem core_stageMomentum : driveCore (stageMomentum s) = driveCore s := by
  simp only [stageMomentum, apply_ite driveCore, core_completeReversal, core_raiseTrigger, core_onMoc, ite_self]

@[simp] theorem core_stageRegulation : driveCore (stageRegulation s) = driveCore s := rfl

@[simp] theorem core_stageLimiter : driveCore (stageLimiter s) = driveCore s := rfl

@[simp] theorem core_startSlip : driveCore (startSlip s) = driveCore s := rfl

@[simp] theorem core_stageSlip : driveCore (stageSlip s) = driveCore s := by
  unfold stageSlip
  split
  · split <;> simp only [apply_ite driveCore, core_startSlip, core_endSlip, core_onMoc, ite_self]
  · exact core_endSlip s

@[simp] theorem core_driveTruck (t : Truck) : driveCore (driveTruck t s) = driveCore s := by
  simp only [driveTruck, core_handDrive, core_onMoc]

@[simp] theorem core_stageDuty : driveCore (stageDuty s) = driveCore s := by
  simp only [stageDuty, core_driveTruck]

@[simp] theorem core_stagePublication : driveCore (stagePublication s) = driveCore s := by
  simp only [stagePublication, core_smokeTakeMotion, core_lightsTakeMotion, core_ssq]
  exact core_publish s rfl

@[simp] theorem core_controlStep (g : GapSample) : driveCore (controlStep g s) = driveCore s := by
  simp only [controlStep, core_stagePublication, core_stageDuty, core_stageSlip, core_stageLimiter, core_stageRegulation,
    core_evaluateMotion, core_stageMomentum, core_stageSample, core_motionTakeSettings]

/-! ## The diagnosis (chapter 10) -/

@[simp] theorem core_consumeRecord (o : Output) (r : FaultRecord) : driveCore (consumeRecord o r s) = driveCore s := by
  cases o with
  | truck t => simp only [consumeRecord, core_beatsTakeFault, core_motionTakeFault]
  | heater => exact core_smokeTakeFault s r
  | fan => rfl
  | light n => rfl

@[simp] theorem core_publishRecord (o : Output) : driveCore (publishRecord o s) = driveCore s := by
  rw [publishRecord, core_consumeRecord, core_publish]
  rfl

@[simp] theorem core_publishSummary : driveCore (publishSummary s) = driveCore s := by
  rcases publishSummary_cases s with ⟨_, e⟩ | ⟨_, e⟩ <;> rw [e]
  rfl

@[simp] theorem core_publishFault (o : Output) : driveCore (publishFault o s) = driveCore s := by
  simp only [publishFault, core_publishSummary, core_publishRecord]

@[simp] theorem core_switchOutputOff (o : Output) : driveCore (switchOutputOff o s) = driveCore s := by
  cases o with
  | truck t => exact core_holdBridge s t
  | _ => rfl

@[simp] theorem core_releaseOutput (o : Output) : driveCore (releaseOutput o s) = driveCore s := by
  cases o <;> rfl

@[simp] theorem core_takeTrip (o : Output) : driveCore (takeTrip o s) = driveCore s := by
  simp only [takeTrip, core_pushNotice, core_publishFault, core_mapWatch, core_switchOutputOff]

@[simp] theorem core_takeMeasurement (o : Output) (n : Nat) : driveCore (takeMeasurement o n s) = driveCore s := by
  simp only [takeMeasurement, apply_ite driveCore, core_publishFault, core_mapWatch, ite_self]

@[simp] theorem core_clearOutput (o : Output) : driveCore (clearOutput o s) = driveCore s := by
  simp only [clearOutput, core_publishRecord, core_mapWatch, apply_ite driveCore, core_releaseOutput, ite_self]

/-! ## The measurements (4.4 to 4.8) -/

@[simp] theorem core_completeSlots (v : Channel → Option Int) : driveCore (completeSlots v s) = driveCore s :=
  foldl_keeps (P := fun t => driveCore t = driveCore s) (fun t _ h => (core_pushCompletion t _ _ _ _).trans h) _
    (onBmu _ s) (core_onBmu s _)

@[simp] theorem core_publishSample : driveCore (publishSample s) = driveCore s := by
  simp only [publishSample, core_completeSlots, core_takeMeasurement, core_onBtg, core_onMoc, core_onBmu]

end Sys2Proof.Laws
end

section
/-! SUPPORT. What the power supervisor, the configuration store and the owners of the requests do to the drive core. -/

namespace Sys2Proof.Laws

open Sys2Proof.Machine

variable (s : State)

/-! ## The power state (chapter 9) -/

@[simp] theorem core_consumeStage (n : Nat) : driveCore (consumeStage n s) = driveCore s := by
  refine (core_onLtc _ (takeShed_failsafeView _ n)).trans ?_
  simp only [core_smokeTakeShed, core_motionTakeShed, core_ssq]

@[simp] theorem core_formStage : driveCore (formStage s) = driveCore s := by
  rcases formStage_cases s with ⟨_, e⟩ | ⟨_, e⟩ <;> rw [e]
  rw [core_consumeStage, core_pushNotice, core_publish _ rfl, core_onPws]

@[simp] theorem core_setSagTimer : driveCore (setSagTimer s) = driveCore s := rfl

@[simp] theorem core_stepSag : driveCore (stepSag s) = driveCore s := by
  simp only [stepSag, core_formStage, core_setSagTimer, core_onPws]

/-- A change of power state is the core's only change by PWS. -/
theorem core_enterPower (p : PowerState) : driveCore (enterPower p s) = { driveCore s with power := p } := by
  simp only [enterPower, core_formStage, apply_ite driveCore, core_setSagTimer, core_onPws, ite_self]
  rfl

/-- One core follows another by no more than a power state other than LOAD. -/
def PowerMoves (c d : DriveCore) : Prop := ∃ p, d = { c with power := p } ∧ (p = .load → c.power = .load)

theorem PowerMoves.of_eq {c d : DriveCore} (h : d = c) : PowerMoves c d := ⟨c.power, h, id⟩

theorem PowerMoves.trans {c d e : DriveCore} (h : PowerMoves c d) (k : PowerMoves d e) : PowerMoves c e := by
  obtain ⟨p, rfl, hp⟩ := h
  obtain ⟨q, rfl, hq⟩ := k
  exact ⟨q, rfl, fun l => hp (hq l)⟩

/-- PWS enters a power state other than LOAD, from a state with the core of `s`. -/
theorem enterPower_moves {s u : State} {p : PowerState} (h : driveCore u = driveCore s) (hp : p ≠ .load) :
    PowerMoves (driveCore s) (driveCore (enterPower p u)) :=
  ⟨p, by rw [core_enterPower, h], fun l => absurd l hp⟩

theorem enterHalt_moves : PowerMoves (driveCore s) (driveCore (enterHalt s)) := enterPower_moves (core_onPws s _) (by decide)

theorem enterRun_moves : PowerMoves (driveCore s) (driveCore (enterRun s)) := enterPower_moves (core_onPws s _) (by decide)

theorem enterBridge_moves : PowerMoves (driveCore s) (driveCore (enterBridge s)) := enterPower_moves (core_onPws s _) (by decide)

theorem enterSettle_moves : PowerMoves (driveCore s) (driveCore (enterSettle s)) := by
  unfold enterSettle
  split <;> exact enterPower_moves rfl (by decide)

theorem trackLost_moves : PowerMoves (driveCore s) (driveCore (trackLost s)) := by
  unfold trackLost
  cases s.pws.powerState with
  | run =>
    simp only []
    split
    · exact enterBridge_moves s
    · exact enterHalt_moves s
  | settle => exact enterHalt_moves s
  | _ => exact .of_eq rfl

theorem trackPresent_moves : PowerMoves (driveCore s) (driveCore (trackPresent s)) := by
  unfold trackPresent
  cases s.pws.powerState with
  | bridge => exact enterRun_moves s
  | halt => exact enterSettle_moves s
  | _ => exact .of_eq rfl

theorem qualifyTrack_moves : PowerMoves (driveCore s) (driveCore (qualifyTrack s)) := by
  unfold qualifyTrack
  simp only []
  split
  · exact .of_eq rfl
  · split
    · exact trackPresent_moves _
    · exact trackLost_moves _

theorem powerTakeComparator_moves (k : Comparator) (high : Bool) :
    PowerMoves (driveCore s) (driveCore (powerTakeComparator k high s)) := by
  cases k with
  | trackPresent => exact .of_eq rfl
  | trackSag =>
    refine .of_eq ?_
    simp only [powerTakeComparator, powerTakeSag, apply_ite driveCore, core_setSagTimer, core_onPws, ite_self]
  | capReserve =>
    simp only [powerTakeComparator, powerTakeReserve]
    split
    · exact enterHalt_moves _
    · exact .of_eq rfl
  | capResume =>
    refine .of_eq ?_
    simp only [powerTakeComparator, powerTakeResume, startDelay, apply_ite driveCore, core_onPws, ite_self]

@[simp] theorem core_powerTakeDie (v : Int) : driveCore (powerTakeDie v s) = driveCore s := by
  simp only [powerTakeDie, core_formStage, core_onPws]
  exact core_publish _ rfl

theorem endLoad_moves : PowerMoves (driveCore s) (driveCore (endLoad s)) := by
  unfold endLoad
  simp only []
  split
  · exact enterSettle_moves _
  · exact enterHalt_moves _

/-! ## Results and comparators (4.6, 4.8) -/

@[simp] theorem core_consumeResult (ch : Channel) (v : Int) : driveCore (consumeResult ch v s) = driveCore s := by
  cases ch with
  | heaterI => exact core_takeMeasurement s _ _
  | fanI => exact core_takeMeasurement s _ _
  | lightI n => exact core_takeMeasurement s _ _
  | dieT => exact core_powerTakeDie s v
  | _ => rfl

@[simp] theorem core_endConversion (ch : Channel) (v : Int) : driveCore (endConversion ch v s) = driveCore s := by
  simp only [endConversion, core_startConversion, core_completeSlots, core_consumeResult, core_onBmu]

theorem judgeComparator_moves (k : Comparator) : PowerMoves (driveCore s) (driveCore (judgeComparator k s)) := by
  rcases judgeComparator_cases s k with e | ⟨high, _, _, e⟩ <;> rw [e]
  · exact .of_eq rfl
  · exact powerTakeComparator_moves _ k high

/-! ## The configuration store (chapter 11) -/

theorem ownerTakes_moves (i : Item) (e : Nat) (old : Configuration) :
    PowerMoves (driveCore s) (driveCore (ownerTakes i e old s)) := by
  cases i with
  | trackPresentLevel => exact judgeComparator_moves s _
  | trackSagLevel => exact judgeComparator_moves s _
  | capReserveLevel => exact judgeComparator_moves s _
  | capResumeLevel => exact judgeComparator_moves s _
  | beatSource => exact .of_eq (core_beatSourceChanged s _)
  | smokeTemps => exact .of_eq (core_smokeTempsChanged s _)
  | fluidCapacity => exact .of_eq (core_capacityChanged s)
  | fanPuffLevel => exact .of_eq (core_fanPuffChanged s)
  | fanBetweenLevel => exact .of_eq (core_fanLevelChanged s)
  | fanIdleLevel => exact .of_eq (core_fanLevelChanged s)
  | sceneKey => exact .of_eq (core_evaluateScene s)
  | _ => exact .of_eq rfl

theorem applyConfig_moves (i : Item) (e : Nat) (ns : List Nat) : PowerMoves (driveCore s) (driveCore (applyConfig i e ns s)) := by
  unfold applyConfig
  simp only []
  split
  · exact .of_eq (core_onCfs s _)
  · exact ownerTakes_moves _ i e _

theorem serveConfigWrite_moves (item entry : Byte) (v : List Byte) :
    PowerMoves (driveCore s) (driveCore (serveConfigWrite item entry v s).2) := by
  unfold serveConfigWrite
  split
  · exact .of_eq rfl
  · split
    · exact .of_eq rfl
    · split
      · exact .of_eq rfl
      · split
        · exact .of_eq rfl
        · unfold writeItem
          split
          · exact .of_eq rfl
          · split
            · exact .of_eq rfl
            · exact applyConfig_moves s _ _ _

@[simp] theorem core_endCommit (good : Bool) : driveCore (endCommit good s) = driveCore s := by
  unfold endCommit
  simp only []
  cases s.cfs.origin with
  | none => rfl
  | host tag => rfl
  | throttle id => rfl

/-! ## Changes of the record's fields (R6) -/

theorem core_setNotch (n : Nat) : driveCore (setNotch n s) = { driveCore s with targetNotch := n } := by
  simp only [setNotch, core_motionTakeDriveWrite]
  rfl

theorem core_setBrake (n : Nat) : driveCore (setBrake n s) = { driveCore s with brake := n } := by
  unfold setBrake
  split
  · rename_i same
    rw [same]
    rfl
  · rfl

theorem core_setDirection (d : Direction) : driveCore (setDirection d s) = { driveCore s with direction := d } := by
  unfold setDirection
  split
  · rename_i same
    rw [same]
    rfl
  · rw [core_motionTakeDirection]
    rfl

theorem core_stopNotch : driveCore (stopNotch s) = { driveCore s with targetNotch := 0 } := by
  unfold stopNotch
  split
  · rename_i same
    rw [← same]
    rfl
  · rfl

@[simp] theorem core_setKeys (k : KeySet) : driveCore (setKeys k s) = driveCore s := by
  simp only [setKeys, apply_ite driveCore, core_lightsTakeKeys, core_ssq]
  exact ite_self _

@[simp] theorem core_setSmokeLevel (n : Nat) : driveCore (setSmokeLevel n s) = driveCore s := by
  simp only [setSmokeLevel, apply_ite driveCore, core_smokeTakeLevel]
  exact ite_self _

@[simp] theorem core_setVolume (n : Nat) : driveCore (setVolume n s) = driveCore s := by
  unfold setVolume
  split <;> rfl

theorem core_setFailsafe (b : Bool) : driveCore (setFailsafe b s) = { driveCore s with failsafe := b, failsafeView := b } := rfl

theorem core_startLease :
    driveCore (startLease s) = { driveCore s with lease := s.timer (Config.ms (100 * s.cfg.leaseTime)) } := rfl

/-! ## One core after another -/

/-- One core follows another by no more than the drive fields and a power state other than LOAD. -/
def FieldsMove (c d : DriveCore) : Prop :=
  ∃ dir b n p, d = { c with direction := dir, brake := b, targetNotch := n, power := p } ∧ (p = .load → c.power = .load)

/-- The drive fields stay as a command of any other than the drive holder leaves them: TARGET_NOTCH may become 0 (R3). -/
def DriveStays (c d : DriveCore) : Prop :=
  d.direction = c.direction ∧ d.brake = c.brake ∧ (d.targetNotch = c.targetNotch ∨ d.targetNotch = 0)

theorem DriveStays.trans {c d e : DriveCore} (h : DriveStays c d) (k : DriveStays d e) : DriveStays c e := by
  obtain ⟨hd, hb, hn⟩ := h
  obtain ⟨kd, kb, kn⟩ := k
  refine ⟨kd.trans hd, kb.trans hb, ?_⟩
  rcases kn with kn | kn
  · rw [kn]
    exact hn
  · exact .inr kn

theorem PowerMoves.fields {c d : DriveCore} (h : PowerMoves c d) : FieldsMove c d := by
  obtain ⟨p, rfl, hp⟩ := h
  exact ⟨_, _, _, p, rfl, hp⟩

theorem PowerMoves.stays {c d : DriveCore} (h : PowerMoves c d) : DriveStays c d := by
  obtain ⟨p, rfl, _⟩ := h
  exact ⟨rfl, rfl, .inl rfl⟩

/-! ## The owners of the requests -/

/-- The checks of R7 refuse a request to change a field, or hand the field on, a drive field to the holder alone. -/
theorem guardField_cases (src : Source) (field : Byte) (defined : Field → Bool) (k : Field → Answer × State) :
    (∃ code, guardField src field defined s k = (refusal code, s))
    ∨ ∃ f, Field.ofByte field = some f ∧ (f.isDrive = true → s.rcu.holder = holderOf src)
      ∧ guardField src field defined s k = k f := by
  unfold guardField
  cases hf : Field.ofByte field with
  | none => exact .inl ⟨_, rfl⟩
  | some f =>
    simp only []
    by_cases h1 : (!f.writable) = true
    · exact .inl ⟨_, if_pos h1⟩
    rw [if_neg h1]
    by_cases h2 : (!defined f) = true
    · exact .inl ⟨_, if_pos h2⟩
    rw [if_neg h2]
    by_cases h3 : (f.isDrive && !s.holds src) = true
    · exact .inl ⟨_, if_pos h3⟩
    rw [if_neg h3]
    refine .inr ⟨f, rfl, fun drive => ?_, rfl⟩
    simpa [drive, State.holds] using h3

/-- The drive fields are the first three of the record (R190). -/
theorem isDrive_iff {b : Byte} {f : Field} (named : Field.ofByte b = some f) : f.isDrive = true ↔ b.toNat < 3 := by
  have small : b.toNat < 29 := (List.getElem?_eq_some_iff.mp named).1
  have table : ∀ n : Fin 29, (fieldTable[n.val]?).map Field.isDrive = some (decide (n.val < 3)) := by decide
  have := table ⟨b.toNat, small⟩
  simp only [Field.ofByte] at named
  rw [named, Option.map_some, Option.some.injEq] at this
  rw [this, decide_eq_true_iff]

/-- A numeric field that takes a value moves at most itself. -/
theorem setNumeric_moves (f : Field) (n : Nat) : FieldsMove (driveCore s) (driveCore (setNumeric f n s)) := by
  cases f with
  | targetNotch => exact ⟨_, _, n, _, core_setNotch s n, id⟩
  | brake => exact ⟨_, n, _, _, core_setBrake s n, id⟩
  | smokeLevel => exact (PowerMoves.of_eq (core_setSmokeLevel s n)).fields
  | volume => exact (PowerMoves.of_eq (core_setVolume s n)).fields
  | _ => exact (PowerMoves.of_eq rfl).fields

/-- A numeric field that is no drive field leaves the core. -/
theorem core_setNumeric {f : Field} (other : f.isDrive = false) (n : Nat) : driveCore (setNumeric f n s) = driveCore s := by
  cases f with
  | smokeLevel => exact core_setSmokeLevel s n
  | volume => exact core_setVolume s n
  | targetNotch => cases other
  | brake => cases other
  | _ => rfl

/-- A numeric field that takes a value moves the core as a drive field alone can. -/
theorem setNumeric_field (f : Field) (n : Nat) :
    FieldsMove (driveCore s) (driveCore (setNumeric f n s)) ∧ (f.isDrive = false → driveCore (setNumeric f n s) = driveCore s) :=
  ⟨setNumeric_moves s f n, fun other => core_setNumeric s other n⟩

/-- WRITE on a field that the checks of R7 have handed on (R9). -/
def writeField (f : Field) (v : Word32) (s : State) : Answer × State :=
  match f with
  | .direction => writeDirection v.toNat s
  | .keys => changeKeys v s
  | .restarted => writeRestarted v.toNat s
  | _ => writeNumeric f (f.top.getD 0) v.toNat s

/-- WRITE is `writeField` behind the checks of R7. -/
theorem serveWrite_eq (src : Source) (field : Byte) (v : Word32) :
    serveWrite src field v s = guardField src field (fun _ => true) s fun f => writeField f v s := by
  unfold serveWrite
  congr 1

/-- What the change of a field by WRITE does to the core (R9). -/
theorem writeField_moves (f : Field) (v : Word32) :
    FieldsMove (driveCore s) (driveCore (writeField f v s).2)
    ∧ (f.isDrive = false → driveCore (writeField f v s).2 = driveCore s) := by
  cases f with
  | direction =>
    refine ⟨?_, fun other => nomatch other⟩
    simp only [writeField, writeDirection]
    split
    · exact (PowerMoves.of_eq rfl).fields
    · exact ⟨_, _, _, _, core_setDirection s _, id⟩
  | keys => exact ⟨(PowerMoves.of_eq (core_setKeys s v)).fields, fun _ => core_setKeys s v⟩
  | restarted =>
    have stays : driveCore (writeRestarted v.toNat s).2 = driveCore s := by
      unfold writeRestarted
      split <;> rfl
    exact ⟨(PowerMoves.of_eq stays).fields, fun _ => stays⟩
  | _ => exact setNumeric_field s _ _

/-- A change of a field behind the checks of R7: the drive fields move for the holder alone (R3). -/
theorem guardField_moves (src : Source) (field : Byte) (defined : Field → Bool) {k : Field → Answer × State}
    (hk : ∀ f, FieldsMove (driveCore s) (driveCore (k f).2) ∧ (f.isDrive = false → driveCore (k f).2 = driveCore s)) :
    FieldsMove (driveCore s) (driveCore (guardField src field defined s k).2)
    ∧ (¬(s.rcu.holder = holderOf src ∧ field.toNat < 3) → driveCore (guardField src field defined s k).2 = driveCore s) := by
  rcases guardField_cases s src field defined k with ⟨_, e⟩ | ⟨f, named, holder, e⟩ <;> rw [e]
  · exact ⟨(PowerMoves.of_eq rfl).fields, fun _ => rfl⟩
  · refine ⟨(hk f).1, fun other => (hk f).2 ?_⟩
    by_contra drive
    rw [Bool.not_eq_false] at drive
    exact other ⟨holder drive, (isDrive_iff named).mp drive⟩

end Sys2Proof.Laws
end

section
/-! SUPPORT. What a request does to the drive core, whoever sends it, and the claim invariant as a fact of the core. -/

namespace Sys2Proof.Laws

open Sys2Proof.Machine

variable (s : State)

/-! ## The owners, one kind at a time -/

@[simp] theorem core_serveRead (p : Bool) (f sel : Byte) : driveCore (serveRead p f sel s).2 = driveCore s := by
  unfold serveRead
  split
  · rfl
  · split
    · rfl
    · split <;> rfl

@[simp] theorem core_serveMeasure (p : Bool) (tag ch : Byte) : driveCore (serveMeasure p tag ch s).2 = driveCore s := by
  unfold serveMeasure
  split
  · rfl
  · split <;> rfl

@[simp] theorem core_servePlay (v c : Byte) (g : Word16) (t : Byte) : driveCore (servePlay v c g t s).2 = driveCore s := by
  unfold servePlay
  simp only []
  split
  · rfl
  · split
    · split
      · rfl
      · split
        · rfl
        · split <;> rfl
    · rfl

@[simp] theorem core_serveRefill (a : Word16) : driveCore (serveRefill a s).2 = driveCore s := by
  simp only [serveRefill, apply_ite driveCore, core_enterSmoke, core_disarmDry, core_setFluid, ite_self]

/-- The replacement of a scene step leaves the FAILSAFE view. -/
theorem setStep_failsafeView (l : Ltc) (r : SceneRow) (i : Nat) (x : SceneStep) : (l.setStep r i x).failsafeView = l.failsafeView := by
  cases r <;> rfl

@[simp] theorem core_serveSceneWrite (r st d : Byte) (codes : Vector Byte 12) :
    driveCore (serveSceneWrite r st d codes s).2 = driveCore s := by
  unfold serveSceneWrite
  split
  · rfl
  · split
    · rfl
    · have latched (row : SceneRow) (u : State) : driveCore (onLtc (·.latchStep row 0) u) = driveCore u := rfl
      have set (row : SceneRow) (i : Nat) (x : SceneStep) : driveCore (onLtc (·.setStep row i x) s) = driveCore s :=
        core_onLtc s (setStep_failsafeView _ row i x)
      simp only [apply_ite driveCore, latched, set, ite_self]

@[simp] theorem core_serveClearFaults (m : OutputSet) : driveCore (serveClearFaults m s).2 = driveCore s := by
  simp only [serveClearFaults, core_publishSummary]
  exact foldl_keeps (P := fun t => driveCore t = driveCore s) (fun t o h => (core_clearOutput t o).trans h) _ s rfl

@[simp] theorem core_serveConfigRead (i e : Byte) : driveCore (serveConfigRead i e s).2 = driveCore s := by
  unfold serveConfigRead
  split
  · rfl
  · split
    · rfl
    · split <;> rfl

@[simp] theorem core_serveCommit (src : Source) (p : Bool) (tag : Byte) : driveCore (serveCommit src p tag s).2 = driveCore s := by
  unfold serveCommit
  split
  · rfl
  · split
    · rfl
    · split
      · rfl
      · cases src <;> rfl

@[simp] theorem core_changeKeys (k : KeySet) : driveCore (changeKeys k s).2 = driveCore s := core_setKeys s k

theorem core_serveHalt : driveCore (serveHalt s).2 = { driveCore s with targetNotch := 0 } := by
  simp only [serveHalt, core_motionHalt]
  rfl

/-- A request other than CLAIM and RELEASE moves at most the drive fields and the power state. -/
theorem serveOwner_moves (src : Source) (posted : Bool) (tag : Byte) {b : Body} (noClaim : b.kind ≠ .claim) (noRelease : b.kind ≠ .release) :
    FieldsMove (driveCore s) (driveCore (serveOwner src posted tag b s).2) := by
  have still {t : State} (h : driveCore t = driveCore s) : FieldsMove (driveCore s) (driveCore t) := (PowerMoves.of_eq h).fields
  have keys (k : KeySet) {P : Prop} : FieldsMove (driveCore s) (driveCore (changeKeys k s).2)
      ∧ (P → driveCore (changeKeys k s).2 = driveCore s) := ⟨still (core_changeKeys s k), fun _ => core_changeKeys s k⟩
  cases b with
  | read f sel => exact still (core_serveRead s _ _ _)
  | write f v =>
    rw [serveOwner, serveWrite_eq]
    exact (guardField_moves s src f _ (writeField_moves s · v)).1
  | add f imm => exact (guardField_moves s src f _ (setNumeric_field s · _)).1
  | keys f m st => exact (guardField_moves s src f _ fun _ => keys _).1
  | flip f m => exact (guardField_moves s src f _ fun _ => keys _).1
  | swap f v =>
    simp only [serveOwner, serveSwap]
    split
    · exact still rfl
    · exact (guardField_moves s src f _ (setNumeric_field s · _)).1
  | claim e n => exact absurd rfl noClaim
  | release c => exact absurd rfl noRelease
  | haltNow => exact ⟨_, _, 0, _, core_serveHalt s, id⟩
  | measure c => exact still (core_serveMeasure s _ _ _)
  | play v c g t => exact still (core_servePlay s _ _ _ _)
  | refill a => exact still (core_serveRefill s a)
  | sceneWrite r st d codes => exact still (core_serveSceneWrite s _ _ _ _)
  | clearFaults o => exact still (core_serveClearFaults s o)
  | configRead i e => exact still (core_serveConfigRead s _ _)
  | configWrite i e v => exact (serveConfigWrite_moves s _ _ _).fields
  | commit => exact still (core_serveCommit s _ _ _)

/-! ## The claim -/

/-- The claim invariant as a fact of the drive core. -/
structure DriveCore.Claimed (c : DriveCore) : Prop where
  lease    : c.holder = .none ↔ c.lease = .stopped
  failsafe : c.failsafe = true → c.holder = .none
  radio    : c.holderView = c.holder
  lights   : c.failsafeView = c.failsafe
  heard    : ∀ id, c.holder = .throttle id → ∃ e ∈ c.throttles, e.id = id
  frame    : ∀ run, c.handling = some run → ∃ e ∈ c.throttles, e.id = run.thr

theorem claimInv_iff : ClaimInv s ↔ (driveCore s).Claimed :=
  ⟨fun ⟨a, b, c, d, e, f⟩ => ⟨a, b, c, d, e, f⟩, fun ⟨a, b, c, d, e, f⟩ => ⟨a, b, c, d, e, f⟩⟩

/-- The throttle whose entry RIF may not free: the sender of the present request, and the one whose frame it has been kept in (log entry
49). -/
def DriveCore.keeps (c : DriveCore) (src : Source) (id : Byte) : Prop :=
  frameOf src = some id ∨ ∃ run, c.handling = some run ∧ run.thr = id

/-- The throttle has an entry of the throttle table. -/
def DriveCore.hears (c : DriveCore) (id : Byte) : Prop := ∃ e ∈ c.throttles, e.id = id

/-- What a request of a source that is heard leaves: LOAD is not entered, the frame in handling and the entry of the reply stay, RIF frees
no entry that it may not, and the claim stays in one piece. -/
structure Served (src : Source) (c d : DriveCore) : Prop where
  inReset   : d.inReset = c.inReset
  power     : d.power = .load → c.power = .load
  handling  : d.handling = c.handling
  lastEntry : d.lastEntry = c.lastEntry
  entry     : ∀ id, c.keeps src id → c.hears id → d.hears id
  claim     : (∀ id, src = .throttle id → c.hears id) → c.Claimed → d.Claimed

theorem Served.refl (src : Source) (c : DriveCore) : Served src c c :=
  ⟨rfl, id, rfl, rfl, fun _ _ h => h, fun _ h => h⟩

/-- The entry of the sender stays. -/
theorem Served.sender {id : Byte} {c d : DriveCore} (h : Served (.throttle id) c d) (heard : c.hears id) : d.hears id :=
  h.entry id (.inl rfl) heard

theorem Served.trans {src : Source} {c d e : DriveCore} (h : Served src c d) (k : Served src d e) : Served src c e where
  inReset := k.inReset.trans h.inReset
  power := fun l => h.power (k.power l)
  handling := k.handling.trans h.handling
  lastEntry := k.lastEntry.trans h.lastEntry
  entry := fun id keeps heard => k.entry id (by unfold DriveCore.keeps at *; rwa [h.handling]) (h.entry id keeps heard)
  claim := fun heard inv => k.claim (fun id same => h.entry id (.inl (by rw [same]; rfl)) (heard id same)) (h.claim heard inv)

/-- A move of the drive fields and the power state leaves the claim. -/
theorem FieldsMove.served {c d : DriveCore} (h : FieldsMove c d) (src : Source) : Served src c d := by
  obtain ⟨dir, b, n, p, rfl, hp⟩ := h
  exact ⟨rfl, hp, rfl, rfl, fun _ _ heard => heard, fun _ ⟨a, b, c, d, e, f⟩ => ⟨a, b, c, d, e, f⟩⟩

/-- The holder that a source is, is never NONE. -/
theorem holderOf_ne_none (src : Source) : holderOf src ≠ .none := by cases src <;> exact nofun

/-- A lease that starts for a source that holds the claim leaves the claim in one piece (R19). -/
theorem served_lease {src who : Source} {c : DriveCore} (due : Time) (holds : c.holder = holderOf who) :
    Served src c { c with lease := .running due } :=
  ⟨rfl, id, rfl, rfl, fun _ _ heard => heard, fun _ ⟨_, b, r, d, e, f⟩ =>
    ⟨⟨fun n => absurd (holds.symm.trans n) (holderOf_ne_none who), nofun⟩, b, r, d, e, f⟩⟩

/-- A change of DRIVE_HOLDER as the core sees it: RIF frees at most the former holder's entry, and none that it may not (R36). -/
theorem core_setHolder (src : Source) (h : Holder) :
    ∃ l : List ThrottleEntry,
      driveCore (setHolder (frameOf src) h s)
        = { driveCore s with holder := h, holderView := if h = s.rcu.holder then s.rif.holderView else h, throttles := l }
      ∧ (∀ e ∈ s.rif.throttles,
          s.rif.holderView.names e.id = false ∨ (driveCore s).keeps src e.id ∨ h = s.rcu.holder → e ∈ l)
      := by
  rcases setHolder_cases s (frameOf src) h with ⟨same, e⟩ | ⟨other, e, _⟩
  · refine ⟨s.rif.throttles, ?_, fun e he _ => he⟩
    rw [e, if_pos same, same]
    rfl
  · refine ⟨(setHolder (frameOf src) h s).rif.throttles, ?_, fun x hx stays => ?_⟩
    · rw [if_neg other, setHolder, if_neg (by simpa using other)]
      rfl
    · rw [setHolder, if_neg (by simpa using other)]
      refine radioTakeHolder_keeps _ _ _ hx ?_
      rcases stays with free | kept | same
      · exact .inl free
      · refine .inr ?_
        rcases kept with sent | ⟨run, handled, thr⟩
        · simp [Rif.handles, sent]
        · have : s.rif.handling = some run := handled
          simp [Rif.handles, this, thr]
      · exact absurd same other

/-- A change of DRIVE_HOLDER keeps the claim in one piece where the lease and FAILSAFE, as the request left them in `u`, suit the new holder,
which is none or the sender (R17, R18, R20). -/
theorem setHolder_served {src : Source} {h : Holder} {c : DriveCore} {u : State} {lease : Timer} {fs shown : Bool} {n : Nat}
    (hu : driveCore u = { c with lease := lease, failsafe := fs, failsafeView := shown, targetNotch := n })
    (hl : h = .none ↔ lease = .stopped) (hf : fs = true → h = .none ∨ fs = c.failsafe ∧ h = c.holder)
    (view : c.Claimed → shown = fs) (who : h = .none ∨ h = holderOf src) :
    Served src c (driveCore (setHolder (frameOf src) h u)) := by
  obtain ⟨l, e, stays⟩ := core_setHolder u src h
  have table : u.rif.throttles = c.throttles := congrArg DriveCore.throttles hu
  have frame : (driveCore u).handling = c.handling := by rw [hu]
  have held : u.rcu.holder = c.holder := congrArg DriveCore.holder hu
  have radio : u.rif.holderView = c.holderView := congrArg DriveCore.holderView hu
  have entry (id : Byte) (keeps : c.keeps src id) (heard : c.hears id) : ∃ x ∈ l, x.id = id := by
    obtain ⟨x, hx, rfl⟩ := heard
    refine ⟨x, stays x (table ▸ hx) (.inr (.inl ?_)), rfl⟩
    unfold DriveCore.keeps at *
    rwa [frame]
  rw [e, hu, held, radio]
  refine ⟨rfl, id, rfl, rfl, entry, fun heard inv => ⟨hl, fun t => ?_, ?_, view inv, fun id same => ?_, fun run handled => ?_⟩⟩
  · rcases hf t with none | ⟨same, holds⟩
    · exact none
    · exact holds.trans (inv.failsafe (same ▸ t))
  · simp only []
    split
    · rename_i same
      rw [same]
      exact inv.radio
    · rfl
  · rcases who with none | me
    · exact absurd (none.symm.trans same) nofun
    · cases src with
      | host => exact absurd (me.symm.trans same) nofun
      | throttle t =>
        have : t = id := Holder.throttle.inj (me.symm.trans same)
        exact entry id (.inl (by rw [this]; rfl)) (heard id (by rw [this]))
  · exact entry run.thr (.inr ⟨run, handled, rfl⟩) (inv.frame run handled)

/-- CLAIM keeps the claim in one piece, and leaves the drive fields (R16, R17). -/
theorem serveClaim_served (src : Source) (posted : Bool) (e n : Byte) :
    Served src (driveCore s) (driveCore (serveClaim src posted e n s).2)
    ∧ DriveStays (driveCore s) (driveCore (serveClaim src posted e n s).2) := by
  unfold serveClaim
  split
  · exact ⟨.refl src _, rfl, rfl, .inl rfl⟩
  · simp only []
    split
    · exact ⟨.refl src _, rfl, rfl, .inl rfl⟩
    · split
      · refine ⟨setHolder_served (lease := .running _) rfl ⟨fun none => absurd none (holderOf_ne_none src), nofun⟩ nofun
          (fun _ => rfl) (.inr rfl), ?_⟩
        obtain ⟨l, h, _⟩ := core_setHolder (setFailsafe false (startLease s)) src (holderOf src)
        simp only [takeClaim, h]
        exact ⟨rfl, rfl, .inl rfl⟩
      · exact ⟨.refl src _, rfl, rfl, .inl rfl⟩

/-- RELEASE keeps the claim in one piece, leaves DIRECTION and BRAKE, and leaves the holder or no holder (R18). -/
theorem serveRelease_served (src : Source) (choice : Byte) :
    Served src (driveCore s) (driveCore (serveRelease src choice s).2)
    ∧ DriveStays (driveCore s) (driveCore (serveRelease src choice s).2)
    ∧ ((driveCore (serveRelease src choice s).2).holder = s.rcu.holder ∨ (driveCore (serveRelease src choice s).2).holder = .none) := by
  have same : Served src (driveCore s) (driveCore s) ∧ DriveStays (driveCore s) (driveCore s)
      ∧ ((driveCore s).holder = s.rcu.holder ∨ (driveCore s).holder = .none) := ⟨.refl src _, ⟨rfl, rfl, .inl rfl⟩, .inl rfl⟩
  unfold serveRelease
  split
  · exact same
  · split
    · exact same
    · simp only []
      have stops : ∃ n, driveCore (if choice = 1 then stopNotch s else s) = { driveCore s with targetNotch := n }
          ∧ (n = s.rcu.targetNotch ∨ n = 0) := by
        split
        · exact ⟨0, core_stopNotch s, .inr rfl⟩
        · exact ⟨_, rfl, .inl rfl⟩
      obtain ⟨n, hn, notch⟩ := stops
      have hu : driveCore (onRcu (fun r => { r with lease := .stopped }) (if choice = 1 then stopNotch s else s))
          = { driveCore s with
              lease := .stopped, failsafe := s.rcu.failsafe, failsafeView := s.ltc.failsafeView, targetNotch := n } := by
        refine Eq.trans (b := { driveCore (if choice = 1 then stopNotch s else s) with lease := .stopped }) rfl ?_
        rw [hn]
        rfl
      refine ⟨setHolder_served hu (iff_of_true rfl rfl) (fun _ => .inl rfl) (fun inv => inv.lights) (.inl rfl), ?_⟩
      obtain ⟨l, h, _⟩ := core_setHolder (onRcu (fun r => { r with lease := .stopped }) (if choice = 1 then stopNotch s else s)) src .none
      rw [h, hu]
      exact ⟨⟨rfl, rfl, notch⟩, .inr rfl⟩

/-- Every request leaves the claim in one piece, whatever its owner does with it. -/
theorem serveOwner_served (src : Source) (posted : Bool) (tag : Byte) (b : Body) :
    Served src (driveCore s) (driveCore (serveOwner src posted tag b s).2) := by
  by_cases c : b.kind = .claim
  · cases b <;> cases c
    exact (serveClaim_served s src posted _ _).1
  by_cases r : b.kind = .release
  · cases b <;> cases r
    exact (serveRelease_served s src _).1
  exact (serveOwner_moves s src posted tag c r).served src

/-- The lease is refreshed for the holder alone, and with it nothing else of the core (R19). -/
theorem core_refreshLease (src : Source) (code : Code) :
    driveCore (refreshLease src code s) = driveCore s
    ∨ s.rcu.holder = holderOf src ∧ ∃ due, driveCore (refreshLease src code s) = { driveCore s with lease := .running due } := by
  rcases refreshLease_cases s src code with e | ⟨holds, _, e⟩ <;> rw [e]
  · exact .inl rfl
  · exact .inr ⟨holds, _, rfl⟩

/-- Every request leaves the claim in one piece, the refresh of the lease included. -/
theorem serve_served (src : Source) (posted : Bool) (tag : Byte) (b : Body) :
    Served src (driveCore s) (driveCore (serve src posted tag b s).2) := by
  refine (serveOwner_served s src posted tag b).trans ?_
  rcases core_refreshLease (serveOwner src posted tag b s).2 src (serveOwner src posted tag b s).1.code with e | ⟨holds, due, e⟩
  · simp only [serve, e]
    exact .refl src _
  · simp only [serve, e]
    exact served_lease due holds

/-! ## The drive fields (R3) -/

/-- The request is a WRITE, ADD or SWAP of one of the three drive fields. -/
def asksDrive : Body → Prop
  | .write f _ => f.toNat < 3
  | .add f _ => f.toNat < 3
  | .swap f _ => f.toNat < 3
  | _ => False

/-- A request moves a drive field to other than 0 for the drive holder alone, and by WRITE, ADD or SWAP of that field alone (R3, R24). -/
theorem serveOwner_stays {src : Source} {b : Body} (posted : Bool) (tag : Byte)
    (other : ¬(s.rcu.holder = holderOf src ∧ asksDrive b)) :
    DriveStays (driveCore s) (driveCore (serveOwner src posted tag b s).2) := by
  have still {t : State} (h : driveCore t = driveCore s) : DriveStays (driveCore s) (driveCore t) := (PowerMoves.of_eq h).stays
  have keys (field : Byte) (k : KeySet) :
      driveCore (guardField src field (fun f => decide (f = .keys)) s fun _ => changeKeys k s).2 = driveCore s := by
    rcases guardField_cases s src field (fun f => decide (f = .keys)) (fun _ => changeKeys k s) with ⟨_, e⟩ | ⟨_, _, _, e⟩ <;> rw [e]
    exact core_changeKeys s k
  cases b with
  | read f sel => exact still (core_serveRead s _ _ _)
  | write f v =>
    rw [serveOwner, serveWrite_eq]
    exact still ((guardField_moves s src f _ (writeField_moves s · v)).2 other)
  | add f imm => exact still ((guardField_moves s src f _ (setNumeric_field s · _)).2 other)
  | keys f m st => exact still (keys f _)
  | flip f m => exact still (keys f _)
  | swap f v =>
    simp only [serveOwner, serveSwap]
    split
    · exact still rfl
    · exact still ((guardField_moves s src f _ (setNumeric_field s · _)).2 other)
  | claim e n => exact (serveClaim_served s src posted e n).2
  | release c => exact (serveRelease_served s src c).2.1
  | haltNow =>
    simp only [serveOwner, core_serveHalt]
    exact ⟨rfl, rfl, .inr rfl⟩
  | measure c => exact still (core_serveMeasure s _ _ _)
  | play v c g t => exact still (core_servePlay s _ _ _ _)
  | refill a => exact still (core_serveRefill s a)
  | sceneWrite r st d codes => exact still (core_serveSceneWrite s _ _ _ _)
  | clearFaults o => exact still (core_serveClearFaults s o)
  | configRead i e => exact still (core_serveConfigRead s _ _)
  | configWrite i e v => exact (serveConfigWrite_moves s _ _ _).stays
  | commit => exact still (core_serveCommit s _ _ _)

/-- A request other than CLAIM leaves the holder, or leaves none. -/
theorem serveOwner_holder (src : Source) (posted : Bool) (tag : Byte) {b : Body} (noClaim : b.kind ≠ .claim) :
    (serveOwner src posted tag b s).2.rcu.holder = s.rcu.holder ∨ (serveOwner src posted tag b s).2.rcu.holder = .none := by
  by_cases r : b.kind = .release
  · cases b <;> cases r
    exact (serveRelease_served s src _).2.2
  · obtain ⟨_, _, _, _, e, _⟩ := serveOwner_moves s src posted tag noClaim r
    exact .inl (congrArg DriveCore.holder e)

/-- The refresh of the lease leaves every field but the lease. -/
theorem refreshLease_stays (src : Source) (code : Code) :
    DriveStays (driveCore s) (driveCore (refreshLease src code s)) ∧ (refreshLease src code s).rcu.holder = s.rcu.holder := by
  rcases refreshLease_cases s src code with e | ⟨_, _, e⟩ <;> rw [e] <;> exact ⟨⟨rfl, rfl, .inl rfl⟩, rfl⟩

/-- What a request may do to the drive fields, the refresh of the lease included. -/
theorem serve_stays {src : Source} {b : Body} (posted : Bool) (tag : Byte) (other : ¬(s.rcu.holder = holderOf src ∧ asksDrive b)) :
    DriveStays (driveCore s) (driveCore (serve src posted tag b s).2) :=
  (serveOwner_stays s posted tag other).trans (refreshLease_stays _ _ _).1

/-- A request other than CLAIM leaves the holder, or leaves none. -/
theorem serve_holder (src : Source) (posted : Bool) (tag : Byte) {b : Body} (noClaim : b.kind ≠ .claim) :
    (serve src posted tag b s).2.rcu.holder = s.rcu.holder ∨ (serve src posted tag b s).2.rcu.holder = .none := by
  simp only [serve, (refreshLease_stays _ _ _).2]
  exact serveOwner_holder s src posted tag noClaim

end Sys2Proof.Laws
end

section
/-! SUPPORT. Requests at their ports, the run of a frame, and every other command, as moves of the drive core. -/

namespace Sys2Proof.Laws

open Sys2Proof.Machine

variable (s : State)

/-! ## Requests at the Host Port (R185) -/

@[simp] theorem core_framingError : driveCore (framingError s) = driveCore s := rfl

@[simp] theorem core_hostAnswer (k : Byte) (posted : Bool) (tag : Byte) (r : Answer × State) :
    driveCore (hostAnswer k posted tag r) = driveCore r.2 := by
  simp only [hostAnswer, core_onHpt, apply_ite driveCore, core_pushNotice, ite_self]

/-- The request handed on is the one that came, or a CONFIG_WRITE whose value or entry is missing (R39, log entry 31). -/
theorem handOn_cases {h : Head} {b b' : Body} (e : handOn h b = some b') : b' = b ∨ b'.kind = .configWrite := by
  unfold handOn at e
  split at e
  · cases e
    exact .inl rfl
  · split at e
    · split at e
      · cases e
        exact .inr rfl
      · split at e
        · cases e
          exact .inr rfl
        · cases e
    · cases e

/-- A request handed on asks for a drive field only where the one that came does. -/
theorem asksDrive_handOn {h : Head} {b b' : Body} (e : handOn h b = some b') (asks : asksDrive b') : asksDrive b := by
  rcases handOn_cases e with rfl | config
  · exact asks
  · cases b' with
    | configWrite i en v => exact asks.elim
    | _ => cases config

/-- A request at the Host Port changes the core as its owner does, or not at all. -/
theorem hostRequest_core (h : Head) (b : Body) :
    driveCore (hostRequest h b s) = driveCore s
    ∨ ∃ b', handOn h b = some b' ∧ driveCore (hostRequest h b s) = driveCore (serve .host h.posted h.tag b' s).2 := by
  unfold hostRequest
  split
  · exact .inl rfl
  · split
    · exact .inl rfl
    · rw [core_hostAnswer]
      unfold hostServe
      split
      · exact .inl rfl
      · split
        · exact .inl rfl
        · rename_i b' e
          split
          · exact .inl rfl
          · exact .inr ⟨b', e, rfl⟩

/-! ## A frame is heard (R35) -/

/-- The arrival of a frame refreshes the lease of the holder alone (R19). -/
theorem core_frameArrives (id : Byte) :
    driveCore (frameArrives id s) = driveCore s
    ∨ s.rcu.holder = .throttle id ∧ ∃ due, driveCore (frameArrives id s) = { driveCore s with lease := .running due } := by
  unfold frameArrives
  split
  · rename_i holds
    exact .inr ⟨of_decide_eq_true holds, _, core_startLease s⟩
  · exact .inl rfl

/-- The arrival of a frame leaves the claim in one piece, and every drive field. -/
theorem frameArrives_served (src : Source) (id : Byte) :
    Served src (driveCore s) (driveCore (frameArrives id s)) ∧ DriveStays (driveCore s) (driveCore (frameArrives id s))
    ∧ (frameArrives id s).rcu.holder = s.rcu.holder := by
  rcases core_frameArrives s id with e | ⟨holds, due, e⟩
  · rw [e]
    exact ⟨.refl src _, ⟨rfl, rfl, .inl rfl⟩, congrArg DriveCore.holder e⟩
  · rw [e]
    exact ⟨served_lease (who := .throttle id) due holds, ⟨rfl, rfl, .inl rfl⟩, by have := congrArg DriveCore.holder e; exact this⟩

/-- Hearing changes the throttle table alone. -/
theorem hear_eq (r : Rif) (id seq : Byte) (t : Time) : r.hear id seq t = { r with throttles := (r.hear id seq t).throttles } := by
  unfold Rif.hear
  split
  · rfl
  · split <;> rfl

/-- A frame heard while RIF handles none gives its throttle an entry, and leaves the claim in one piece (R35, R36). -/
theorem heard_claimed {s u : State} {id seq : Byte} {t : Time} (idle : s.rif.handling = none)
    (hu : driveCore u = driveCore { s with rif := s.rif.hear id seq t }) (inv : (driveCore s).Claimed) :
    (driveCore u).Claimed ∧ (driveCore u).hears id := by
  obtain ⟨known, kept⟩ := hear_keeps s.rif id seq t
  have core : driveCore u = { driveCore s with throttles := (s.rif.hear id seq t).throttles } := by
    rw [hu, hear_eq]
    rfl
  rw [core]
  refine ⟨⟨inv.lease, inv.failsafe, inv.radio, inv.lights, fun i holds => ?_, fun run handled => ?_⟩, known⟩
  · obtain ⟨e, he, rfl⟩ := inv.heard i holds
    exact kept e he (decide_eq_true (inv.radio.trans holds))
  · exact absurd (idle.symm.trans handled) nofun

/-! ## A request of a throttle -/

/-- RIF refuses a request of a throttle, or its owner serves it (R7, R39). -/
theorem radioServe_cases (id : Byte) (posted : Bool) (tag : Byte) (k : Kind) (body : Option Body) :
    (∃ code, radioServe id posted tag k body s = (refusal code, s))
    ∨ ∃ b, body = some b ∧ radioServe id posted tag k body s = serve (.throttle id) posted tag b s := by
  unfold radioServe
  split
  · exact .inl ⟨_, rfl⟩
  · split
    · exact .inl ⟨_, rfl⟩
    · cases body with
      | none => exact .inl ⟨_, rfl⟩
      | some b => exact .inr ⟨b, rfl, rfl⟩

/-- A request of a throttle taken alone changes nothing, or is served once its throttle is heard; the entry of the reply is kept beside it
(log entry 4). -/
theorem radioRequest_core (id : Byte) (h : Head) (b : Body) :
    radioRequest id h b s = s
    ∨ s.rif.handling = none ∧ ∃ l u, driveCore (radioRequest id h b s) = { driveCore u with lastEntry := l }
      ∧ (driveCore u = driveCore (hearThrottle id s)
        ∨ ∃ b', handOn h b = some b' ∧ driveCore u = driveCore (serve (.throttle id) h.posted h.tag b' (hearThrottle id s)).2) := by
  unfold radioRequest
  split
  · exact .inl rfl
  · rename_i takes
    simp only [Bool.or_eq_true, not_or, Bool.not_eq_true, Option.isSome_eq_false_iff, Option.isNone_iff_eq_none] at takes
    refine .inr ⟨takes.2, _, _, rfl, ?_⟩
    rcases radioServe_cases (hearThrottle id s) id h.posted h.tag b.kind (handOn h b) with ⟨_, e⟩ | ⟨b', hb, e⟩ <;> rw [e]
    · exact .inl rfl
    · exact .inr ⟨b', hb, rfl⟩

/-- Hearing a throttle that sends a request alone leaves the claim in one piece, with an entry of the throttle, and every drive field. -/
theorem hearThrottle_claimed (id : Byte) (idle : s.rif.handling = none) :
    ((driveCore s).Claimed → (driveCore (hearThrottle id s)).Claimed ∧ (driveCore (hearThrottle id s)).hears id)
    ∧ DriveStays (driveCore s) (driveCore (hearThrottle id s)) ∧ (hearThrottle id s).rcu.holder = s.rcu.holder := by
  rcases hearThrottle_cases s id with ⟨known, e⟩ | ⟨_, e⟩ <;> rw [e]
  · exact ⟨fun inv => ⟨inv, known⟩, ⟨rfl, rfl, .inl rfl⟩, rfl⟩
  · obtain ⟨served, stays, holder⟩ := frameArrives_served
      { s with rif := s.rif.hear id (Config.frameSeq s.freeIndex) s.now, freeIndex := s.freeIndex + 1 } (.throttle id) id
    refine ⟨fun inv => ?_, stays, holder⟩
    obtain ⟨claimed, known⟩ := heard_claimed idle rfl inv
    exact ⟨served.claim (fun i same => by cases same; exact known) claimed, served.sender known⟩

/-- A request leaves the claim in one piece, at whichever port it comes. -/
theorem takeRequest_claimed (h : Head) (b : Body) (inv : (driveCore s).Claimed) : (driveCore (takeRequest h b s)).Claimed := by
  unfold takeRequest
  cases h.source with
  | host =>
    rcases hostRequest_core s h b with e | ⟨b', _, e⟩ <;> simp only [e]
    · exact inv
    · exact (serve_served s .host _ _ b').claim nofun inv
  | throttle id =>
    rcases radioRequest_core s id h b with e | ⟨idle, l, u, e, served⟩ <;> simp only [e]
    · exact inv
    · obtain ⟨claimed, known⟩ := (hearThrottle_claimed s id idle).1 inv
      have left : (driveCore u).Claimed := by
        rcases served with hu | ⟨b', _, hu⟩ <;> rw [hu]
        · exact claimed
        · exact (serve_served _ (.throttle id) _ _ b').claim (fun i same => by cases same; exact known) claimed
      exact ⟨left.lease, left.failsafe, left.radio, left.lights, left.heard, left.frame⟩

/-- A request moves the drive fields for the drive holder alone, at whichever port it comes (R3). -/
theorem takeRequest_stays {h : Head} {b : Body} (other : ¬(s.rcu.holder = holderOf h.source ∧ asksDrive b)) :
    DriveStays (driveCore s) (driveCore (takeRequest h b s)) := by
  unfold takeRequest
  cases src : h.source with
  | host =>
    rw [src] at other
    rcases hostRequest_core s h b with e | ⟨b', hb, e⟩ <;> simp only [e]
    · exact ⟨rfl, rfl, .inl rfl⟩
    · exact serve_stays s _ _ fun ⟨holds, asks⟩ => other ⟨holds, asksDrive_handOn hb asks⟩
  | throttle id =>
    rw [src] at other
    rcases radioRequest_core s id h b with e | ⟨idle, l, u, e, served⟩ <;> simp only [e]
    · exact ⟨rfl, rfl, .inl rfl⟩
    · obtain ⟨_, stays, holder⟩ := hearThrottle_claimed s id idle
      have left : DriveStays (driveCore s) (driveCore u) := by
        rcases served with hu | ⟨b', hb, hu⟩ <;> rw [hu]
        · exact stays
        · exact stays.trans (serve_stays _ _ _ fun ⟨holds, asks⟩ => other ⟨holder.symm.trans holds, asksDrive_handOn hb asks⟩)
      exact left

/-! ## The run of a frame (R37) -/

/-- The change of a request for a consist keeps a CLAIM a CLAIM, and makes none (R40, R41). -/
theorem consistBody_claim {c : Configuration} {b : Body} (h : (consistBody c b).kind = .claim) : b.kind = .claim := by
  cases b with
  | write f v =>
    unfold consistBody at h
    simp only [] at h
    split at h
    · cases h
    · split at h <;> cases h
  | _ => exact h

/-- What the operand bytes of a kind spell: a request of the kind, which takes all of them; a CONFIG_WRITE that ends after its item names no
entry (log entry 31). -/
structure Parsed (k : Kind) (bs : List Byte) (b : Body) : Prop where
  kind  : b.kind = k
  bytes : bs.length = b.operandBytes ∨ ∃ i, bs = [i] ∧ b = .configWrite i noEntry []

theorem parseBody_parsed {k : Kind} {bs : List Byte} {b : Body} (h : parseBody k bs = some b) : Parsed k bs b := by
  cases k with
  | read =>
    obtain _ | ⟨f, _ | ⟨sel, _ | _⟩⟩ := bs <;> cases h
    exact ⟨rfl, .inl rfl⟩
  | write =>
    obtain _ | ⟨f, _ | ⟨a, _ | ⟨b, _ | ⟨c, _ | ⟨d, _ | _⟩⟩⟩⟩⟩ := bs <;> cases h
    exact ⟨rfl, .inl rfl⟩
  | add =>
    obtain _ | ⟨f, _ | ⟨a, _ | ⟨b, _ | _⟩⟩⟩ := bs <;> cases h
    exact ⟨rfl, .inl rfl⟩
  | keys =>
    obtain _ | ⟨f, _ | ⟨a, _ | ⟨b, _ | ⟨c, _ | ⟨d, _ | ⟨w, _ | ⟨x, _ | ⟨y, _ | ⟨z, _ | _⟩⟩⟩⟩⟩⟩⟩⟩⟩ := bs <;> cases h
    exact ⟨rfl, .inl rfl⟩
  | flip =>
    obtain _ | ⟨f, _ | ⟨a, _ | ⟨b, _ | ⟨c, _ | ⟨d, _ | _⟩⟩⟩⟩⟩ := bs <;> cases h
    exact ⟨rfl, .inl rfl⟩
  | swap =>
    obtain _ | ⟨f, _ | ⟨a, _ | ⟨b, _ | ⟨c, _ | ⟨d, _ | _⟩⟩⟩⟩⟩ := bs <;> cases h
    exact ⟨rfl, .inl rfl⟩
  | claim =>
    obtain _ | ⟨e, _ | ⟨n, _ | _⟩⟩ := bs <;> cases h
    exact ⟨rfl, .inl rfl⟩
  | release =>
    obtain _ | ⟨c, _ | _⟩ := bs <;> cases h
    exact ⟨rfl, .inl rfl⟩
  | haltNow =>
    obtain _ | _ := bs <;> cases h
    exact ⟨rfl, .inl rfl⟩
  | measure =>
    obtain _ | ⟨c, _ | _⟩ := bs <;> cases h
    exact ⟨rfl, .inl rfl⟩
  | play =>
    obtain _ | ⟨v, _ | ⟨c, _ | ⟨a, _ | ⟨b, _ | ⟨t, _ | _⟩⟩⟩⟩⟩ := bs <;> cases h
    exact ⟨rfl, .inl rfl⟩
  | refill =>
    obtain _ | ⟨a, _ | ⟨b, _ | _⟩⟩ := bs <;> cases h
    exact ⟨rfl, .inl rfl⟩
  | sceneWrite =>
    obtain _ | ⟨r, _ | ⟨st, _ | ⟨d, _ | ⟨c0, _ | ⟨c1, _ | ⟨c2, _ | ⟨c3, _ | ⟨c4, _ | ⟨c5, _ |
      ⟨c6, _ | ⟨c7, _ | ⟨c8, _ | ⟨c9, _ | ⟨c10, _ | ⟨c11, _ | _⟩⟩⟩⟩⟩⟩⟩⟩⟩⟩⟩⟩⟩⟩⟩ := bs <;> cases h
    exact ⟨rfl, .inl rfl⟩
  | clearFaults =>
    obtain _ | ⟨a, _ | ⟨b, _ | _⟩⟩ := bs <;> cases h
    exact ⟨rfl, .inl rfl⟩
  | configRead =>
    obtain _ | ⟨i, _ | ⟨e, _ | _⟩⟩ := bs <;> cases h
    exact ⟨rfl, .inl rfl⟩
  | configWrite =>
    obtain _ | ⟨i, _ | ⟨e, v⟩⟩ := bs <;> cases h
    · exact ⟨rfl, .inr ⟨i, rfl, rfl⟩⟩
    · exact ⟨rfl, .inl (Nat.add_comm v.length 2)⟩
  | commit =>
    obtain _ | _ := bs <;> cases h
    exact ⟨rfl, .inl rfl⟩

/-- The kind of a KIND byte has that byte. -/
theorem ofByte_byte {x : Byte} {k : Kind} (h : Kind.ofByte x = some k) : k.byte = x := by
  have := List.find?_some h
  simpa using this

/-- A record of a frame is refused by RIF, or its request is served by its owner; a CLAIM has the kind code 0x16. -/
theorem radioRecord_cases (id : Byte) (consist : Option Configuration) (r : RawRecord) :
    (∃ code, radioRecord id consist r s = (refusal code, s))
    ∨ ∃ b, (b.kind = .claim → r.kind = 0x16) ∧ radioRecord id consist r s = serve (.throttle id) r.posted r.tag b s := by
  unfold radioRecord
  cases hk : Kind.ofByte r.kind with
  | none => exact .inl ⟨_, rfl⟩
  | some k =>
    rcases radioServe_cases s id r.posted r.tag k (r.body.map fun b => (consist.map fun c => consistBody c b).getD b) with e | ⟨b, hb, e⟩
    · exact .inl e
    · refine .inr ⟨b, fun claim => ?_, e⟩
      obtain ⟨b0, parsed, rfl⟩ := Option.map_eq_some_iff.mp hb
      have kind : b0.kind = k := (parseBody_parsed (bs := r.operands) (by simpa [RawRecord.body, hk] using parsed)).kind
      have claims : b0.kind = .claim := by
        cases consist with
        | none => exact claim
        | some c => exact consistBody_claim claim
      rw [← ofByte_byte hk, ← kind, claims]
      rfl

/-- The requests of a frame leave the claim in one piece, and the frame's throttle its entry. -/
theorem radioRun_served (id : Byte) (consist : Option Configuration) (rs : List RawRecord) :
    Served (.throttle id) (driveCore s) (driveCore (radioRun id consist rs s).2) := by
  induction rs generalizing s with
  | nil => exact .refl _ _
  | cons r rs ih =>
    refine Served.trans ?_ (ih (radioRecord id consist r s).2)
    rcases radioRecord_cases s id consist r with ⟨_, e⟩ | ⟨b, _, e⟩ <;> rw [e]
    · exact .refl _ _
    · exact serve_served s _ _ _ b

/-- The requests of a frame of a throttle that does not hold the claim, none of them a CLAIM, move no drive field but TARGET_NOTCH to 0
(R3, R18, R24). -/
theorem radioRun_stays (id : Byte) (consist : Option Configuration) {rs : List RawRecord} (other : s.rcu.holder ≠ .throttle id)
    (noClaim : ∀ r ∈ rs, r.kind ≠ 0x16) : DriveStays (driveCore s) (driveCore (radioRun id consist rs s).2) := by
  induction rs generalizing s with
  | nil => exact ⟨rfl, rfl, .inl rfl⟩
  | cons r rs ih =>
    have first : DriveStays (driveCore s) (driveCore (radioRecord id consist r s).2)
        ∧ (radioRecord id consist r s).2.rcu.holder ≠ .throttle id := by
      rcases radioRecord_cases s id consist r with ⟨_, e⟩ | ⟨b, claim, e⟩ <;> rw [e]
      · exact ⟨⟨rfl, rfl, .inl rfl⟩, other⟩
      · refine ⟨serve_stays s _ _ fun h => other h.1, ?_⟩
        rcases serve_holder s (.throttle id) r.posted r.tag (fun k => noClaim r (.head _) (claim k)) with h | h <;> rw [h]
        · exact other
        · exact nofun
    exact first.1.trans (ih _ first.2 fun x hx => noClaim x (.tail _ hx))

@[simp] theorem core_offerReply (r : Reply) : driveCore (offerReply r s) = driveCore s := by
  unfold offerReply
  split <;> rfl

@[simp] theorem core_answerFrame (run : FrameRun) : driveCore (answerFrame run s) = driveCore s := by
  simp only [answerFrame, apply_ite driveCore, core_offerReply, ite_self]

theorem core_keepFrame (left : FrameRun) :
    driveCore (onRif (fun r => { r with handling := some left }) s) = { driveCore s with handling := some left } := rfl

/-- RIF goes on with a frame: the core after some of its waiting requests, with the frame kept where more of them wait. -/
theorem continueFrame_core (run : FrameRun) :
    ∃ n u, u = (radioRun run.thr run.consist (run.waiting.take n) { s with frameBreaks := s.frameBreaks.tail }).2
      ∧ (driveCore (continueFrame run s) = driveCore u
        ∨ ∃ left : FrameRun, left.thr = run.thr ∧ driveCore (continueFrame run s) = { driveCore u with handling := some left }) := by
  rcases continueFrame_cases run s with ⟨_, e⟩ | ⟨_, e⟩
  · refine ⟨s.frameBreaks.headD run.waiting.length, _, rfl, .inl ?_⟩
    rw [e, core_answerFrame]
  · refine ⟨s.frameBreaks.headD run.waiting.length, _, rfl, .inr ⟨_, ?_, by rw [e, core_keepFrame]⟩⟩
    rfl

/-- RIF going on with a frame of a throttle that has its entry leaves the claim in one piece. -/
theorem continueFrame_claimed (run : FrameRun) (heard : (driveCore s).hears run.thr) (inv : (driveCore s).Claimed) :
    (driveCore (continueFrame run s)).Claimed := by
  obtain ⟨n, u, hu, after⟩ := continueFrame_core s run
  have served : Served (.throttle run.thr) (driveCore s) (driveCore u) :=
    hu ▸ radioRun_served { s with frameBreaks := s.frameBreaks.tail } run.thr run.consist (run.waiting.take n)
  have claimed := served.claim (fun id same => by cases same; exact heard) inv
  rcases after with e | ⟨left, thr, e⟩ <;> rw [e]
  · exact claimed
  · refine ⟨claimed.lease, claimed.failsafe, claimed.radio, claimed.lights, claimed.heard, fun x handled => ?_⟩
    rw [← Option.some.inj handled, thr]
    exact served.sender heard

/-- RIF going on with a frame of a throttle that does not hold the claim, with no CLAIM waiting, moves no drive field but TARGET_NOTCH to
0. -/
theorem continueFrame_stays {run : FrameRun} (other : s.rcu.holder ≠ .throttle run.thr) (noClaim : ∀ r ∈ run.waiting, r.kind ≠ 0x16) :
    DriveStays (driveCore s) (driveCore (continueFrame run s)) := by
  obtain ⟨n, u, hu, after⟩ := continueFrame_core s run
  have stays : DriveStays (driveCore s) (driveCore u) :=
    hu ▸ radioRun_stays { s with frameBreaks := s.frameBreaks.tail } run.thr run.consist other fun r hr =>
      noClaim r (List.mem_of_mem_take hr)
  rcases after with e | ⟨left, _, e⟩ <;> rw [e] <;> exact stays

/-! ## RADIO_FRAME (R30, R37) -/

/-- A record's KIND byte is one of the bytes that it is read from, and its rest are others of them. -/
theorem takeRecord_mem {bs rest : List Byte} {r : RawRecord} (h : takeRecord bs = some (r, rest)) :
    r.kind ∈ bs ∧ ∀ x ∈ rest, x ∈ bs := by
  unfold takeRecord at h
  split at h
  · simp only [] at h
    split at h
    · cases h
    · split at h <;> cases h <;>
        exact ⟨.head _, fun x hx => .tail _ (.tail _ (.tail _ (List.mem_of_mem_drop hx)))⟩
  · cases h

/-- The KIND bytes of the records of a frame are among its bytes. -/
theorem splitRecords_mem {n : Nat} {bs : List Byte} {rs : List RawRecord} (h : splitRecords n bs = some rs) :
    ∀ r ∈ rs, r.kind ∈ bs := by
  induction n generalizing bs rs with
  | zero =>
    cases bs with
    | nil => cases h; exact nofun
    | cons b bs => cases h
  | succ n ih =>
    unfold splitRecords at h
    cases first : takeRecord bs with
    | none => rw [first] at h; cases h
    | some x =>
      obtain ⟨r, rest⟩ := x
      obtain ⟨kind, others⟩ := takeRecord_mem first
      rw [first] at h
      simp only [] at h
      cases tail : splitRecords n rest with
      | none => rw [tail] at h; cases h
      | some xs =>
        rw [tail] at h
        cases h
        intro y hy
        rcases List.mem_cons.mp hy with rfl | hy
        · exact kind
        · exact others _ (ih tail y hy)

/-- What an accepted frame's records are: the records that its request bytes split into (R30). -/
theorem judgeFrame_records {f : CompletedFrame} {r : Rif} {records : List RawRecord} {addr : Addressing}
    (h : judgeFrame f r = .accepted records addr) :
    splitRecords (parseFrame f.bytes).count (parseFrame f.bytes).requests = some records := by
  unfold judgeFrame at h
  simp only [] at h
  split at h
  · cases h
  · split at h
    · cases h
    · split at h
      · cases h
      · split at h
        · cases h
        · split at h
          · cases h
          · rename_i rs e
            split at h
            · cases h
            · split at h <;> cases h
              exact e

/-- A frame hands on records of its own alone (R38). -/
theorem handsOn_mem {a : Addressing} {rs : List RawRecord} {r : RawRecord} (h : r ∈ a.handsOn rs) : r ∈ rs := by
  cases a with
  | broadcast => exact (List.mem_filter.mp h).1
  | _ => exact h

/-- A frame checked is counted, or accepted and gone on with after it is heard (R30, R35). -/
theorem handleFrame_cases (f : CompletedFrame) :
    driveCore (handleFrame f s) = driveCore s
    ∨ ∃ run : FrameRun, run.thr = f.bytes.getD 2 0 ∧ (∀ r ∈ run.waiting, r.kind ∈ f.bytes)
      ∧ handleFrame f s = continueFrame run (frameArrives run.thr { s with rif := s.rif.hear run.thr run.seq f.completedAt }) := by
  unfold handleFrame
  cases verdict : judgeFrame f s.rif with
  | accepted records addr =>
    refine .inr ⟨_, rfl, fun r hr => ?_, rfl⟩
    have := splitRecords_mem (judgeFrame_records verdict) r (handsOn_mem hr)
    exact List.mem_of_mem_take (List.mem_of_mem_drop this)
  | _ => exact .inl rfl

theorem core_dropFrame : driveCore (onRif (fun r => { r with handling := none }) s) = { driveCore s with handling := none } := rfl

theorem core_dropCompleted (l : List CompletedFrame) : driveCore (onRif (fun r => { r with completed := l }) s) = driveCore s := rfl

/-- A frame accepted while RIF handles none is heard and gone on with, and leaves the claim in one piece. -/
theorem acceptedRun_claimed (run : FrameRun) (t : Time) (idle : s.rif.handling = none) (inv : (driveCore s).Claimed) :
    (driveCore (continueFrame run (frameArrives run.thr { s with rif := s.rif.hear run.thr run.seq t }))).Claimed := by
  obtain ⟨claimed, known⟩ := heard_claimed (u := { s with rif := s.rif.hear run.thr run.seq t }) idle rfl inv
  obtain ⟨served, _, _⟩ := frameArrives_served { s with rif := s.rif.hear run.thr run.seq t } (.throttle run.thr) run.thr
  exact continueFrame_claimed _ run (served.sender known) (served.claim (fun i same => by cases same; exact known) claimed)

/-- A frame accepted from a throttle that does not hold the claim, with no CLAIM to hand on, moves no drive field but TARGET_NOTCH to 0. -/
theorem acceptedRun_stays {run : FrameRun} (t : Time) (other : s.rcu.holder ≠ .throttle run.thr)
    (noClaim : ∀ r ∈ run.waiting, r.kind ≠ 0x16) :
    DriveStays (driveCore s) (driveCore (continueFrame run (frameArrives run.thr { s with rif := s.rif.hear run.thr run.seq t }))) := by
  obtain ⟨_, stays, holder⟩ := frameArrives_served { s with rif := s.rif.hear run.thr run.seq t } (.throttle run.thr) run.thr
  refine DriveStays.trans stays (continueFrame_stays _ ?_ noClaim)
  rw [holder]
  exact other

/-- RADIO_FRAME leaves the claim in one piece. -/
theorem takeFrame_claimed (inv : (driveCore s).Claimed) : (driveCore (takeFrame s)).Claimed := by
  unfold takeFrame
  cases h : s.rif.handling with
  | some run =>
    refine continueFrame_claimed _ run (inv.frame run h) ?_
    rw [core_dropFrame]
    exact ⟨inv.lease, inv.failsafe, inv.radio, inv.lights, inv.heard, fun x handled => by cases handled⟩
  | none =>
    cases s.rif.completed with
    | nil => exact inv
    | cons f rest =>
      simp only []
      rcases handleFrame_cases (onRif (fun r => { r with completed := rest }) s) f with e | ⟨run, _, _, e⟩
      · rw [e, core_dropCompleted]
        exact inv
      · rw [e]
        exact acceptedRun_claimed _ run _ h inv

/-- RADIO_FRAME of a throttle that does not hold the claim, with no CLAIM in it, moves no drive field but TARGET_NOTCH to 0. -/
theorem takeFrame_stays (other : ¬Spec.mayDrive s .radioFrame) : DriveStays (driveCore s) (driveCore (takeFrame s)) := by
  unfold Spec.mayDrive at other
  unfold takeFrame
  cases h : s.rif.handling with
  | some run =>
    simp only [h, not_or, not_exists, not_and] at other
    exact continueFrame_stays _ other.1 other.2
  | none =>
    cases c : s.rif.completed with
    | nil => exact ⟨rfl, rfl, .inl rfl⟩
    | cons f rest =>
      simp only [h, c, not_or] at other
      simp only []
      rcases handleFrame_cases (onRif (fun r => { r with completed := rest }) s) f with e | ⟨run, thr, kinds, e⟩
      · rw [e, core_dropCompleted]
        exact ⟨rfl, rfl, .inl rfl⟩
      · rw [e]
        refine acceptedRun_stays (onRif (fun r => { r with completed := rest }) s) _ ?_ fun r hr same => other.2 (same ▸ kinds r hr)
        rw [thr]
        exact other.1

end Sys2Proof.Laws
end

section
/-! SUPPORT. Every command as a move of the drive core, and the two facts of the claim that hold of all of them: the claim stays in one piece,
and the drive fields move for the holder alone. -/

namespace Sys2Proof.Laws

open Sys2Proof.Machine

variable (s : State)

/-! ## The commands that leave the claim and the drive fields -/

/-- A command that is no request, no reset or release of it, no RADIO_FRAME, no lease expiry and no ageing of an entry. -/
def isQuiet : Instr → Bool
  | .resetnLow => false
  | .logicSupplyFail => false
  | .resetRelease _ _ => false
  | .radioFrame => false
  | .throttleEntryAgeing _ => false
  | .leaseExpiry => false
  | c => (requestOf c).isNone

theorem released_moves {s t : State} {f : State → State} (h : whenReleased f s = .next t)
    (hf : PowerMoves (driveCore s) (driveCore (f s))) : PowerMoves (driveCore s) (driveCore t) :=
  whenReleased_keeps (P := fun u => PowerMoves (driveCore s) (driveCore u)) (fun _ => hf) h (.of_eq rfl)

theorem expiry_moves (timer : Timer) {f : State → State} (hf : ∀ u, PowerMoves (driveCore u) (driveCore (f u))) :
    PowerMoves (driveCore s) (driveCore (onExpiry timer f s)) := by
  rcases onExpiry_cases s timer f with ⟨_, e⟩ | ⟨due, _, e⟩ <;> rw [e]
  · exact .of_eq rfl
  · exact hf (s.reach due)

theorem core_takeFirstByte (b : Byte) : driveCore (takeFirstByte b s) = driveCore s := by
  rcases takeFirstByte_cases s b with ⟨_, e⟩ | ⟨_, ⟨_, e⟩ | ⟨_, e⟩ | ⟨_, e⟩ | ⟨_, _, _, e⟩⟩ <;> rw [e] <;> rfl

theorem core_undefinedRecord (r : UndefinedRecord) : driveCore (undefinedRecord r s) = driveCore s := by
  simp only [undefinedRecord, apply_ite driveCore, core_framingError, core_hostAnswer, ite_self]

theorem core_takeByte (b : Byte) : driveCore (takeByte b s) = driveCore s := by
  unfold takeByte
  cases s.rif.assembly with
  | idle =>
    simp only []
    split <;> rfl
  | collecting =>
    simp only [collectByte]
    split <;> rfl
  | discarding => rfl

theorem core_gapOnLink : driveCore (gapOnLink s) = driveCore s := by
  simp only [gapOnLink, apply_ite driveCore, core_countRadio]
  exact ite_self _

/-- A quiet command moves no more of the core than the power state, to one other than LOAD. -/
theorem exec_quiet_moves {c : Instr} {s t : State} (quiet : isQuiet c = true) (h : exec c s = .next t) :
    PowerMoves (driveCore s) (driveCore t) := by
  have still {u v : State} (e : driveCore v = driveCore u) : PowerMoves (driveCore u) (driveCore v) := .of_eq e
  cases c with
  | clipHeaderRead bytes =>
    refine released_moves h (still ?_)
    split <;> rfl
  | loadEnd =>
    refine released_moves h ?_
    split
    · exact endLoad_moves s
    · exact still rfl
  | commitEnd good =>
    refine released_moves h (still ?_)
    simp only [apply_ite driveCore, core_endCommit, ite_self]
  | hostSelectFall =>
    cases h
    refine still ?_
    simp only [selectFall, apply_ite driveCore, core_onHpt, ite_self]
  | hostSelectRise =>
    cases h
    refine still ?_
    simp only [selectRise, apply_ite driveCore, core_onHpt, ite_self]
  | transactionFramingError cause =>
    dsimp only [exec, execTransactionFramingError] at h
    refine released_moves h (still ?_)
    cases cause <;> simp only [apply_ite driveCore, core_takeFirstByte, core_framingError, ite_self]
  | notice => exact released_moves h (still (core_takeFirstByte s _))
  | status => exact released_moves h (still (core_takeFirstByte s _))
  | radioByte b => exact released_moves h (still (core_takeByte s b))
  | interByteTimerExpiry => exact released_moves h (expiry_moves s _ fun u => still (core_gapOnLink u))
  | replySent =>
    refine released_moves h (still ?_)
    split <;> rfl
  | controlStep =>
    dsimp only [exec, execControlStep] at h
    refine released_moves h (still ?_)
    split
    · rfl
    · rw [core_controlStep, core_onMoc]
  | pwmPeriodStart =>
    refine released_moves h (still ?_)
    simp only [apply_ite driveCore, core_periodStart, core_reach, ite_self]
  | pwmCompareMatch t charge =>
    refine released_moves h (still ?_)
    simp only [apply_ite driveCore, core_setBridge, core_reach, ite_self]
  | deadIntervalEnd t leg =>
    dsimp only [exec, execDeadIntervalEnd] at h
    refine released_moves h (still ?_)
    split <;> rfl
  | controlPeriodExpiry =>
    exact released_moves h (expiry_moves s _ fun u => still (by simp only [core_appendChannel, core_onBmu]))
  | gapSettleExpiry f r => exact released_moves h (expiry_moves s _ fun u => still rfl)
  | gapConversionEnd => exact released_moves h (expiry_moves s _ fun u => still (core_publishSample u))
  | conversionEnd value =>
    dsimp only [exec, execConversionEnd] at h
    refine released_moves h (still ?_)
    split
    · rfl
    · rw [core_endConversion, core_reach]
  | dieTimerExpiry => exact released_moves h (expiry_moves s _ fun u => still (by simp only [core_appendChannel, core_bmu]))
  | supervisionComparatorChange k v =>
    dsimp only [exec, execSupervisionComparatorChange] at h
    exact released_moves h (judgeComparator_moves _ k)
  | shortComparatorTrip o current =>
    refine released_moves h (still ?_)
    simp only [apply_ite driveCore, core_takeTrip, ite_self]
  | retryTimerExpiry o =>
    exact released_moves h (expiry_moves s _ fun u => still (by simp only [core_publishFault, core_releaseOutput, core_mapWatch]))
  | probationTimerExpiry o =>
    exact released_moves h (expiry_moves s _ fun u => still (by simp only [core_publishFault, core_mapWatch]))
  | openTimerExpiry o =>
    exact released_moves h (expiry_moves s _ fun u => still (by simp only [core_pushNotice, core_publishFault, core_mapWatch]))
  | beatSample =>
    dsimp only [exec, execBeatSample] at h
    refine released_moves h (still ?_)
    split
    · rfl
    · rw [core_beatSample, core_onBtg]
  | sensorEdge =>
    refine released_moves h (still ?_)
    split <;> rfl
  | audioSample => exact released_moves h (expiry_moves s _ fun u => still (by rw [core_publishSound, core_ssq]))
  | burstLands samples =>
    dsimp only [exec, execBurstLands] at h
    exact released_moves h (still rfl)
  | smokeTick => exact released_moves h (expiry_moves s _ fun u => still (by simp only [core_appendChannel, core_smu]))
  | regulationStep =>
    dsimp only [exec, execRegulationStep] at h
    refine released_moves h (still ?_)
    split
    · rfl
    · rw [core_regulationStep, core_onSmu]
  | puffTimerExpiry => exact released_moves h (expiry_moves s _ fun u => still rfl)
  | heaterPwmPeriodStart => exact released_moves h (still rfl)
  | fanPwmPeriodStart => exact released_moves h (still rfl)
  | lightPwmPeriodStart n => exact released_moves h (still rfl)
  | lightFrame =>
    refine released_moves h (expiry_moves s _ fun u => still ?_)
    rw [core_appendLight, core_lightFrame]
    rfl
  | trackQualificationExpiry => exact released_moves h (expiry_moves s _ qualifyTrack_moves)
  | bridgeLimitExpiry => exact released_moves h (expiry_moves s _ enterHalt_moves)
  | settleTimerExpiry => exact released_moves h (expiry_moves s _ enterRun_moves)
  | sagTimerExpiry => exact released_moves h (expiry_moves s _ fun u => still (core_stepSag u))
  | requestKindByte r =>
    refine released_moves h (still ?_)
    split
    · cases r with
      | none => exact core_takeFirstByte s _
      | some r =>
        simp only [apply_ite driveCore, core_undefinedRecord, core_takeFirstByte, ite_self]
    · rfl
  | heaterPwmCompare => exact released_moves h (still rfl)
  | fanPwmCompare => exact released_moves h (still rfl)
  | lightPwmCompare n => exact released_moves h (still rfl)
  | _ => cases quiet

/-! ## Reset and its release -/

/-- The release of reset is the core's only change at the start of LOAD. -/
theorem core_release (trackV capV : Nat) : driveCore (release trackV capV s) = { driveCore s with inReset := false } := by
  have lights (u : State) : driveCore (startLights u) = driveCore u := by
    rw [startLights, core_onLtc, core_evaluateScene]
    rfl
  have smoke (u : State) : driveCore (startSmoke u) = driveCore u := by
    rw [startSmoke, core_publish _ rfl, core_setFluid, core_onSmu]
  have beats (u : State) : driveCore (startBeats u) = driveCore u := by
    rw [startBeats, core_publishBeats, core_onBtg]
  have report (u : State) : driveCore (firstReport u) = driveCore u := by
    simp only [firstReport, core_onPws, core_onBmu]
  have schedule (u : State) : driveCore (startSchedule u) = driveCore u := by
    rw [startSchedule, core_appendChannel, core_onBmu]
  have record (u : State) : driveCore (initRecord u) = driveCore u := by
    rw [initRecord, core_onPws, core_onLtc _ rfl, core_ssq]
    rfl
  have load (u : State) : driveCore (loadConfiguration u) = driveCore u := by
    simp only [loadConfiguration, core_onPws, core_onCfs]
  simp only [release, startSound, core_ssq, lights, smoke, beats, startMotion, core_motionTakeSettings, report, schedule, record, load,
    core_onBmu]
  rfl

/-- The record in device reset holds no claim. -/
theorem reset_claimed : (driveCore (deviceReset s)).Claimed := by
  have core : driveCore (deviceReset s) = driveCore State.reset := rfl
  rw [core]
  exact ⟨iff_of_true rfl rfl, fun h => (by cases h), rfl, rfl, fun _ h => (by cases h), fun _ h => (by cases h)⟩

/-! ## The lease expiry (R20) and the ageing of an entry (R36) -/

/-- The lease expiry leaves the claim in one piece, with no holder, and TARGET_NOTCH 0. -/
theorem expireLease_served :
    Served .host (driveCore s) (driveCore (expireLease s)) ∧ DriveStays (driveCore s) (driveCore (expireLease s)) := by
  have hu : driveCore (pushNotice (.leaseExpired s.rcu.holder s.cfg.lossAction) (setFailsafe true
      (motionTakeLoss s.cfg.lossAction (onRcu (fun r => { r with targetNotch := 0, lease := .stopped }) s))))
      = { driveCore s with lease := .stopped, failsafe := true, failsafeView := true, targetNotch := 0 } := by
    rw [core_pushNotice, core_setFailsafe, core_motionTakeLoss]
    rfl
  refine ⟨setHolder_served (src := .host) hu (iff_of_true rfl rfl) (fun _ => .inl rfl) (fun _ => rfl) (.inl rfl), ?_⟩
  obtain ⟨l, e, _⟩ := core_setHolder (pushNotice (.leaseExpired s.rcu.holder s.cfg.lossAction) (setFailsafe true
      (motionTakeLoss s.cfg.lossAction (onRcu (fun r => { r with targetNotch := 0, lease := .stopped }) s)))) .host .none
  unfold expireLease
  simp only []
  rw [show (none : Option Byte) = frameOf .host from rfl, e, hu]
  exact ⟨rfl, rfl, .inr rfl⟩

/-- An entry that ages is neither the drive holder's nor that of a throttle whose frame RIF handles (R36, log entry 49). -/
theorem ageEntry_claimed (id : Byte) (inv : (driveCore s).Claimed) :
    (driveCore (ageEntry id s)).Claimed ∧ DriveStays (driveCore s) (driveCore (ageEntry id s)) := by
  unfold ageEntry
  split
  · exact ⟨inv, rfl, rfl, .inl rfl⟩
  · split
    · exact ⟨inv, rfl, rfl, .inl rfl⟩
    · rename_i ages
      rw [Bool.or_eq_true, not_or] at ages
      obtain ⟨free, idle⟩ := ages
      have stays {x : Byte} (other : x ≠ id) (heard : (driveCore s).hears x) :
          ∃ e ∈ s.rif.throttles.filter (fun y => y.id != id), e.id = x := by
        obtain ⟨e, he, rfl⟩ := heard
        exact ⟨e, List.mem_filter.mpr ⟨he, by simpa using other⟩, rfl⟩
      refine ⟨⟨inv.lease, inv.failsafe, inv.radio, inv.lights, fun x holds => stays ?_ (inv.heard x holds),
        fun run handled => stays ?_ (inv.frame run handled)⟩, rfl, rfl, .inl rfl⟩
      · rintro rfl
        exact free (decide_eq_true (inv.radio.trans holds))
      · intro same
        have : s.rif.handling = some run := handled
        simp [Rif.handles, this, same] at idle

/-! ## Every command -/

/-- Every command leaves the claim in one piece. -/
theorem exec_claimed {c : Instr} {s t : State} (h : exec c s = .next t) (inv : (driveCore s).Claimed) : (driveCore t).Claimed := by
  cases hr : requestOf c with
  | some x =>
    rw [exec_request hr] at h
    exact whenReleased_keeps (P := fun u => (driveCore u).Claimed) (fun _ => takeRequest_claimed s x.1 x.2 inv) h inv
  | none =>
    by_cases quiet : isQuiet c = true
    · exact ((exec_quiet_moves quiet h).fields.served .host).claim nofun inv
    · cases c with
      | resetnLow => cases h; exact reset_claimed s
      | logicSupplyFail => cases h; exact reset_claimed s
      | resetRelease trackV capV =>
        cases h
        split
        · rw [core_release]
          exact ⟨inv.lease, inv.failsafe, inv.radio, inv.lights, inv.heard, inv.frame⟩
        · exact inv
      | radioFrame => exact whenReleased_keeps (P := fun u => (driveCore u).Claimed) (fun _ => takeFrame_claimed s inv) h inv
      | throttleEntryAgeing id =>
        exact whenReleased_keeps (P := fun u => (driveCore u).Claimed) (fun _ => (ageEntry_claimed s id inv).1) h inv
      | leaseExpiry =>
        refine whenReleased_keeps (P := fun u => (driveCore u).Claimed) (fun _ => ?_) h inv
        rcases onExpiry_cases s s.rcu.lease expireLease with ⟨_, e⟩ | ⟨due, _, e⟩ <;> rw [e]
        · exact inv
        · exact (expireLease_served (s.reach due)).1.claim nofun inv
      | _ => exact absurd (by simpa [isQuiet] using hr) quiet

/-- A WRITE, ADD or SWAP of a drive field by the drive holder is one of the commands of `Spec.mayDrive`. -/
theorem mayDrive_of_asks {s : State} {c : Instr} {x : Head × Body} (hr : requestOf c = some x)
    (asks : s.rcu.holder = holderOf x.1.source ∧ asksDrive x.2) : Spec.mayDrive s c := by
  cases c <;> cases hr
  case write.refl | add.refl | swap.refl => exact asks
  all_goals exact asks.2.elim

/-- Every command but those of `Spec.mayDrive` leaves DIRECTION and BRAKE, and leaves TARGET_NOTCH or sets it to 0. -/
theorem exec_stays {c : Instr} {s t : State} (h : exec c s = .next t) (other : ¬Spec.mayDrive s c) : DriveStays (driveCore s) (driveCore t) := by
  have same : DriveStays (driveCore s) (driveCore s) := ⟨rfl, rfl, .inl rfl⟩
  cases hr : requestOf c with
  | some x =>
    rw [exec_request hr] at h
    exact whenReleased_keeps (P := fun u => DriveStays (driveCore s) (driveCore u))
      (fun _ => takeRequest_stays s fun asks => other (mayDrive_of_asks hr asks)) h same
  | none =>
    by_cases quiet : isQuiet c = true
    · exact (exec_quiet_moves quiet h).stays
    · cases c with
      | resetnLow => exact absurd trivial other
      | logicSupplyFail => exact absurd trivial other
      | resetRelease trackV capV =>
        cases h
        split
        · rw [core_release]
          exact ⟨rfl, rfl, .inl rfl⟩
        · exact same
      | radioFrame => exact whenReleased_keeps (P := fun u => DriveStays (driveCore s) (driveCore u)) (fun _ => takeFrame_stays s other) h same
      | throttleEntryAgeing id =>
        refine whenReleased_keeps (P := fun u => DriveStays (driveCore s) (driveCore u)) (fun _ => ?_) h same
        unfold ageEntry
        split
        · exact same
        · split <;> exact same
      | leaseExpiry =>
        refine whenReleased_keeps (P := fun u => DriveStays (driveCore s) (driveCore u)) (fun _ => ?_) h same
        rcases onExpiry_cases s s.rcu.lease expireLease with ⟨_, e⟩ | ⟨due, _, e⟩ <;> rw [e]
        · exact same
        · exact (expireLease_served (s.reach due)).2
      | _ => exact absurd (by simpa [isQuiet] using hr) quiet

end Sys2Proof.Laws
end

section
/-! STATEMENTS. The two statements of the claim that hold of every command. -/

namespace Sys2Proof.Record

open Sys2Proof.Machine Sys2Proof.Laws

/-- Settles O19: every command but a request of the holder, a radio frame and a device reset moves the drive core as `DriveStays` says. -/
theorem onlyTheHolderDrives : Obligations.OnlyTheHolderDrives :=
  fun _ _ _ h other => exec_stays h other

/-- Settles O53: the invariant is a fact of the drive core, and every command keeps it. -/
theorem stepsKeepTheClaim : Obligations.StepsKeepTheClaim := by
  intro s t inv h
  rw [claimInv_iff] at *
  unfold step at h
  split at h
  · cases h
    exact inv
  · exact exec_claimed h inv

end Sys2Proof.Record
end

section
/-! STATEMENTS. READ, the refusals of the record's requests, and the changes of its fields (1.4). -/

namespace Sys2Proof.Record

open Sys2Proof.Machine Sys2Proof.Laws

/-! ## Fields by their bytes (R190) -/

/-- A field byte names the entry of the field table at its number. -/
theorem ofByte_of_toNat {b : Byte} {n : Nat} (h : b.toNat = n) : Field.ofByte b = fieldTable[n]? := by
  rw [Field.ofByte, h]

/-- No field has a number above 28. -/
theorem ofByte_above {b : Byte} (h : 28 < b.toNat) : Field.ofByte b = none :=
  List.getElem?_eq_none h

/-- The fields numbered 0 to 6 are the writable ones, and those to 28 the others (1.2, 1.3). -/
theorem ofByte_writable {b : Byte} (h : b.toNat ≤ 28) : ∃ f, Field.ofByte b = some f ∧ f.writable = decide (b.toNat < 7) := by
  have table : ∀ n : Fin 29, (fieldTable[n.val]?).map Field.writable = some (decide (n.val < 7)) := by decide
  have := table ⟨b.toNat, by omega⟩
  exact Option.map_eq_some_iff.mp this

/-! ## READ (R5, R8) -/

/-- The fields that need no selector read as `Spec.fieldBytes` has them. -/
theorem readField_of_fieldBytes {s : State} {field : Byte} {bytes : List Byte} (h : Spec.fieldBytes s field.toNat = some bytes)
    (selector : Byte) : ∃ f, Field.ofByte field = some f ∧ s.readField f selector = some bytes := by
  unfold Spec.fieldBytes at h
  split at h
  case h_28 => cases h
  all_goals
    rename_i n
    cases h
    exact ⟨_, ofByte_of_toNat n, rfl⟩

/-- A selector of FAULT names the output at its place in an output set. -/
theorem outputOfSelector_index {b : Byte} {i : Fin 16} (h : b.toNat = i.val) :
    ∃ o, outputOfSelector b = some o ∧ outputIndex o = i := by
  have table : ∀ i : Fin 16, (allOutputs[i.val]?).map outputIndex = some i := by decide
  have := table i
  rw [← h] at this
  exact Option.map_eq_some_iff.mp this

/-- The parts of a fault record as the statement lays them out (log entry 10). -/
theorem faultBytes_eq (r : FaultRecord) : r.bytes = Spec.faultBytes r := rfl

/-- A selector of RADIO_COUNTS names the counter of its number (R32). -/
theorem select_of_counterBytes {c : RadioCounts} {b : Byte} {bytes : List Byte} (h : Spec.counterBytes c b.toNat = some bytes) :
    (c.select b).map be2 = some bytes := by
  unfold Spec.counterBytes at h
  unfold RadioCounts.select
  split at h
  case h_9 => cases h
  all_goals
    rename_i n
    cases h
    rw [n]
    rfl

/-- What READ answers where its record names a field. -/
theorem serveRead_field {s : State} {field selector : Byte} {f : Field} (named : Field.ofByte field = some f) :
    serveRead false field selector s =
      ((s.readField f selector).elim (refusal .badValue) fun bytes => doneWith {} bytes, s) := by
  simp only [serveRead, Bool.false_eq_true, if_false, named]
  cases s.readField f selector <;> rfl

/-- Settles O7: a READ that arrives is served by `serveRead`, and each field number and selector names its value. -/
theorem readAnswersTheField : Obligations.ReadAnswersTheField := by
  intro h field selector s arr
  have answers {field selector : Byte} {bytes : List Byte} {f : Field} (live : h.control.getLsbD 0 = false)
      (named : Field.ofByte field = some f) (value : s.readField f selector = some bytes) :
      exec (.read h field selector) s = .next (Spec.accepted h 0x10 { code := .done, value := bytes } s) := by
    refine exec_accepts (b := .read field selector) rfl rfl arr ?_ rfl
    simp only [serveOwner, Head.posted, live, serveRead_field named, value, Option.elim_some, doneWith]
  have refuses {field selector : Byte} {code : Code} (h' : serveRead h.posted field selector s = (refusal code, s))
      (ref : code.refuses = true) : exec (.read h field selector) s = .next (Spec.refused h 0x10 code s) :=
    exec_refuses (b := .read field selector) rfl rfl arr h' ref
  refine ⟨fun posted => refuses (by simp only [serveRead, Head.posted, posted, if_true]) rfl, fun live => ⟨?_, ?_, ?_, ?_, ?_, ?_⟩⟩
  · intro bytes hb
    obtain ⟨f, named, value⟩ := readField_of_fieldBytes hb selector
    exact answers live named value
  · intro above
    refine refuses ?_ rfl
    rw [Head.posted, live]
    simp [serveRead, ofByte_above above]
  · intro o sel
    obtain ⟨out, named, index⟩ := outputOfSelector_index sel
    refine answers live (f := .fault) rfl ?_
    rw [← faultBytes_eq, ← index]
    simp only [State.readField, named, Option.map_some]
  · intro above
    refine refuses ?_ rfl
    have none : outputOfSelector selector = none := List.getElem?_eq_none above
    rw [Head.posted, live, serveRead_field (f := .fault) rfl]
    simp only [State.readField, none, Option.map_none, Option.elim_none]
  · intro bytes hb
    exact answers live (f := .radioCounts) rfl (select_of_counterBytes hb)
  · intro above
    refine refuses ?_ rfl
    have none : s.rcu.views.radioCounts.select selector = none := List.getElem?_eq_none above
    rw [Head.posted, live, serveRead_field (f := .radioCounts) rfl]
    simp only [State.readField, none, Option.map_none, Option.elim_none]

/-! ## The refusals (R7) -/

/-- A request to change a field, as the checks of R7 see it: what is served once its kind and its field have been judged. -/
structure FieldRequest (c : Instr) (h : Head) (kind : Byte) (operands : Nat) (field : Byte) (kinds : List Byte) where
  body     : Body
  defined  : Field → Bool
  effect   : State → Field → Answer × State
  request  : requestOf c = some (h, body)
  plain    : plainKind body.kind = true
  byte     : body.kind.byte = kind
  bytes    : body.operandBytes = operands
  served   : ∀ (posted : Bool) (tag : Byte) (s : State), (kind = 0x15 → posted = false) →
               serveOwner h.source posted tag body s = guardField h.source field defined s (effect s)
  posted   : kind = 0x15 → ∀ (tag : Byte) (s : State), serveOwner h.source true tag body s = (refusal .badKind, s)
  forKind  : ∀ n : Fin 7, (fieldTable[n.val]?).map defined = some (decide (BitVec.ofNat 8 n.val ∈ kinds))

/-- Each of the five kinds of `Spec.fieldRequest` is a field request. -/
theorem fieldRequest_serves {c : Instr} {h : Head} {kind : Byte} {operands : Nat} {field : Byte} {kinds : List Byte}
    (hc : Spec.fieldRequest c = some (h, kind, operands, field, kinds)) : Nonempty (FieldRequest c h kind operands field kinds) := by
  cases c <;> cases hc
  case write.refl v =>
    exact ⟨.write field v, fun _ => true, fun s f => writeField f v s, rfl, rfl, rfl, rfl,
      fun _ _ s _ => serveWrite_eq s h.source field v, fun swap => (by cases swap), by decide⟩
  case add.refl imm =>
    exact ⟨.add field imm, fun f => f.top.isSome, _, rfl, rfl, rfl, rfl, fun _ _ _ _ => rfl, fun swap => (by cases swap), by decide⟩
  case keys.refl m st =>
    exact ⟨.keys field m st, fun f => decide (f = .keys), _, rfl, rfl, rfl, rfl, fun _ _ _ _ => rfl, fun swap => (by cases swap), by decide⟩
  case flip.refl m =>
    exact ⟨.flip field m, fun f => decide (f = .keys), _, rfl, rfl, rfl, rfl, fun _ _ _ _ => rfl, fun swap => (by cases swap), by decide⟩
  case swap.refl v =>
    refine ⟨.swap field v, fun f => f.top.isSome, fun s f => writeNumeric f (f.top.getD 0) v.toNat s, rfl, rfl, rfl, rfl,
      fun posted _ _ live => ?_, fun _ _ _ => rfl, by decide⟩
    simp [serveOwner, serveSwap, live rfl]

/-- The checks of R7 in their order: what each refuses. -/
theorem guardField_refuses {c : Instr} {h : Head} {kind : Byte} {operands : Nat} {field : Byte} {kinds : List Byte}
    (r : FieldRequest c h kind operands field kinds) (s : State) :
    (28 < field.toNat → guardField h.source field r.defined s (r.effect s) = (refusal .badField, s))
    ∧ (7 ≤ field.toNat → field.toNat ≤ 28 → guardField h.source field r.defined s (r.effect s) = (refusal .readOnly, s))
    ∧ (field.toNat < 7 → field ∉ kinds → guardField h.source field r.defined s (r.effect s) = (refusal .badField, s))
    ∧ (field.toNat < 3 → field ∈ kinds → s.rcu.holder ≠ holderOf h.source →
        guardField h.source field r.defined s (r.effect s) = (refusal .notHolder, s)) := by
  have defined {f : Field} (small : field.toNat < 7) (named : Field.ofByte field = some f) : r.defined f = decide (field ∈ kinds) := by
    have := r.forKind ⟨field.toNat, small⟩
    rw [show fieldTable[field.toNat]? = some f from named, Option.map_some, Option.some.injEq, BitVec.ofNat_toNat,
      BitVec.setWidth_eq] at this
    exact this
  refine ⟨fun above => ?_, fun low high => ?_, fun small notFor => ?_, fun drive isFor other => ?_⟩
  · simp only [guardField, ofByte_above above]
  · obtain ⟨f, named, writable⟩ := ofByte_writable high
    simp [guardField, named, writable, Nat.not_lt_of_le low]
  · obtain ⟨f, named, writable⟩ := ofByte_writable (b := field) (by omega)
    simp [guardField, named, writable, small, defined small named, notFor]
  · have small : field.toNat < 7 := by omega
    obtain ⟨f, named, writable⟩ := ofByte_writable (b := field) (by omega)
    simp [guardField, named, writable, small, defined small named, isFor, (isDrive_iff named).mpr drive, State.holds, other]

/-- Settles O14: a request to change a field is served behind `guardField`, whose checks refuse in R7's order. -/
theorem fieldChecksRefuse : Obligations.FieldChecksRefuse := by
  rintro c s ⟨h, kind, operands, field, kinds⟩ hc arr
  obtain ⟨r⟩ := fieldRequest_serves hc
  have arrives : Spec.Arrives h r.body.operandBytes s := by
    rw [r.bytes]
    exact arr
  have refuses {code : Code} (served : serveOwner h.source h.posted h.tag r.body s = (refusal code, s)) (ref : code.refuses = true) :
      exec c s = .next (Spec.refused h kind code s) := by
    rw [exec_refuses r.request r.plain arrives served ref, r.byte]
    rfl
  refine ⟨fun swap posted => ?_, fun live => ?_⟩
  · refine refuses ?_ rfl
    rw [show h.posted = true from posted]
    exact r.posted swap h.tag s
  · have served := r.served h.posted h.tag s live
    obtain ⟨above, readOnly, undefined, notHolder⟩ := guardField_refuses r s
    refine ⟨fun a => refuses (served.trans (above a)) rfl, fun a b => refuses (served.trans (readOnly a b)) rfl,
      fun a b => refuses (served.trans (undefined a b)) rfl, fun a b d => refuses (served.trans (notHolder a b d)) rfl, ?_, ?_⟩
    · rintro holds v big rfl
      cases hc
      refine exec_refuses (b := .write 1 v) rfl rfl arr (a := refusal .badValue) ?_ rfl
      have two : ¬v.toNat = 0 ∧ ¬v.toNat = 1 := by omega
      rw [serveOwner, serveWrite_eq]
      simp [guardField, Field.ofByte, fieldTable, Field.writable, Field.isDrive, State.holds, holds, writeField, writeDirection,
        directionOf, two]
    · rintro v nonzero rfl
      cases hc
      refine exec_refuses (b := .write 6 v) rfl rfl arr (a := refusal .badValue) ?_ rfl
      have set : ¬v.toNat = 0 := fun z => nonzero (BitVec.eq_of_toNat_eq z)
      rw [serveOwner, serveWrite_eq]
      simp [guardField, Field.ofByte, fieldTable, Field.writable, Field.isDrive, writeField, writeRestarted, set]

/-! ## WRITE, ADD and SWAP of a numeric field (R9, R10, R13) -/

/-- A request that passes the checks of R7 changes its field. -/
theorem guardField_passes {src : Source} {field : Byte} {defined : Field → Bool} {s : State} {f : Field} (k : Field → Answer × State)
    (named : Field.ofByte field = some f) (writable : f.writable = true) (isFor : defined f = true)
    (may : f.isDrive = true → s.rcu.holder = holderOf src) : guardField src field defined s k = k f := by
  cases drive : f.isDrive with
  | false => simp [guardField, named, writable, isFor, drive]
  | true => simp [guardField, named, writable, isFor, drive, State.holds, may drive]

/-- A field with a top is a writable one, and WRITE takes a number for it. -/
theorem numeric_field {f : Field} {top : Nat} (numeric : f.top = some top) (v : Word32) (s : State) :
    f.writable = true ∧ f.top.isSome = true ∧ writeField f v s = writeNumeric f top v.toNat s := by
  cases f <;> cases numeric <;> exact ⟨rfl, rfl, rfl⟩

/-- The immediate of an ADD, and its sum, as the statement clamps them (R10, R47). -/
theorem clampInt_eq (low high x : Int) (h : low ≤ high) : clampInt x low high = max low (min high x) := by
  unfold clampInt
  split <;> [skip; split] <;> omega

/-- A request of `Spec.setting` for a field with that top and that value sets it, where the claim allows, and answers the value before. -/
theorem setting_serves {c : Instr} {s : State} {f : Field} {top : Nat} {x : Spec.Setting} (hx : Spec.setting top (s.numeric f) c = some x)
    (named : Field.ofByte x.field = some f) (numeric : f.top = some top)
    (may : f.isDrive = true → s.rcu.holder = holderOf x.head.source) (arr : Spec.Arrives x.head x.operands s) :
    exec c s = .next (Spec.accepted x.head x.kind { code := .done, flags := x.flags, value := be1 (s.numeric f) } (setNumeric f x.new s)) := by
  obtain ⟨writable, defined, _⟩ := numeric_field numeric 0 s
  obtain ⟨h, field, kind, operands, flags, new⟩ := x
  dsimp only at named may arr ⊢
  cases c with
  | write h field v =>
    cases hx
    refine exec_accepts (b := .write field v) rfl rfl arr ?_ rfl
    rw [serveOwner, serveWrite_eq, guardField_passes _ named writable rfl may, (numeric_field numeric v s).2.2]
    rfl
  | swap h field v =>
    unfold Spec.setting at hx
    dsimp only at hx
    split at hx
    · cases hx
    · rename_i live
      cases hx
      refine exec_accepts (b := .swap field v) rfl rfl arr ?_ rfl
      rw [serveOwner, serveSwap, if_neg (show ¬h.posted = true from live), guardField_passes _ named writable defined may, numeric]
      rfl
  | add h field imm =>
    cases hx
    refine exec_accepts (b := .add field imm) rfl rfl arr ?_ rfl
    rw [serveOwner, serveAdd, guardField_passes _ named writable defined may, numeric]
    simp only [addFlags, addResult, addImmediate, clampInt_eq (-255) 255 _ (by decide), clampInt_eq 0 top _ (Int.natCast_nonneg top),
      Option.getD_some, doneWith]
  | _ => cases hx

/-- Settles O8: each of the four fields takes its value through its own setter, which publishes a change. -/
theorem writesStoreTheField : Obligations.WritesStoreTheField := by
  refine ⟨fun c s x hx field arr => ?_, fun c s x hx field arr holds => ?_, fun c s x hx field arr holds clear => ?_, fun h s arr => ?_⟩
  · rw [setting_serves (f := .volume) hx (by rw [field]; rfl) rfl nofun arr]
    rfl
  · rw [setting_serves (f := .brake) hx (by rw [field]; rfl) rfl (fun _ => holds) arr]
    rfl
  · rw [setting_serves (f := .targetNotch) hx (by rw [field]; rfl) rfl (fun _ => holds) arr]
    have set : setNumeric .targetNotch x.new s = { s with
        rcu.targetNotch := x.new, moc.notch := x.new
        moc.lossBrake := s.moc.lossBrake && decide (x.new = s.rcu.targetNotch) } := by
      simp only [setNumeric, setNotch, motionTakeDriveWrite, onMoc, onRcu, clear, Bool.false_eq_true, if_false, decide_not, Bool.not_not,
        Bool.and_comm]
    rw [set]
    rfl
  · rw [exec_accepts (b := .write 6 0) rfl rfl arr (a := doneWith {} (beBool s.rcu.restarted))
      (t := onRcu (fun r => { r with restarted := false }) s) rfl rfl]
    cases s.rcu.restarted <;> rfl

end Sys2Proof.Record
end

section
/-! STATEMENTS. The function keys: KEYS, FLIP and WRITE of KEYS, with what SSQ and LTC take of a change (R11, R12, R109 to R112, R150). -/

namespace Sys2Proof.Record

open Sys2Proof.Machine Sys2Proof.Laws

/-! ## The scene player (R150) -/

/-- The player turned to row A from its STOPPED state plays it, or waits on it with a notice where its step 0 has no duration. -/
theorem enterRow_a (s : State) :
    (0 < s.ltc.rowA[0].duration ∧ enterRow .a s = { s with ltc := { s.ltc with
        player := .playing, row := .a, stepIndex := 0, remaining := s.ltc.rowA[0].duration, latch := some s.ltc.rowA[0] } })
    ∨ s.ltc.rowA[0].duration = 0 ∧ enterRow .a s = pushNotice (.sceneWaiting .a) { s with ltc := { s.ltc with
        player := .waiting, row := .a, stepIndex := 0, remaining := 0, latch := none } } := by
  have first : entryOf (s.ltc.sceneRow .a) 0 = s.ltc.rowA[0] := rfl
  unfold enterRow
  rw [first]
  by_cases h : 0 < s.ltc.rowA[0].duration
  · exact .inl ⟨h, by rw [if_pos h]; rfl⟩
  · exact .inr ⟨by omega, by rw [if_neg h]; rfl⟩

/-- The run condition is that the scene key is one, and on. -/
theorem sceneRuns_eq (s : State) : s.sceneRuns = (match s.cfs.working.sceneKey with
    | none => false
    | some k => Spec.key s.ltc.keysView k) := rfl

/-- LTC's evaluation of the scene player is `Spec.playerTakes`, with a notice where the player comes to wait. -/
theorem evaluateScene_eq (s : State) :
    evaluateScene s =
      let l := Spec.playerTakes s.cfs.working s.ltc.keysView s.ltc
      if l.player = .waiting ∧ s.ltc.player = .stopped then pushNotice (.sceneWaiting .a) { s with ltc := l } else { s with ltc := l } := by
  unfold evaluateScene Spec.playerTakes
  rw [sceneRuns_eq]
  cases s.cfs.working.sceneKey with
  | none => simp [onLtc]
  | some k =>
    cases on : Spec.key s.ltc.keysView k with
    | false => simp [on, onLtc]
    | true =>
      by_cases stopped : s.ltc.player = .stopped
      · rcases enterRow_a s with ⟨long, e⟩ | ⟨short, e⟩
        · simp [on, stopped, e, long]
        · simp [on, stopped, e, short]
      · simp [on, stopped]

/-- A change of KEYS reaches RCU, SSQ and LTC (R6). -/
theorem setKeys_eq (new : KeySet) (s : State) : setKeys new s = Spec.keysBecome new s := by
  unfold setKeys Spec.keysBecome
  split
  · rfl
  · simp only [lightsTakeKeys, evaluateScene_eq]
    rfl

/-! ## The requests (R9, R11, R12) -/

/-- A request of `Spec.keyRequest` sets the key set and answers the one before. -/
theorem keyRequest_serves {c : Instr} {s : State} {h : Head} {kind : Byte} {operands : Nat} {new : KeySet}
    (hc : Spec.keyRequest s.rcu.keys c = some (h, kind, operands, new)) (arr : Spec.Arrives h operands s) :
    exec c s = .next (Spec.accepted h kind
      { code := .done, flags := { changed := decide (new ≠ s.rcu.keys) }, value := be4 s.rcu.keys.toNat } (Spec.keysBecome new s)) := by
  rw [← setKeys_eq]
  have passes (src : Source) (defined : Field → Bool) (isFor : defined .keys = true) (k : Field → Answer × State) :
      guardField src 3 defined s k = k .keys := guardField_passes k rfl rfl isFor nofun
  cases c with
  | write h f v =>
    obtain ⟨rfl, same⟩ := Option.ite_none_right_eq_some.mp hc
    cases same
    refine exec_accepts (b := .write 3 new) rfl rfl arr ?_ rfl
    rw [serveOwner, serveWrite_eq, passes _ _ rfl]
    rfl
  | keys h f m st =>
    obtain ⟨rfl, same⟩ := Option.ite_none_right_eq_some.mp hc
    cases same
    refine exec_accepts (b := .keys 3 m st) rfl rfl arr ?_ rfl
    rw [serveOwner, serveKeys, passes _ _ rfl, maskedKeys, BitVec.or_comm]
    rfl
  | flip h f m =>
    obtain ⟨rfl, same⟩ := Option.ite_none_right_eq_some.mp hc
    cases same
    refine exec_accepts (b := .flip 3 m) rfl rfl arr ?_ rfl
    rw [serveOwner, serveFlip, passes _ _ rfl]
    rfl
  | _ => cases hc

/-! ## The edges (R109 to R112) -/

/-- SSQ forms the edge of each binding (R109). -/
theorem bindingEdge_eq (c : Configuration) (old new : KeySet) : Ssq.bindingEdge c old new = Spec.edge c old new := by
  funext q i
  unfold Ssq.bindingEdge Spec.edge
  simp only [Bool.and_eq_true, Bool.not_eq_true']
  rfl

/-- A clip that is USABLE starts on its voice (R104). -/
theorem startClip_usable {q : Ssq} {voice : Fin 6} {clip : Fin 64} {d : Descriptor} (usable : q.clips[clip] = some d) (gain : Nat)
    (owner : Option (Fin 16)) :
    q.startClip voice clip gain owner = { q with voices := q.voices.set voice (Spec.started clip gain owner) } := by
  simp [Ssq.startClip, usable, Ssq.mapVoice, Voice.begin, Spec.started]

/-- An on-edge starts the clip, jumps back, or leaves the voice (R110, R112). -/
theorem onEdge_eq (q : Ssq) (i : Fin 16) (b : KeyBinding) :
    q.onEdge i b = (match q.clips[b.clip] with
      | none => q
      | some d =>
        if b.mode = .oneshot then { q with voices := q.voices.set b.voice (Spec.started b.clip b.gain none) }
        else if (q.voices[b.voice]).owner ≠ some i ∨ d.loopEnd = 0 then
          { q with voices := q.voices.set b.voice (Spec.started b.clip b.gain (some i)) }
        else if (q.voices[b.voice]).state = .tail then
          { q with voices := q.voices.set b.voice (Spec.backInLoop q.voices[b.voice] d.loopStart) }
        else q) := by
  unfold Ssq.onEdge
  cases usable : q.clips[b.clip] with
  | none => rfl
  | some d =>
    cases mode : b.mode with
    | oneshot => simp [startClip_usable usable]
    | hold =>
      dsimp only
      rw [if_neg (show ¬BindingMode.hold = .oneshot by decide)]
      have loops : d.loops = true ↔ d.loopEnd ≠ 0 := by simp [Descriptor.loops]
      by_cases owns : (q.voices[b.voice]).owner = some i
      · by_cases once : d.loopEnd = 0
        · rw [if_neg fun h => loops.mp h.2 once, if_pos (.inr once)]
          exact startClip_usable usable _ _
        · rw [if_pos ⟨owns, loops.mpr once⟩, if_neg (show ¬((q.voices[b.voice]).owner ≠ some i ∨ d.loopEnd = 0) by tauto)]
          rfl
      · rw [if_neg fun h => owns h.1, if_pos (.inl owns)]
        exact startClip_usable usable _ _

/-- An off-edge of HOLD drops a queued clip of its own voice and lets a PAUSED fetch run on into TAIL (R111). -/
theorem offEdge_eq (q : Ssq) (i : Fin 16) (b : KeyBinding) :
    q.offEdge i b = (if b.mode = .hold ∧ (q.voices[b.voice]).owner = some i then
        let v := q.voices[b.voice]
        let u := { v with queued := none }
        let w := if v.fetch = .paused then Spec.inTail u ((q.clips[v.clip]).getD ⟨0, 0, 0, 0⟩).length else u
        { q with voices := q.voices.set b.voice w }
      else q) := by
  unfold Ssq.offEdge
  cases mode : b.mode with
  | oneshot => simp
  | hold =>
    by_cases owns : (q.voices[b.voice]).owner = some i
    · simp only [owns, if_true, and_self]
      rfl
    · dsimp only
      rw [if_neg owns, if_neg fun h => owns h.2]

/-- Settles O12. -/
theorem keyRequestsSetTheKeys : Obligations.KeyRequestsSetTheKeys := by
  refine ⟨fun c s ⟨h, kind, operands, new⟩ hc arr => keyRequest_serves hc arr, fun q c new => ?_,
    fun q i b => ⟨onEdge_eq q i b, offEdge_eq q i b⟩⟩
  have bindings : allBindings = List.finRange 16 := by decide
  unfold Ssq.takeKeys
  simp only [Ssq.ignores, Bool.or_eq_true, beq_iff_eq, bindings, bindingEdge_eq]

/-! ## FLIP (R12) -/

/-- The key set that a change of KEYS leaves, and what it leaves of the ports. -/
theorem keysBecome_frame (new : KeySet) (s : State) :
    (Spec.keysBecome new s).rcu.keys = new ∧ (Spec.keysBecome new s).hpt.out = s.hpt.out
      ∧ (Spec.keysBecome new s).rcu.holder = s.rcu.holder := by
  unfold Spec.keysBecome
  split
  · rename_i same
    exact ⟨same.symm, rfl, rfl⟩
  · simp only []
    split
    · exact ⟨rfl, (push_frame _ _).2.2.1, rfl⟩
    · exact ⟨rfl, rfl, rfl⟩

/-- The refresh of the lease leaves the keys and the Host Port. -/
theorem leased_frame (src : Source) (s : State) : (Spec.leased src s).rcu.keys = s.rcu.keys ∧ (Spec.leased src s).hpt = s.hpt := by
  unfold Spec.leased
  split <;> exact ⟨rfl, rfl⟩

/-- Settles O13. -/
theorem flipTogglesTheMask : Obligations.FlipTogglesTheMask := by
  intro h mask s arr
  have done := keyRequest_serves (c := .flip h 3 mask) (s := s) rfl arr
  have changed : (s.rcu.keys ^^^ mask ≠ s.rcu.keys) ↔ mask ≠ 0 := by
    rw [not_iff_not]
    constructor
    · intro same
      have := congrArg (s.rcu.keys ^^^ ·) same
      simpa [← BitVec.xor_assoc] using this
    · rintro rfl
      exact BitVec.xor_zero
  have notHalt : ((0x14 : Byte) == 0x18) = false := by decide
  simp only [changed] at done
  obtain ⟨keys, out, _⟩ := keysBecome_frame (s.rcu.keys ^^^ mask) s
  obtain ⟨sameKeys, samePort⟩ := leased_frame h.source (Spec.keysBecome (s.rcu.keys ^^^ mask) s)
  refine ⟨⟨_, done, ?_, fun other => ?_, fun k => ?_⟩, ?_⟩
  · unfold Spec.accepted
    cases src : h.source with
    | host =>
      rw [(answered_host src _ rfl _).2]
      dsimp only
      rw [if_pos rfl, notHalt, Bool.or_false]
      by_cases m : mask = 0
      · simp only [m, ne_eq, not_true_eq_false, decide_false, if_true]
        rfl
      · simp only [m, ne_eq, not_false_eq_true, decide_true, if_false]
        rfl
    | throttle id =>
      rw [src] at samePort
      rw [(answered_throttle src _ rfl _).1, samePort, out, if_neg nofun]
  · unfold Spec.accepted
    cases src : h.source with
    | host => exact absurd src other
    | throttle id =>
      rw [(answered_throttle src _ rfl _).2]
      dsimp only
      rw [notHalt, Bool.or_false]
  · have set : (Spec.accepted h 0x14 { code := .done, flags := { changed := decide (mask ≠ 0) }, value := be4 s.rcu.keys.toNat }
        (Spec.keysBecome (s.rcu.keys ^^^ mask) s)).rcu.keys = s.rcu.keys ^^^ mask := by
      rw [Spec.accepted, (answered_frame ..).1, sameKeys, keys]
    unfold Spec.key
    rw [set, BitVec.getLsbD_xor]
    cases mask.getLsbD k.val <;> simp
  · rintro rfl
    rw [done]
    simp [Spec.keysBecome]

end Sys2Proof.Record
end

section
/-! The drive claim: CLAIM and RELEASE (O15, O16). -/

namespace Sys2Proof.Record

open Sys2Proof.Machine Sys2Proof.Laws

/-! ## The holder and its rank (R16, R17) -/

/-- The dispatcher list holds two IDs (1.5.1). -/
theorem dispatches_iff (c : Configuration) (id : Byte) :
    c.dispatches id = true ↔ c.dispatchers[0] = some id ∨ c.dispatchers[1] = some id := by
  have list : c.dispatchers.toList = [c.dispatchers[0], c.dispatchers[1]] := by
    refine List.ext_getElem (by simp) fun i hi hi' => ?_
    have small : i < 2 := by simpa using hi
    match i, small with
    | 0, _ => simp
    | 1, _ => simp
  simp [Configuration.dispatches, list]

/-- The rank of a holder is `Spec.rank` (1.5.1). -/
theorem rank_eq (c : Configuration) (h : Holder) : c.rank h = Spec.rank c h := by
  cases h with
  | none => rfl
  | throttle id => simp only [Configuration.rank, Spec.rank, dispatches_iff]
  | hostProcessor =>
    unfold Configuration.rank Spec.rank
    cases c.hostRank <;> rfl

/-- An entry leaves the throttle table with a change of the holder exactly where `Spec.holderBecomes` says so (R36, log entry 49). -/
theorem agedEntry_eq (src : Source) (s : State) (e : ThrottleEntry) :
    (s.rif.holderView.names e.id && decide (e.lastHeard + Config.entryAge < s.now) && !s.rif.handles (frameOf src) e.id)
      = (decide (s.rif.holderView = .throttle e.id) && decide (e.lastHeard + 960000000 < s.now)
          && decide (src ≠ .throttle e.id) && decide (s.rif.handling.map (·.thr) ≠ some e.id)) := by
  have named : s.rif.holderView.names e.id = decide (s.rif.holderView = .throttle e.id) := by
    cases s.rif.holderView <;> simp [Holder.names]
  have sender : (frameOf src == some e.id) = decide (src = .throttle e.id) := by
    cases src <;> simp [frameOf, beq_eq_decide]
  have kept : (s.rif.handling.any fun run => run.thr == e.id) = decide (s.rif.handling.map (·.thr) = some e.id) := by
    cases s.rif.handling <;> simp [beq_eq_decide]
  rw [named, Rif.handles, sender, kept, Bool.not_or, Bool.and_assoc, Bool.and_assoc, Bool.and_assoc, decide_not, decide_not]
  rfl

/-- A change of DRIVE_HOLDER is `Spec.holderBecomes`. -/
theorem setHolder_eq (src : Source) (h : Holder) (s : State) : setHolder (frameOf src) h s = Spec.holderBecomes src h s := by
  unfold setHolder Spec.holderBecomes
  split
  · rfl
  · simp only [← agedEntry_eq]
    rfl

/-- What a change of DRIVE_HOLDER leaves of RCU, of MOC and of LTC. -/
theorem holderBecomes_frame (src : Source) (h : Holder) (s : State) :
    (Spec.holderBecomes src h s).rcu = { s.rcu with holder := h } ∧ (Spec.holderBecomes src h s).moc = s.moc
      ∧ (Spec.holderBecomes src h s).ltc = s.ltc := by
  unfold Spec.holderBecomes
  split
  · rename_i same
    rw [same]
    exact ⟨rfl, rfl, rfl⟩
  · exact ⟨rfl, rfl, rfl⟩

/-! ## CLAIM (R16, R17) -/

/-- A CLAIM of the requester's own succeeds where the holder is the expected one and gives way (R16). -/
theorem claimSucceeds_iff (s : State) (src : Source) (expected : Byte) :
    s.claimSucceeds src expected = true ↔ s.rcu.holder = Spec.named expected
      ∧ (s.rcu.holder = .none ∨ s.rcu.holder = holderOf src
          ∨ Spec.rank s.cfs.working s.rcu.holder < Spec.rank s.cfs.working (holderOf src)) := by
  simp only [State.claimSucceeds, State.holds, State.cfg, rank_eq, Bool.and_eq_true, Bool.or_eq_true, decide_eq_true_eq, or_assoc]
  rfl

/-- The claim taken, with the refresh of the lease that an accepted request of the holder brings (R17, R19). -/
theorem leased_takeClaim (src : Source) (s : State) :
    Spec.leased src (takeClaim src s) = { Spec.holderBecomes src (holderOf src) s with
      rcu.holder := holderOf src, rcu.failsafe := false, rcu.lease := .running (s.now + 1600000 * s.cfs.working.leaseTime)
      ltc.failsafeView := false } := by
  have due : 16000 * (100 * s.cfs.working.leaseTime) = 1600000 * s.cfs.working.leaseTime := by omega
  have holds : (takeClaim src s).rcu.holder = holderOf src := by
    rw [takeClaim, setHolder_eq, (holderBecomes_frame ..).1]
  unfold Spec.leased
  rw [if_pos holds]
  unfold takeClaim
  rw [setHolder_eq]
  unfold Spec.holderBecomes
  by_cases same : holderOf src = s.rcu.holder
  · rw [if_pos same, if_pos (show holderOf src = (setFailsafe false (startLease s)).rcu.holder from same), same]
    rfl
  · rw [if_neg same, if_neg (show ¬holderOf src = (setFailsafe false (startLease s)).rcu.holder from same)]
    rfl

/-- Settles O15. -/
theorem claimComparesAndSwaps : Obligations.ClaimComparesAndSwaps := by
  intro h expected asked s arr
  dsimp only
  have refused {a : Answer} (owner : serveClaim h.source h.posted expected asked s = (a, s)) (ref : a.code.refuses = true) :
      exec (.claim h expected asked) s = .next (Spec.answered h 0x16 a s) :=
    exec_refuses (b := .claim expected asked) rfl rfl arr owner ref
  cases live : h.control.getLsbD 0 with
  | true => 
    rw [if_pos rfl]
    exact refused (by rw [serveClaim, Head.posted, live, if_pos rfl]; rfl) rfl
  | false =>
    rw [if_neg Bool.false_ne_true]
    have awaited : ¬h.posted = true := by rw [Head.posted, live]; exact Bool.false_ne_true
    split
    · rename_i other
      exact refused (by rw [serveClaim, if_neg awaited, if_pos other]) rfl
    · rename_i me
      split
      · rename_i succeeds
        rw [exec_accepts (b := .claim expected asked) rfl rfl arr (a := { code := .done, flags := { claimOk := true }, value := [s.rcu.holder.byte] })
          (t := takeClaim h.source s)
          (by rw [serveOwner, serveClaim, if_neg awaited, if_neg me, if_pos ((claimSucceeds_iff s h.source expected).mpr succeeds)]; rfl) rfl,
          Spec.accepted, leased_takeClaim]
        rfl
      · rename_i fails
        exact exec_accepts (b := .claim expected asked) rfl rfl arr
          (by rw [serveOwner, serveClaim, if_neg awaited, if_neg me, if_neg (mt (claimSucceeds_iff s h.source expected).mp fails)]; rfl) rfl

/-! ## RELEASE (R18) -/

/-- STOP sets TARGET_NOTCH to 0 where it is not, and ends a BRAKE loss action with it (R18, R52; log entry 20). -/
theorem stopNotch_eq (s : State) :
    stopNotch s = { s with
      rcu.targetNotch := 0
      moc.notch := if s.rcu.targetNotch = 0 then s.moc.notch else 0
      moc.lossBrake := s.moc.lossBrake && decide (s.rcu.targetNotch = 0) } := by
  unfold stopNotch
  split
  · rename_i zero
    rw [← zero]
    simp
  · rename_i nonzero
    simp [motionTakeStop, onMoc, onRcu, nonzero]

/-- The state that a RELEASE leaves (R18). -/
theorem serveRelease_done {src : Source} {choice : Byte} {s : State} (known : choice.toNat ≤ 1) (holds : s.rcu.holder = holderOf src) :
    serveRelease src choice s = ({ code := .done, value := [s.rcu.holder.byte] },
      let stops := decide (choice = 1) && decide (s.rcu.targetNotch ≠ 0)
      let u := Spec.holderBecomes src .none s
      { u with
        rcu.lease := .stopped
        rcu.targetNotch := if stops then 0 else s.rcu.targetNotch
        moc.notch := if stops then 0 else s.moc.notch
        moc.lossBrake := s.moc.lossBrake && !stops }) := by
  have changes (u : State) (same : u.rcu.holder = s.rcu.holder) : ¬Holder.none = u.rcu.holder := by
    rw [same, holds]
    exact fun none => holderOf_ne_none src none.symm
  rw [serveRelease, if_neg (Nat.not_lt_of_le known), if_neg (by simp [State.holds, holds])]
  dsimp only
  rw [setHolder_eq, stopNotch_eq, Spec.holderBecomes, Spec.holderBecomes, if_neg (changes s rfl)]
  by_cases stop : choice = 1
  · simp only [if_pos stop, onRcu]
    rw [if_neg (changes _ rfl)]
    by_cases zero : s.rcu.targetNotch = 0 <;> simp [stop, zero, pushNotice, doneWith]
  · simp only [if_neg stop, onRcu]
    rw [if_neg (changes _ rfl)]
    simp only [decide_eq_false stop, Bool.false_and, Bool.false_eq_true, if_false, Bool.not_false, Bool.and_true]
    rfl

/-- Settles O16: what RELEASE takes back of the claim is `Spec.holderBecomes`, and no lease is refreshed after it. -/
theorem releaseGivesUpTheClaim : Obligations.ReleaseGivesUpTheClaim := by
  intro h choice s arr
  have refuses {code : Code} (owner : serveRelease h.source choice s = (refusal code, s)) (ref : code.refuses = true) :
      exec (.release h choice) s = .next (Spec.refused h 0x17 code s) :=
    exec_refuses (b := .release choice) rfl rfl arr owner ref
  refine ⟨fun above => refuses (by rw [serveRelease, if_pos above]) rfl, fun known other => refuses ?_ rfl, fun known holds => ?_⟩
  · rw [serveRelease, if_neg (Nat.not_lt_of_le known), if_pos (by simp [State.holds, other])]
  · rw [exec_accepts (b := .release choice) rfl rfl arr (serveRelease_done known holds) rfl, Spec.accepted, Spec.leased, if_neg]
    · rfl
    · dsimp only
      rw [(holderBecomes_frame ..).1]
      exact fun none => holderOf_ne_none _ none.symm

end Sys2Proof.Record
end

section
/-! SUPPORT. What MOC does between two control steps: the state it evaluates, the flip of RUN_DIRECTION, and a DIRECTION write (R54 to R58). -/

namespace Sys2Proof.Laws

open Sys2Proof.Machine

variable (s : State)

/-- A motion trigger does what its binding says (R114). -/
theorem takeTrigger_eq (q : Ssq) (c : Configuration) (t : Trigger) : q.takeTrigger c t = Spec.triggered t.entry c q := by
  unfold Ssq.takeTrigger Spec.triggered
  simp only [Ssq.ignores, Bool.or_eq_true, beq_iff_eq]
  cases c.eventBindings[t.entry].clip with
  | none => rfl
  | some clip =>
    dsimp only [Ssq.startClip]
    cases q.clips[clip] <;> rfl

/-- The flip of RUN_DIRECTION (R57). -/
theorem flipDirection_eq : flipDirection s = Spec.runDirectionBecomes s.moc.directionView s := by
  simp only [flipDirection, raiseTrigger, takeTrigger_eq, Spec.runDirectionBecomes, zeroIntegrators, Moc.mapTrucks, lightsTakeMotion,
    handPolarity, onMoc, onLtc, publish, State.cfg, Trigger.entry]

/-- The motion state that holds is MOC's own matter (R58). -/
theorem motionStateNow_eq : s.motionStateNow = Spec.motionOf s.moc := by
  have goes : 0 < 16 * s.notchSpeed ↔ 0 < speedTarget s.moc.curve s.moc.notch := by
    unfold State.notchSpeed
    omega
  unfold State.motionStateNow Spec.motionOf
  simp only [goes]

/-- An evaluation of the motion state takes the state that holds (R58). -/
theorem evaluateMotion_eq : evaluateMotion s = Spec.motionBecomes (Spec.motionOf s.moc) s := by
  unfold evaluateMotion
  rw [motionStateNow_eq]
  rfl

/-- MOC takes a DIRECTION publication: a flip at P = 0, and above it a reversal or its end (R54, R56, R57). -/
theorem motionTakeDirection_eq (d : Direction) (rest : RestInv s) :
    motionTakeDirection d s =
      let u := { s with moc.directionView := d, moc.lossBrake := false }
      if s.moc.motionState = .suspended then u
      else if s.moc.ramp = 0 then (if d = s.moc.runDirection then u else Spec.runDirectionBecomes d u)
      else if d ≠ s.moc.runDirection then Spec.motionBecomes .reversing { u with moc.reversalPending := true }
      else if s.moc.reversalPending then Spec.motionBecomes .driving { u with moc.reversalPending := false }
      else u := by
  unfold motionTakeDirection
  dsimp only [onMoc]
  by_cases stands : s.moc.motionState = .suspended
  · rw [if_pos stands, if_pos stands]
  rw [if_neg stands, if_neg stands]
  by_cases still : s.moc.ramp = 0
  · rw [if_pos still, if_pos still, flipDirection_eq]
  rw [if_neg still, if_neg still]
  have runs : s.moc.emergencyLatch = false := by
    cases latch : s.moc.emergencyLatch with
    | false => rfl
    | true => exact absurd (rest.rest (.inl latch)) still
  have powered : s.moc.shedView ≠ 4 := fun off => still (rest.rest (.inr off))
  have noEmergency : ¬s.moc.motionState = .emergency := fun e => by
    have := (rest.emergency.mp e).1
    rw [runs] at this
    cases this
  rw [if_neg noEmergency]
  by_cases back : d = s.moc.runDirection
  · rw [if_pos back, if_neg (not_not_intro back)]
    by_cases pending : s.moc.reversalPending = true
    · rw [if_pos pending, if_pos pending, evaluateMotion_eq]
      have drives : Spec.motionOf { s.moc with directionView := d, lossBrake := false, reversalPending := false } = .driving := by
        simp [Spec.motionOf, powered, runs, Nat.pos_of_ne_zero still]
      simp only [drives]
    · rw [if_neg pending, if_neg pending]
  · have reverses : Spec.motionOf { s.moc with directionView := d, lossBrake := false, reversalPending := true } = .reversing := by
      simp [Spec.motionOf, powered, runs]
    rw [if_neg back, if_pos back, evaluateMotion_eq]
    simp only [reverses]

end Sys2Proof.Laws

namespace Sys2Proof.Record

open Sys2Proof.Machine Sys2Proof.Laws

/-- Settles O10. -/
theorem directionWriteTurnsTheTrain : Obligations.DirectionWriteTurnsTheTrain := by
  intro h d s arr holds rest prior u
  have writes : serveOwner h.source h.posted h.tag (.write 1 (BitVec.ofNat 32 d.code)) s
      = ({ code := .done, value := [Spec.byte s.rcu.direction.code] }, setDirection d s) := by
    rw [serveOwner, serveWrite_eq, guardField_passes (f := .direction) _ rfl rfl rfl fun _ => holds]
    cases d <;> rfl
  rw [exec_accepts (b := .write 1 (BitVec.ofNat 32 d.code)) rfl rfl arr writes rfl]
  unfold setDirection
  by_cases same : d = s.rcu.direction
  · rw [if_pos same, if_pos same]
    rfl
  · rw [if_neg same, if_neg same,
      motionTakeDirection_eq (onRcu (fun r => { r with direction := d }) s) d ⟨rest.suspended, rest.emergency, rest.rest⟩]
    rfl

end Sys2Proof.Record
end

section
/-! SUPPORT. What MOC's handings between two control steps leave of the other blocks, and what they do to the bridges (R57 to R59, R68, R76). -/

namespace Sys2Proof.Laws

open Sys2Proof.Machine

/-! ## The frame of MOC's handings -/

/-- MOC has gone from `s` to `t` by itself: RCU's own fields, the radio, the power, the store, the beat and every fault record stand, the port
has at most `n` notices more, and the heater keeps its duty. -/
structure MotionTurns (n : Nat) (s t : State) : Prop where
  rcu     : t.rcu = { s.rcu with views := t.rcu.views }
  rif     : t.rif = s.rif
  pws     : t.pws = s.pws
  cfs     : t.cfs = s.cfs
  btg     : t.btg = s.btg
  now     : t.now = s.now
  port    : t.hpt.transaction = s.hpt.transaction ∧ t.hpt.out = s.hpt.out
  notices : t.hpt.notices.length ≤ s.hpt.notices.length + n
  heater  : t.smu.heater = s.smu.heater
  record  : ∀ o, (t.odu.watch o).record = (s.odu.watch o).record

/-- MOC's own state is its own matter. -/
theorem MotionTurns.onMoc (f : Moc → Moc) (s : State) : MotionTurns 0 s (onMoc f s) :=
  ⟨rfl, rfl, rfl, rfl, rfl, rfl, ⟨rfl, rfl⟩, Nat.le_refl _, rfl, fun _ => rfl⟩

theorem MotionTurns.refl (s : State) : MotionTurns 0 s s := MotionTurns.onMoc id s

theorem MotionTurns.trans {n m : Nat} {s t u : State} (h : MotionTurns n s t) (k : MotionTurns m t u) : MotionTurns (n + m) s u where
  rcu     := by
    rw [k.rcu, h.rcu]
  rif     := k.rif.trans h.rif
  pws     := k.pws.trans h.pws
  cfs     := k.cfs.trans h.cfs
  btg     := k.btg.trans h.btg
  now     := k.now.trans h.now
  port    := ⟨k.port.1.trans h.port.1, k.port.2.trans h.port.2⟩
  notices := by
    have := h.notices
    have := k.notices
    omega
  heater  := k.heater.trans h.heater
  record  := fun o => (k.record o).trans (h.record o)

theorem MotionTurns.mono {n m : Nat} {s t : State} (h : MotionTurns n s t) (le : n ≤ m) : MotionTurns m s t :=
  { h with notices := Nat.le_trans h.notices (Nat.add_le_add_left le _) }

/-- A push adds one notice at most. -/
theorem push_grows (h : Hpt) (n : Notice) : (h.push n).notices.length ≤ h.notices.length + 1 := by
  unfold Hpt.push
  split
  · simp
  · split
    · exact Nat.le_succ _
    · rename_i full
      have event : h.notices.any Notice.isEvent = true := by
        simp only [Bool.or_eq_true, not_or, List.all_eq_true, not_forall] at full
        obtain ⟨_, m, hm, e⟩ := full
        exact List.any_eq_true.mpr ⟨m, hm, by simpa using e⟩
      have := dropOldestEvent_length event
      simp only [List.length_append, List.length_singleton]
      omega

variable (s : State)

/-- A command that ODU takes leaves the fault records (R172). -/
theorem takeCommand_record (o u : Output) (n : Nat) : ((takeCommand o n s).odu.watch u).record = (s.odu.watch u).record := by
  unfold takeCommand
  simp only [watch_setWatch]
  split
  · rename_i same
    rw [same]
  · rfl

/-- SMU takes a motion state: the fan alone may follow it (R133). -/
theorem smokeTakeMotion_turns (m : MotionState) : MotionTurns 0 s (smokeTakeMotion m s) := by
  unfold smokeTakeMotion
  dsimp only
  split
  · exact ⟨rfl, rfl, rfl, rfl, rfl, rfl, ⟨rfl, rfl⟩, Nat.le_refl _, rfl, fun o => takeCommand_record _ _ o _⟩
  · exact ⟨rfl, rfl, rfl, rfl, rfl, rfl, ⟨rfl, rfl⟩, Nat.le_refl _, rfl, fun _ => rfl⟩

/-- The blocks that SMU's taking of a motion state does not touch. -/
theorem smokeTakeMotion_frame (m : MotionState) :
    (smokeTakeMotion m s).moc = s.moc ∧ (smokeTakeMotion m s).bmu = s.bmu ∧ (smokeTakeMotion m s).rcu = s.rcu
      ∧ (smokeTakeMotion m s).hpt = s.hpt := by
  unfold smokeTakeMotion
  dsimp only
  split <;> exact ⟨rfl, rfl, rfl, rfl⟩

/-- A change of the motion state pushes one notice (R58). -/
theorem motionBecomes_turns (m : MotionState) : MotionTurns 1 s (Spec.motionBecomes m s) := by
  unfold Spec.motionBecomes
  split
  · exact (MotionTurns.refl s).mono (Nat.zero_le 1)
  · obtain ⟨_, _, _, hpt⟩ := smokeTakeMotion_frame { s with moc.motionState := m, rcu.views.motionState := m } m
    obtain ⟨rcu, rif, pws, cfs, btg, now, _, _, heater, record⟩ :=
      smokeTakeMotion_turns { s with moc.motionState := m, rcu.views.motionState := m } m
    obtain ⟨_, transaction, out, _⟩ := push_frame s.hpt (.motionState m)
    refine ⟨rcu, rif, pws, cfs, btg, now, ?_, ?_, heater, record⟩
    · rw [pushNotice_hpt, hpt]
      exact ⟨transaction, out⟩
    · rw [pushNotice_hpt, hpt]
      exact push_grows s.hpt _

/-- What the motion state takes in MOC, in RCU and in BMU (R58). -/
theorem motionBecomes_takes (m : MotionState) :
    (Spec.motionBecomes m s).moc = { s.moc with motionState := m }
    ∧ (Spec.motionBecomes m s).bmu = s.bmu
    ∧ (Spec.motionBecomes m s).rcu.views.motionState = if m = s.moc.motionState then s.rcu.views.motionState else m := by
  unfold Spec.motionBecomes
  split
  · rename_i same
    rw [same]
    exact ⟨rfl, rfl, rfl⟩
  · obtain ⟨moc, bmu, rcu, _⟩ := smokeTakeMotion_frame { s with moc.motionState := m, rcu.views.motionState := m } m
    simp only [pushNotice_moc, pushNotice_bmu, pushNotice_rcu, moc, bmu, rcu, and_self]

/-- The completion of a reversal is none where none is pending, and else the flip of RUN_DIRECTION (R57). -/
theorem completeReversal_eq :
    completeReversal s = if s.moc.reversalPending then Spec.runDirectionBecomes s.moc.directionView s else s := by
  unfold completeReversal
  rw [flipDirection_eq]

/-- The completion of a reversal stays with MOC and what it publishes (R57). -/
theorem completeReversal_turns : MotionTurns 0 s (completeReversal s) := by
  rw [completeReversal_eq]
  split
  · exact ⟨rfl, rfl, rfl, rfl, rfl, rfl, ⟨rfl, rfl⟩, Nat.le_refl _, rfl, fun _ => rfl⟩
  · exact .refl s

/-- What the completion of a reversal is to MOC, to RCU's motion state and to the bridges (R57). -/
theorem completeReversal_takes :
    (completeReversal s).moc = (if s.moc.reversalPending then
        { s.moc with runDirection := s.moc.directionView, reversalPending := false, front.integral := 0, rear.integral := 0 } else s.moc)
    ∧ (completeReversal s).rcu.views.motionState = s.rcu.views.motionState
    ∧ (completeReversal s).bmu = { s.bmu with
        polarityShadow := if s.moc.reversalPending then s.moc.directionView else s.bmu.polarityShadow } := by
  rw [completeReversal_eq]
  split <;> exact ⟨rfl, rfl, rfl⟩

/-- The end of a slip pushes one notice at most (R68). -/
theorem endSlip_turns : MotionTurns 1 s (endSlip s) := by
  rcases endSlip_cases s with ⟨_, e⟩ | ⟨t, _, e⟩ <;> rw [e]
  · exact ⟨rfl, rfl, rfl, rfl, rfl, rfl, ⟨rfl, rfl⟩, Nat.le_succ _, rfl, fun _ => rfl⟩
  · obtain ⟨_, transaction, out, _⟩ := push_frame s.hpt (.slip true t)
    exact ⟨rfl, rfl, rfl, rfl, rfl, rfl, ⟨transaction, out⟩, push_grows s.hpt _, rfl, fun _ => rfl⟩

/-- What the end of a slip is to MOC (R68). -/
theorem endSlip_moc :
    (endSlip s).moc = { s.moc with
      slipState := .grip, slipCount := 0, slipCap := if s.moc.slipState = .grip then s.moc.slipCap else 1023 } := by
  rcases endSlip_cases s with ⟨grip, e⟩ | ⟨t, slips, e⟩ <;> rw [e]
  · simp [grip]
  · simp [slips]

/-- The end of a slip leaves RCU's motion state. -/
theorem endSlip_shown : (endSlip s).rcu.views.motionState = s.rcu.views.motionState := by
  rcases endSlip_cases s with ⟨_, e⟩ | ⟨t, _, e⟩ <;> rw [e]

/-- The end of a slip leaves the bridges. -/
theorem endSlip_bmu : (endSlip s).bmu = s.bmu := by
  rcases endSlip_cases s with ⟨_, e⟩ | ⟨t, _, e⟩ <;> rw [e]

/-! ## A mode handed to a bridge (R76) -/

/-- The schedule and the gap stand while a bridge is replaced. -/
@[simp] theorem setBridge_schedule (m : Bmu) (t : Truck) (b : Bridge) :
    (m.setBridge t b).running = m.running ∧ (m.setBridge t b).gap = m.gap ∧ (m.setBridge t b).polarityShadow = m.polarityShadow := by
  cases t <;> exact ⟨rfl, rfl, rfl⟩

/-- A mode handed to a bridge acts at once: the schedule runs, and neither a hold-off nor a gap keeps the bridge off (R76). -/
def actsOn (m : Bmu) (t : Truck) : Bool := m.running && !(m.bridge t).heldOff && !m.gap.keepsOff

/-- BMU gains on no other place than one bridge, and the count of free charges (R80, log entry 7). -/
def OneBridge (t : Truck) (s u : State) : Prop :=
  u = { s with bmu := s.bmu.setBridge t (u.bmu.bridge t), freeIndex := u.freeIndex }

/-- A drive cut short is a matter of its bridge. -/
theorem cutDrive_oneBridge (t : Truck) : OneBridge t s (cutDrive t s) := by
  unfold OneBridge
  rcases cutDrive_cases s t with ⟨_, e⟩ | ⟨_, _, _, e⟩ | ⟨_, _, _, e⟩ <;> rw [e] <;> cases t <;> rfl

theorem OneBridge.set (t : Truck) (b : Bridge) : OneBridge t s (setBridge t b s) := by
  unfold OneBridge
  cases t <;> rfl

theorem OneBridge.trans {t : Truck} {s u v : State} (h : OneBridge t s u) (k : OneBridge t u v) : OneBridge t s v := by
  unfold OneBridge at *
  rw [k, h]
  cases t <;> rfl

/-- A bridge switched off is a matter of its own. -/
theorem switchOff_oneBridge (t : Truck) : OneBridge t s (switchOff t s) :=
  (cutDrive_oneBridge s t).trans (.set _ t _)

/-- A mode handed to a bridge waits in its shadow, and has its effect where it acts (R76). -/
theorem handMode_eq (t : Truck) (mode : BridgeMode) :
    handMode t mode s =
      let u := setBridge t { s.bmu.bridge t with modeShadow := mode } s
      if actsOn s.bmu t then
        match mode with
        | .drive => u
        | .coast => switchOff t u
        | .shortBrake =>
          if (s.bmu.bridge t).output = .braking then u
          else setBridge t (((cutDrive t u).bmu.bridge t).brake (cutDrive t u).now) (cutDrive t u)
      else u := by
  have stays : (!s.bmu.running || (s.bmu.bridge t).heldOff || s.bmu.gap.keepsOff) = !actsOn s.bmu t := by
    simp [actsOn]
  unfold handMode
  dsimp only
  simp only [setBridge_bmu, setBridge_schedule, bridge_setBridge, if_true, stays]
  cases actsOn s.bmu t <;> rfl

/-- A mode handed to a bridge is a matter of that bridge. -/
theorem handMode_oneBridge (t : Truck) (mode : BridgeMode) : OneBridge t s (handMode t mode s) := by
  rw [handMode_eq]
  have shadow := OneBridge.set s t { s.bmu.bridge t with modeShadow := mode }
  dsimp only
  split
  · cases mode with
    | drive => exact shadow
    | coast => exact shadow.trans (switchOff_oneBridge _ t)
    | shortBrake =>
      dsimp only
      split
      · exact shadow
      · exact shadow.trans ((cutDrive_oneBridge _ t).trans (.set _ t _))
  · exact shadow

/-- A drive cut short leaves the shadows and the output of its bridge, and the time. -/
theorem cutDrive_bridge (t : Truck) :
    ((cutDrive t s).bmu.bridge t).modeShadow = (s.bmu.bridge t).modeShadow
    ∧ ((cutDrive t s).bmu.bridge t).dutyShadow = (s.bmu.bridge t).dutyShadow := by
  rcases cutDrive_cases s t with ⟨_, e⟩ | ⟨_, _, _, e⟩ | ⟨_, _, _, e⟩ <;> rw [e] <;> cases t <;> exact ⟨rfl, rfl⟩

/-- The shadows of a bridge after a mode handed to it (R76). -/
theorem handMode_shadows (t : Truck) (mode : BridgeMode) :
    ((handMode t mode s).bmu.bridge t).modeShadow = mode
    ∧ ((handMode t mode s).bmu.bridge t).dutyShadow = (s.bmu.bridge t).dutyShadow := by
  rw [handMode_eq]
  dsimp only
  have shadow : ((setBridge t { s.bmu.bridge t with modeShadow := mode } s).bmu.bridge t) = { s.bmu.bridge t with modeShadow := mode } := by
    simp
  split
  · cases mode with
    | drive => simp
    | coast =>
      obtain ⟨_, _, _, duty, kept⟩ := switchOff_bridge (setBridge t { s.bmu.bridge t with modeShadow := .coast } s) t
      dsimp only
      rw [kept, duty, shadow]
      exact ⟨rfl, rfl⟩
    | shortBrake =>
      dsimp only
      split
      · simp
      · obtain ⟨kept, duty⟩ := cutDrive_bridge (setBridge t { s.bmu.bridge t with modeShadow := .shortBrake } s) t
        rw [setBridge_bmu, bridge_setBridge, if_pos rfl]
        rw [shadow] at kept duty
        exact ⟨kept, duty⟩
  · simp

/-- A bridge that SHORT_BRAKE acts on is BRAKING; one that was already goes on (R76). -/
theorem handMode_brakes {t : Truck} (acts : actsOn s.bmu t = true) :
    ((handMode t .shortBrake s).bmu.bridge t).output = .braking
    ∧ ((handMode t .shortBrake s).bmu.bridge t).drivenSince
        = if (s.bmu.bridge t).output = .braking then (s.bmu.bridge t).drivenSince else none := by
  rw [handMode_eq]
  dsimp only
  rw [if_pos acts]
  split
  · rename_i already
    simp [already]
  · rw [setBridge_bmu, bridge_setBridge, if_pos rfl]
    exact ⟨rfl, rfl⟩

/-- A bridge that COAST acts on is OFF (R76). -/
theorem handMode_coasts {t : Truck} (acts : actsOn s.bmu t = true) : ((handMode t .coast s).bmu.bridge t).isOff := by
  rw [handMode_eq]
  dsimp only
  rw [if_pos acts]
  exact (switchOff_bridge _ t).1

/-- A bridge that the mode does not act on holds it in its shadow (R76). -/
theorem handMode_waits {t : Truck} (waits : actsOn s.bmu t = false) (mode : BridgeMode) :
    (handMode t mode s).bmu.bridge t = { s.bmu.bridge t with modeShadow := mode } := by
  rw [handMode_eq]
  dsimp only
  rw [if_neg (by rw [waits]; exact Bool.false_ne_true), setBridge_bmu, bridge_setBridge, if_pos rfl]

/-- What a change of one bridge leaves: every block but BMU, the schedule, and the other bridge. -/
theorem OneBridge.leaves {t : Truck} {s u : State} (h : OneBridge t s u) :
    MotionTurns 0 s u ∧ u.moc = s.moc ∧ u.rcu = s.rcu ∧ (∀ x, x ≠ t → u.bmu.bridge x = s.bmu.bridge x)
    ∧ (∀ x, x ≠ t → actsOn u.bmu x = actsOn s.bmu x) := by
  have other (x : Truck) (differs : x ≠ t) : u.bmu.bridge x = s.bmu.bridge x := by
    rw [h, bridge_setBridge, if_neg (Ne.symm differs)]
  refine ⟨?_, by rw [h], by rw [h], other, fun x differs => ?_⟩
  · rw [h]
    exact ⟨rfl, rfl, rfl, rfl, rfl, rfl, ⟨rfl, rfl⟩, Nat.le_refl _, rfl, fun _ => rfl⟩
  · unfold actsOn
    rw [other x differs, h]
    simp

/-- A mode handed to both bridges is, to each of them, a mode handed to it as it stood (R76). -/
theorem bothModes_bridge (mode : BridgeMode) (x : Truck) :
    ∃ u : State, u.bmu.bridge x = s.bmu.bridge x ∧ actsOn u.bmu x = actsOn s.bmu x
      ∧ (handMode .rear mode (handMode .front mode s)).bmu.bridge x = (handMode x mode u).bmu.bridge x := by
  obtain ⟨_, _, _, front, frontActs⟩ := (handMode_oneBridge s .front mode).leaves
  obtain ⟨_, _, _, rear, _⟩ := (handMode_oneBridge (handMode .front mode s) .rear mode).leaves
  cases x with
  | front => exact ⟨s, rfl, rfl, rear .front nofun⟩
  | rear => exact ⟨handMode .front mode s, front .rear nofun, frontActs .rear nofun, rfl⟩

/-- A mode handed to both bridges leaves every block but BMU. -/
theorem bothModes_leaves (mode : BridgeMode) :
    MotionTurns 0 s (handMode .rear mode (handMode .front mode s))
    ∧ (handMode .rear mode (handMode .front mode s)).moc = s.moc ∧ (handMode .rear mode (handMode .front mode s)).rcu = s.rcu := by
  obtain ⟨turns, moc, rcu, _⟩ := (handMode_oneBridge s .front mode).leaves
  obtain ⟨turns', moc', rcu', _⟩ := (handMode_oneBridge (handMode .front mode s) .rear mode).leaves
  exact ⟨turns.trans turns', moc'.trans moc, rcu'.trans rcu⟩

/-! ## HALT_NOW (R59) -/

/-- MOC with the latch set and P at 0, a reversal completed below shed stage 4, and a slip ended: all of a HALT_NOW but the bridges and the
state (R57, R59, R68). -/
def haltedMotion (s : State) : State :=
  let s := onMoc (fun m => { m with notch := 0, emergencyLatch := true, ramp := 0 }) s
  let s := if s.moc.shedView = 4 then s else completeReversal s
  endSlip (zeroIntegrators (onMoc (fun m => { m with lossBrake := false, coastHold := false }) s))

/-- What the first part of a HALT_NOW is to MOC, to RCU's motion state and to the bridges. -/
theorem haltedMotion_takes :
    let turns := decide (s.moc.shedView ≠ 4) && s.moc.reversalPending
    (haltedMotion s).moc = { s.moc with
        notch := 0, emergencyLatch := true, ramp := 0, lossBrake := false, coastHold := false
        slipState := .grip, slipCount := 0, slipCap := if s.moc.slipState = .grip then s.moc.slipCap else 1023
        runDirection := if turns then s.moc.directionView else s.moc.runDirection
        reversalPending := s.moc.reversalPending && !decide (s.moc.shedView ≠ 4)
        front.integral := 0, rear.integral := 0 }
    ∧ (haltedMotion s).rcu.views.motionState = s.rcu.views.motionState
    ∧ (haltedMotion s).bmu = { s.bmu with polarityShadow := if turns then s.moc.directionView else s.bmu.polarityShadow }
    ∧ MotionTurns 1 s (haltedMotion s) := by
  unfold haltedMotion
  dsimp only
  have ends (u : State) : MotionTurns 1 u (endSlip (zeroIntegrators (onMoc (fun m => { m with lossBrake := false, coastHold := false }) u))) :=
    ((MotionTurns.onMoc _ u).trans (.onMoc _ _)).trans (endSlip_turns _)
  have halts := MotionTurns.onMoc (fun m => { m with notch := 0, emergencyLatch := true, ramp := 0 }) s
  by_cases off : s.moc.shedView = 4
  · rw [onMoc_moc, if_pos off]
    refine ⟨(endSlip_moc _).trans ?_, endSlip_shown _, (endSlip_bmu _).trans ?_, halts.trans (ends _)⟩
    · simp [zeroIntegrators, onMoc, Moc.mapTrucks, off]
    · simp [zeroIntegrators, onMoc, off]
  · rw [onMoc_moc, if_neg off]
    obtain ⟨flipMoc, flipShown, flipBmu⟩ :=
      completeReversal_takes (onMoc (fun m => { m with notch := 0, emergencyLatch := true, ramp := 0 }) s)
    refine ⟨(endSlip_moc _).trans ?_, (endSlip_shown _).trans flipShown, (endSlip_bmu _).trans ?_,
      (halts.trans (completeReversal_turns _)).trans (ends _)⟩
    · simp only [zeroIntegrators, onMoc_moc, flipMoc, Moc.mapTrucks]
      by_cases pending : s.moc.reversalPending = true <;> simp [off, pending]
    · simp only [zeroIntegrators, onMoc_bmu, flipBmu]
      by_cases pending : s.moc.reversalPending = true <;> simp [off, pending]

/-- HALT_NOW hands SHORT_BRAKE to both bridges and takes the state EMERGENCY, but in SUSPENDED (R59). -/
theorem motionHalt_eq :
    motionHalt s =
      if s.moc.shedView = 4 then Spec.motionBecomes .suspended (haltedMotion s)
      else Spec.motionBecomes .emergency (handMode .rear .shortBrake (handMode .front .shortBrake (haltedMotion s))) := by
  obtain ⟨moc, _⟩ := haltedMotion_takes s
  have shed : (haltedMotion s).moc.shedView = s.moc.shedView := by rw [moc]
  refine Eq.trans (b := evaluateMotion (if (haltedMotion s).moc.shedView = 4 then haltedMotion s
    else handMode .rear .shortBrake (handMode .front .shortBrake (haltedMotion s)))) rfl ?_
  rw [shed]
  split
  · rename_i off
    rw [evaluateMotion_eq, moc, Spec.motionOf, if_pos off]
  · rename_i below
    rw [evaluateMotion_eq, (bothModes_leaves _ _).2.1, moc, Spec.motionOf, if_neg below, if_pos rfl]

end Sys2Proof.Laws
end

section
/-! The halt and the loss of the lease (O17, O18). -/

namespace Sys2Proof.Laws

open Sys2Proof.Machine

/-- The refresh of the lease is a matter of the lease alone (R19). -/
theorem leased_eq (src : Source) (s : State) :
    Spec.leased src s = { s with rcu := { s.rcu with lease := (Spec.leased src s).rcu.lease } } := by
  unfold Spec.leased
  split <;> rfl

/-- The lease of a holder that made no change of the claim, of the time or of LEASE_TIME. -/
theorem leased_lease {src : Source} {s t : State} (holder : t.rcu.holder = s.rcu.holder) (now : t.now = s.now) (cfs : t.cfs = s.cfs)
    (lease : t.rcu.lease = s.rcu.lease) : (Spec.leased src t).rcu.lease = (Spec.leased src s).rcu.lease := by
  unfold Spec.leased
  rw [holder, now, cfs]
  split
  · rfl
  · exact lease

/-- What a HALT_NOW is to each block (R57 to R59, R76). -/
structure Halts (s t : State) : Prop where
  turns   : MotionTurns 2 s t
  moc     : t.moc = { s.moc with
              notch := 0, emergencyLatch := true, ramp := 0, lossBrake := false, coastHold := false
              slipState := .grip, slipCount := 0, slipCap := if s.moc.slipState = .grip then s.moc.slipCap else 1023
              runDirection := if decide (s.moc.shedView ≠ 4) && s.moc.reversalPending then s.moc.directionView else s.moc.runDirection
              reversalPending := s.moc.reversalPending && !decide (s.moc.shedView ≠ 4)
              front.integral := 0, rear.integral := 0
              motionState := if decide (s.moc.shedView ≠ 4) then .emergency else .suspended }
  shown   : t.rcu.views.motionState = if t.moc.motionState = s.moc.motionState then s.rcu.views.motionState else t.moc.motionState
  off     : s.moc.shedView = 4 → t.bmu = s.bmu
  bridges : s.moc.shedView ≠ 4 → ∀ x, ∃ u : State, u.bmu.bridge x = s.bmu.bridge x ∧ actsOn u.bmu x = actsOn s.bmu x
              ∧ t.bmu.bridge x = (handMode x .shortBrake u).bmu.bridge x

theorem motionHalt_halts (s : State) : Halts s (motionHalt s) := by
  obtain ⟨moc, shown, bmu, turns⟩ := haltedMotion_takes s
  rw [motionHalt_eq]
  by_cases off : s.moc.shedView = 4
  · rw [if_pos off]
    obtain ⟨takes, bridges, view⟩ := motionBecomes_takes (haltedMotion s) .suspended
    refine ⟨turns.trans (motionBecomes_turns _ _), ?_, ?_, fun _ => ?_, fun below => absurd off below⟩
    · rw [takes, moc]
      simp [off]
    · rw [view, takes, shown, moc]
    · rw [bridges, bmu]
      simp [off]
  · rw [if_neg off]
    obtain ⟨leaves, modesMoc, modesRcu⟩ := bothModes_leaves (haltedMotion s) .shortBrake
    obtain ⟨takes, bridges, view⟩ := motionBecomes_takes (handMode .rear .shortBrake (handMode .front .shortBrake (haltedMotion s))) .emergency
    refine ⟨(turns.trans leaves).trans (motionBecomes_turns _ _), ?_, ?_, fun suspended => absurd suspended off, fun _ x => ?_⟩
    · rw [takes, modesMoc, moc]
      simp [off]
    · rw [view, takes, modesMoc, modesRcu, shown, moc]
    · obtain ⟨u, same, acts, e⟩ := bothModes_bridge (haltedMotion s) .shortBrake x
      refine ⟨u, ?_, ?_, ?_⟩
      · rw [same, bmu]
        cases x <;> rfl
      · rw [acts, bmu]
        cases x <;> rfl
      · rw [bridges, e]

end Sys2Proof.Laws

namespace Sys2Proof.Record

open Sys2Proof.Machine Sys2Proof.Laws

/-- A mode acts on a bridge as the statements say it: the schedule runs, no hold-off, and a gap that is closed or requested (R76). -/
theorem actsOn_eq (m : Bmu) (x : Truck) :
    actsOn m x = (m.running && !(m.bridge x).heldOff && (decide (m.gap = .closed) || decide (m.gap = .requested))) := by
  unfold actsOn
  congr 1
  cases m.gap <;> rfl

/-- What a HALT_NOW that arrives leaves: the halt of MOC, the lease of a holder, and no response and no entry (R24, R26). -/
theorem haltNow_serves {h : Head} {s : State} (arr : Spec.Arrives h 0 s) :
    ∃ u t : State, exec (.haltNow h) s = .next t ∧ Halts (onRcu (fun r => { r with targetNotch := 0 }) s) u
      ∧ t.rcu = { s.rcu with targetNotch := 0, lease := (Spec.leased h.source s).rcu.lease, views := u.rcu.views }
      ∧ t.moc = u.moc ∧ t.bmu = u.bmu ∧ t.btg = u.btg ∧ t.pws = u.pws ∧ t.odu = u.odu ∧ t.cfs = u.cfs
      ∧ (h.source = .host → t.hpt.transaction = .sending ∧ t.hpt.out = [0x00, 0x00])
      ∧ (h.source ≠ .host → t.rif.lastEntry = none ∧ t.hpt.out = s.hpt.out) := by
  have done : exec (.haltNow h) s = .next (Spec.answered h 0x18 (doneWith {} [])
      (Spec.leased h.source (motionHalt (onRcu (fun r => { r with targetNotch := 0 }) s)))) :=
    exec_accepts (b := .haltNow) rfl rfl arr rfl rfl
  have halts := motionHalt_halts (onRcu (fun r => { r with targetNotch := 0 }) s)
  generalize motionHalt (onRcu (fun r => { r with targetNotch := 0 }) s) = u at done halts
  obtain ⟨rcu, _, _, cfs, _, now, ⟨_, out⟩, _⟩ := halts.turns
  obtain ⟨aRcu, aMoc, aBmu, aBtg, _, _, _, aPws, aOdu, aCfs⟩ := answered_frame h 0x18 (doneWith {} []) (Spec.leased h.source u)
  have lease : (Spec.leased h.source u).rcu.lease = (Spec.leased h.source s).rcu.lease :=
    leased_lease (by rw [rcu]; rfl) now cfs (by rw [rcu]; rfl)
  have posted : (h.control.getLsbD 0 || (0x18 : Byte) == 0x18) = true := Bool.or_true _
  refine ⟨u, _, done, halts, ?_, ?_, ?_, ?_, ?_, ?_, ?_, fun host => ?_, fun other => ?_⟩
  · rw [aRcu, leased_eq, lease]
    dsimp only
    rw [rcu]
    rfl
  · rw [aMoc, leased_eq]
  · rw [aBmu, leased_eq]
  · rw [aBtg, leased_eq]
  · rw [aPws, leased_eq]
  · rw [aOdu, leased_eq]
  · rw [aCfs, leased_eq]
  · rw [(answered_host host 0x18 rfl _).2]
    dsimp only
    rw [if_pos posted]
    exact ⟨rfl, rfl⟩
  · cases src : h.source with
    | host => exact absurd src other
    | throttle id =>
      obtain ⟨port, radio⟩ := answered_throttle src 0x18 (a := doneWith {} []) rfl (Spec.leased (.throttle id) u)
      rw [port, radio, leased_eq]
      exact ⟨if_pos posted, out⟩

/-- Settles O17: the halt of MOC reaches the two bridges, and what it leaves stands. -/
theorem haltStopsTheTrain : Obligations.HaltStopsTheTrain := by
  intro h s arr
  obtain ⟨u, t, done, ⟨turns, moc, shown, off, bridges⟩, tRcu, tMoc, tBmu, tBtg, tPws, tOdu, tCfs, host, other⟩ := haltNow_serves arr
  have braking (below : decide (s.moc.shedView ≠ 4) = true) (x : Truck) := bridges (of_decide_eq_true below) x
  have shadows (x : Truck) : (decide (s.moc.shedView ≠ 4) = true → (u.bmu.bridge x).modeShadow = .shortBrake)
      ∧ (u.bmu.bridge x).dutyShadow = (s.bmu.bridge x).dutyShadow := by
    by_cases below : s.moc.shedView = 4
    · refine ⟨fun b => absurd below (of_decide_eq_true b), ?_⟩
      rw [off below]
      rfl
    · obtain ⟨v, same, _, e⟩ := bridges below x
      obtain ⟨mode, duty⟩ := handMode_shadows v x .shortBrake
      rw [e]
      exact ⟨fun _ => mode, duty.trans (congrArg Bridge.dutyShadow same)⟩
  refine ⟨t, done, ?_⟩
  dsimp only
  rw [tRcu, tMoc, tBmu, tBtg, tPws, tOdu, tCfs]
  refine ⟨rfl, rfl, rfl, rfl, rfl, rfl, rfl, rfl, rfl, moc, shown, fun below => ⟨(shadows .front).1 below, (shadows .rear).1 below⟩,
    fun above => off (by simpa using above), fun x below => ?_, (shadows .front).2, (shadows .rear).2, host, other, turns.pws, turns.cfs,
    turns.btg, turns.record⟩
  obtain ⟨v, same, acts, e⟩ := braking below x
  rw [← actsOn_eq, e]
  refine ⟨fun does => ?_, fun waits => ?_⟩
  · obtain ⟨output, driven⟩ := handMode_brakes v (acts.trans does)
    rw [same] at driven
    exact ⟨output, driven⟩
  · rw [handMode_waits v (acts.trans waits), same]
    rfl

end Sys2Proof.Record
end

section
/-! The loss of the lease (O18). -/

namespace Sys2Proof.Laws

open Sys2Proof.Machine

/-! ## The COAST loss action (R53) -/

/-- MOC with P at 0 and the coast-hold marker, a reversal completed outside SUSPENDED, and a slip ended: all of a COAST loss but the bridges
(R53, R57, R68). -/
def coastedMotion (s : State) : State :=
  let u := onMoc (fun m => { m with ramp := 0, lossBrake := false, coastHold := true }) s
  endSlip (if s.moc.reversalPending && decide (s.moc.motionState ≠ .suspended) then evaluateMotion (completeReversal u) else u)

/-- What the first part of a COAST loss is to each block. -/
structure Coasts (s t : State) : Prop where
  turns    : MotionTurns 2 s t
  moc      : t.moc.notch = s.moc.notch ∧ t.moc.ramp = 0 ∧ t.moc.coastHold = true ∧ t.moc.lossBrake = false ∧ t.moc.slipState = .grip
  reversal : s.moc.motionState ≠ .suspended → t.moc.reversalPending = false
  flips    : s.moc.reversalPending = true → s.moc.motionState ≠ .suspended → t.moc.runDirection = s.moc.directionView
  holds    : s.moc.reversalPending = false → t.moc.runDirection = s.moc.runDirection ∧ t.moc.motionState = s.moc.motionState ∧ t.bmu = s.bmu
  moves    : s.moc.motionState ≠ .emergency → s.moc.emergencyLatch = false ∨ s.moc.motionState = .suspended → t.moc.motionState ≠ .emergency
  bridges  : ∀ x, t.bmu.bridge x = s.bmu.bridge x ∧ actsOn t.bmu x = actsOn s.bmu x

/-- Without the latch the state is not EMERGENCY (R58). -/
theorem motionOf_unlatched {m : Moc} (clear : m.emergencyLatch = false) : Spec.motionOf m ≠ .emergency := by
  unfold Spec.motionOf
  rw [clear, if_neg Bool.false_ne_true]
  split
  · exact nofun
  · split
    · exact nofun
    · split <;> exact nofun

theorem coastedMotion_coasts (s : State) : Coasts s (coastedMotion s) := by
  unfold coastedMotion
  dsimp only
  have coasts := MotionTurns.onMoc (fun m => { m with ramp := 0, lossBrake := false, coastHold := true }) s
  by_cases completes : (s.moc.reversalPending && decide (s.moc.motionState ≠ .suspended)) = true
  · rw [if_pos completes]
    obtain ⟨pending, moving⟩ := Bool.and_eq_true_iff.mp completes
    have moving := of_decide_eq_true moving
    obtain ⟨flipMoc, _, flipBmu⟩ :=
      completeReversal_takes (onMoc (fun m => { m with ramp := 0, lossBrake := false, coastHold := true }) s)
    obtain ⟨stateMoc, stateBmu, _⟩ := motionBecomes_takes
      (completeReversal (onMoc (fun m => { m with ramp := 0, lossBrake := false, coastHold := true }) s))
      (Spec.motionOf (completeReversal (onMoc (fun m => { m with ramp := 0, lossBrake := false, coastHold := true }) s)).moc)
    rw [onMoc_moc, if_pos pending] at flipMoc
    rw [evaluateMotion_eq]
    refine ⟨((coasts.trans (completeReversal_turns _)).trans (motionBecomes_turns _ _)).trans (endSlip_turns _), ?_, fun _ => ?_,
      fun _ _ => ?_, fun idle => ?_, fun _ latch => ?_, fun x => ?_⟩
    · rw [endSlip_moc, stateMoc, flipMoc]
      exact ⟨rfl, rfl, rfl, rfl, rfl⟩
    · rw [endSlip_moc, stateMoc, flipMoc]
    · rw [endSlip_moc, stateMoc, flipMoc]
    · rw [idle] at pending
      cases pending
    · have unlatched : s.moc.emergencyLatch = false := latch.resolve_right moving
      rw [endSlip_moc, stateMoc, flipMoc]
      exact motionOf_unlatched unlatched
    · rw [endSlip_bmu, stateBmu, flipBmu]
      cases x <;> exact ⟨rfl, rfl⟩
  · rw [if_neg completes]
    have kept := endSlip_moc (onMoc (fun m => { m with ramp := 0, lossBrake := false, coastHold := true }) s)
    have idle (moving : s.moc.motionState ≠ .suspended) : s.moc.reversalPending = false := by simpa [moving] using completes
    refine ⟨(coasts.trans (endSlip_turns _)).mono (by decide), ?_, fun moving => ?_, fun pending moving => ?_, fun _ => ?_, fun other _ => ?_,
      fun x => ?_⟩
    · rw [kept]
      exact ⟨rfl, rfl, rfl, rfl, rfl⟩
    · rw [kept]
      exact idle moving
    · rw [idle moving] at pending
      cases pending
    · rw [kept, endSlip_bmu]
      exact ⟨rfl, rfl, rfl⟩
    · rw [kept]
      exact other
    · rw [endSlip_bmu]
      exact ⟨rfl, rfl⟩

/-- A COAST loss hands COAST to both bridges, but in EMERGENCY (R53). -/
theorem motionCoast_eq (s : State) :
    motionCoast s =
      if (coastedMotion s).moc.motionState = .emergency then coastedMotion s
      else handMode .rear .coast (handMode .front .coast (coastedMotion s)) := rfl

/-! ## The lease expiry (R20) -/

/-- MOC takes the loss action: RAMP is N = 0 alone, BRAKE adds the marker, COAST acts at once (R52, R53). -/
theorem motionTakeLoss_turns (a : LossAction) (s : State) : MotionTurns 2 s (motionTakeLoss a s) := by
  have zero := MotionTurns.onMoc (fun m => { m with notch := 0 }) s
  cases a with
  | ramp => exact zero.mono (by decide)
  | brake => exact (zero.trans (.onMoc (fun m => { m with lossBrake := true }) _)).mono (by decide)
  | coast =>
    have coasts := zero.trans (coastedMotion_coasts _).turns
    unfold motionTakeLoss
    dsimp only
    rw [motionCoast_eq]
    split
    · exact coasts
    · exact coasts.trans (bothModes_leaves _ _).1

/-- The lease expires: MOC's loss action, FAILSAFE, the notice, and the fall of the claim (R20). -/
theorem expireLease_eq (s : State) :
    expireLease s =
      let u := motionTakeLoss s.cfs.working.lossAction (onRcu (fun r => { r with targetNotch := 0, lease := .stopped }) s)
      Spec.holderBecomes .host .none (pushNotice (.leaseExpired s.rcu.holder s.cfs.working.lossAction) (setFailsafe true u)) := by
  unfold expireLease
  dsimp only
  exact Record.setHolder_eq .host .none _

/-- A push to a queue with room. -/
theorem push_room {h : Hpt} (n : Notice) (room : h.notices.length < 16) : (h.push n).notices = h.notices ++ [n] := by
  rw [Hpt.push, if_pos (show h.notices.length < Config.noticeCapacity from room)]

/-- What the expiry of a holder's lease is to each block, by what MOC did with the loss action (R20). -/
theorem expireLease_takes {s : State} (held : s.rcu.holder ≠ .none) :
    ∃ u : State, u = motionTakeLoss s.cfs.working.lossAction (onRcu (fun r => { r with targetNotch := 0, lease := .stopped }) s)
      ∧ (expireLease s).rcu = { s.rcu with targetNotch := 0, holder := .none, lease := .stopped, failsafe := true, views := u.rcu.views }
      ∧ (expireLease s).rif.holderView = .none ∧ (expireLease s).ltc.failsafeView = true
      ∧ (s.hpt.notices.length ≤ 12 →
          ((expireLease s).hpt.notices.reverse.take 2).reverse = [.leaseExpired s.rcu.holder s.cfs.working.lossAction, .claimChanged .none])
      ∧ (expireLease s).now = u.now ∧ (expireLease s).moc = u.moc ∧ (expireLease s).bmu = u.bmu ∧ (expireLease s).pws = u.pws
      ∧ (expireLease s).cfs = u.cfs ∧ (expireLease s).btg = u.btg ∧ (expireLease s).smu = u.smu ∧ (expireLease s).odu = u.odu := by
  rw [expireLease_eq]
  dsimp only
  have turns := motionTakeLoss_turns s.cfs.working.lossAction (onRcu (fun r => { r with targetNotch := 0, lease := .stopped }) s)
  generalize motionTakeLoss s.cfs.working.lossAction (onRcu (fun r => { r with targetNotch := 0, lease := .stopped }) s) = u at turns
  have holder : u.rcu.holder = s.rcu.holder := by
    rw [turns.rcu]
    rfl
  refine ⟨u, rfl, ?_⟩
  unfold Spec.holderBecomes
  rw [if_neg (fun none => held (holder.symm.trans none.symm))]
  refine ⟨?_, rfl, rfl, fun room => ?_, rfl, rfl, rfl, rfl, rfl, rfl, rfl, rfl⟩
  · refine Eq.trans (b := { u.rcu with failsafe := true, holder := .none }) rfl ?_
    rw [turns.rcu]
    rfl
  · have grown : u.hpt.notices.length ≤ s.hpt.notices.length + 2 := turns.notices
    have first := push_room (h := u.hpt) (.leaseExpired s.rcu.holder s.cfs.working.lossAction) (by omega)
    have second := push_room (h := u.hpt.push (.leaseExpired s.rcu.holder s.cfs.working.lossAction)) (.claimChanged .none) (by
      rw [first, List.length_append, List.length_singleton]
      omega)
    rw [first] at second
    refine Eq.trans (congrArg (fun l : List Notice => (l.reverse.take 2).reverse) second) ?_
    simp

end Sys2Proof.Laws

namespace Sys2Proof.Record

open Sys2Proof.Machine Sys2Proof.Laws

/-- A COAST loss by its first part: what it leaves of MOC, and the bridges, which coast but in EMERGENCY (R53). -/
theorem motionLoses (s : State) :
    let w := coastedMotion (onMoc (fun m => { m with notch := 0 }) s)
    let u := motionTakeLoss .coast s
    u.moc = w.moc
    ∧ (u.moc.motionState ≠ .emergency → ∀ x, (u.bmu.bridge x).modeShadow = .coast ∧ (actsOn w.bmu x = true → (u.bmu.bridge x).isOff))
    ∧ (u.moc.motionState = .emergency → u.bmu = w.bmu) := by
  dsimp only
  have loses : motionTakeLoss .coast s = motionCoast (onMoc (fun m => { m with notch := 0 }) s) := rfl
  rw [loses, motionCoast_eq]
  generalize coastedMotion (onMoc (fun m => { m with notch := 0 }) s) = w
  split
  · rename_i emergency
    exact ⟨rfl, fun other => absurd emergency other, fun _ => rfl⟩
  · rename_i other
    obtain ⟨_, moc, _⟩ := bothModes_leaves w .coast
    refine ⟨moc, fun _ x => ?_, fun emergency => absurd (moc ▸ emergency) other⟩
    obtain ⟨v, _, acts, e⟩ := bothModes_bridge w .coast x
    rw [e]
    exact ⟨(handMode_shadows v x .coast).1, fun does => handMode_coasts v (acts.trans does)⟩

/-- Settles O18: MOC's loss action by the action configured, then FAILSAFE, the notices and the fall of the claim. -/
theorem leaseExpires : Obligations.LeaseExpires := by
  intro s live
  have expires : exec .leaseExpiry s = .next (onExpiry s.rcu.lease expireLease s) := by
    refine Eq.trans (b := whenReleased (fun s => onExpiry s.rcu.lease expireLease s) s) rfl ?_
    rw [whenReleased, if_neg (by rw [live]; exact Bool.false_ne_true)]
  refine ⟨fun stopped => by rw [expires, stopped]; rfl, fun due running held => ⟨expireLease (s.reach due), ?_, ?_⟩⟩
  · rw [expires, running]
    rfl
  obtain ⟨u, loss, rcu, radio, lights, notices, now, moc, bmu, pws, cfs, btg, smu, odu⟩ := expireLease_takes (s := s.reach due) held
  have turns := motionTakeLoss_turns (s.reach due).cfs.working.lossAction
    (onRcu (fun r => { r with targetNotch := 0, lease := .stopped }) (s.reach due))
  rw [← loss] at turns
  have views : (expireLease (s.reach due)).rcu.views = u.rcu.views := by rw [rcu]
  rw [views, now, moc, bmu, pws, cfs, btg, smu, odu]
  refine ⟨turns.now, rcu, radio, lights, notices, fun ramp => ?_, fun brake => ?_, fun coast => ?_, turns.pws, turns.cfs, turns.btg,
    turns.heater, turns.record⟩
  · rw [loss, show (s.reach due).cfs.working.lossAction = .ramp from ramp]
    exact ⟨rfl, rfl⟩
  · rw [loss, show (s.reach due).cfs.working.lossAction = .brake from brake]
    exact ⟨rfl, rfl⟩
  · rw [show (s.reach due).cfs.working.lossAction = .coast from coast] at loss
    obtain ⟨uMoc, handed, stood⟩ := motionLoses (onRcu (fun r => { r with targetNotch := 0, lease := .stopped }) (s.reach due))
    rw [← loss] at uMoc handed stood
    obtain ⟨_, ⟨notch, ramp, hold, brake, slip⟩, reversal, flips, holds, moves, bridges⟩ := coastedMotion_coasts
      (onMoc (fun m => { m with notch := 0 }) (onRcu (fun r => { r with targetNotch := 0, lease := .stopped }) (s.reach due)))
    rw [← uMoc] at notch ramp hold brake slip reversal flips holds moves
    refine ⟨notch, ramp, hold, brake, slip, reversal, flips, fun idle => (holds idle).1, fun emergency idle => ?_, fun other rest => ?_⟩
    · obtain ⟨_, state, stays⟩ := holds idle
      exact (stood (state.trans emergency)).trans stays
    · have unlatched : s.moc.emergencyLatch = false ∨ s.moc.motionState = .suspended := by
        cases latch : s.moc.emergencyLatch with
        | false => exact .inl rfl
        | true => exact .inr (rest.suspended.mpr (by_contra fun below => other (rest.emergency.mpr ⟨latch, below⟩)))
      have coasted := handed (moves other unlatched)
      refine ⟨(coasted .front).1, (coasted .rear).1, fun x running gap free => (coasted x).2 ?_⟩
      obtain ⟨_, same⟩ := bridges x
      refine (same.trans (actsOn_eq s.bmu x)).trans ?_
      rcases gap with closed | requested
      · simp [running, free, closed]
      · simp [running, free, requested]

end Sys2Proof.Record
end

section
/-! CLEAR_FAULTS (O24). -/

namespace Sys2Proof.Laws

open Sys2Proof.Machine

/-! ## SMU takes a clean record of the heater (R126) -/

/-- Two states that SMU could not tell apart: its own state, the configuration, and what it says of itself. -/
structure SmokeAlike (s t : State) : Prop where
  smu   : t.smu = s.smu
  cfs   : t.cfs = s.cfs
  hpt   : t.hpt = s.hpt
  shown : t.rcu.views.smokeState = s.rcu.views.smokeState

/-- What SMU makes of a clean record of the heater: FAULT is left for the state called for, with its notice (R123, R126, R133). -/
structure SmokeClears (s t : State) : Prop where
  other : s.smu.state ≠ .fault → t.smu = { s.smu with faultView := .ok, shortView := false } ∧ t.hpt = s.hpt
  fault : s.smu.state = .fault → t.smu.state = s.calledSmoke ∧ t.rcu.views.smokeState = t.smu.state
            ∧ t.smu.heater = (if t.smu.state.heats then s.smu.heater else 0)
            ∧ t.smu.fan = (if t.smu.state = .regulating then Spec.betweenPuffs s else 0)
            ∧ t.hpt = s.hpt.push (.smokeState t.smu.state)

/-- SMU does the same in a state that it cannot tell from another. -/
theorem SmokeClears.of_alike {s v t : State} (h : SmokeClears v t) (alike : SmokeAlike s v) : SmokeClears s t := by
  obtain ⟨smu, cfs, hpt, _⟩ := alike
  have called : v.calledSmoke = s.calledSmoke := by
    unfold State.calledSmoke State.smokeTarget State.cfg
    rw [smu, cfs]
  have between : Spec.betweenPuffs v = Spec.betweenPuffs s := by
    unfold Spec.betweenPuffs
    rw [smu, cfs]
  obtain ⟨other, fault⟩ := h
  rw [smu, hpt] at other fault
  rw [called, between] at fault
  exact ⟨other, fault⟩

/-- What follows leaves what SMU did. -/
theorem SmokeClears.alike {s t u : State} (h : SmokeClears s t) (alike : SmokeAlike t u) : SmokeClears s u := by
  obtain ⟨smu, _, hpt, shown⟩ := alike
  obtain ⟨other, fault⟩ := h
  rw [← smu, ← hpt] at other fault
  rw [← shown] at fault
  exact ⟨other, fault⟩

/-- The state that SMU is called to is never FAULT (R123). -/
theorem calledSmoke_ne_fault (s : State) : s.calledSmoke ≠ .fault := by
  unfold State.calledSmoke
  split
  · exact nofun
  · split
    · exact nofun
    · split
      · exact nofun
      · split <;> exact nofun

/-- The between-puff level (R133). -/
theorem betweenLevel_eq (s : State) : betweenLevel s.cfg s.smu.motionView = Spec.betweenPuffs s := by
  unfold betweenLevel Spec.betweenPuffs State.cfg
  cases s.smu.motionView <;> rfl

/-- The blocks that a transition of the smoke state does not touch, and ODU's records, whose open timers it may stop (R123, R172). -/
structure SmokeStays (s t : State) : Prop where
  blocks  : t.moc = s.moc ∧ t.bmu = s.bmu ∧ t.ltc = s.ltc ∧ t.rif = s.rif ∧ t.pws = s.pws ∧ t.cfs = s.cfs ∧ t.ssq = s.ssq ∧ t.now = s.now
  rcu     : t.rcu = { s.rcu with views := { s.rcu.views with smokeState := t.rcu.views.smokeState } }
  summary : t.odu.summary = s.odu.summary
  watches : ∀ o, (t.odu.watch o).record = (s.odu.watch o).record ∧ (t.odu.watch o).retry = (s.odu.watch o).retry
              ∧ (t.odu.watch o).probation = (s.odu.watch o).probation
              ∧ ((s.odu.watch o).openTimer = .stopped → (t.odu.watch o).openTimer = .stopped)

theorem SmokeAlike.trans {s t u : State} (h : SmokeAlike s t) (k : SmokeAlike t u) : SmokeAlike s u :=
  ⟨k.smu.trans h.smu, k.cfs.trans h.cfs, k.hpt.trans h.hpt, k.shown.trans h.shown⟩

theorem SmokeStays.trans {s t u : State} (h : SmokeStays s t) (k : SmokeStays t u) : SmokeStays s u where
  blocks := by
    obtain ⟨a, b, c, d, e, f, g, i⟩ := h.blocks
    obtain ⟨a', b', c', d', e', f', g', i'⟩ := k.blocks
    exact ⟨a'.trans a, b'.trans b, c'.trans c, d'.trans d, e'.trans e, f'.trans f, g'.trans g, i'.trans i⟩
  rcu := by
    rw [k.rcu, h.rcu]
  summary := k.summary.trans h.summary
  watches o := by
    obtain ⟨a, b, c, d⟩ := h.watches o
    obtain ⟨a', b', c', d'⟩ := k.watches o
    exact ⟨a'.trans a, b'.trans b, c'.trans c, d' ∘ d⟩

/-- SMU's own state is its own matter. -/
theorem smokeStays_onSmu (f : Smu → Smu) (s : State) : SmokeStays s (onSmu f s) :=
  ⟨⟨rfl, rfl, rfl, rfl, rfl, rfl, rfl, rfl⟩, rfl, rfl, fun _ => ⟨rfl, rfl, rfl, id⟩⟩

/-- A command that ODU takes leaves the records and their timers, but for an open timer (R172, R173). -/
theorem smokeStays_takeCommand (o : Output) (n : Nat) (s : State) : SmokeStays s (takeCommand o n s) := by
  refine ⟨⟨rfl, rfl, rfl, rfl, rfl, rfl, rfl, rfl⟩, rfl, rfl, fun u => ?_⟩
  unfold takeCommand
  simp only [watch_setWatch]
  split
  · rename_i same
    rw [← same]
    refine ⟨rfl, rfl, rfl, fun stopped => ?_⟩
    simp [stopped]
  · exact ⟨rfl, rfl, rfl, id⟩

theorem smokeStays_setHeater (n : Nat) (s : State) : SmokeStays s (setHeater n s) :=
  (smokeStays_onSmu _ s).trans (smokeStays_takeCommand _ _ _)

theorem smokeStays_setFan (n : Nat) (s : State) : SmokeStays s (setFan n s) :=
  (smokeStays_onSmu _ s).trans (smokeStays_takeCommand _ _ _)

theorem enterSmoke_stays (st : SmokeState) (s : State) : SmokeStays s (enterSmoke st s) := by
  unfold enterSmoke
  split
  · exact smokeStays_onSmu id s
  · dsimp only
    have noticed : SmokeStays s (pushNotice (.smokeState st) (publish (fun v => { v with smokeState := st })
        (onSmu (fun u => { u with state := st }) s))) :=
      ⟨⟨rfl, rfl, rfl, rfl, rfl, rfl, rfl, rfl⟩, rfl, rfl, fun _ => ⟨rfl, rfl, rfl, id⟩⟩
    have heated : SmokeStays s (if st.heats then pushNotice (.smokeState st) (publish (fun v => { v with smokeState := st })
        (onSmu (fun u => { u with state := st }) s)) else setHeater 0 (pushNotice (.smokeState st) (publish (fun v => { v with smokeState := st })
        (onSmu (fun u => { u with state := st }) s)))) := by
      split
      · exact noticed
      · exact noticed.trans (smokeStays_setHeater 0 _)
    have stopped := heated.trans (smokeStays_onSmu (fun u => { u with puffTimer := .stopped }) _)
    split
    · exact stopped.trans (smokeStays_setFan _ _)
    · exact stopped.trans (smokeStays_setFan _ _)

/-- What a transition to another smoke state leaves in SMU, in RCU and in the notice queue (R123, R133). -/
theorem enterSmoke_enters {st : SmokeState} {s : State} (moves : st ≠ s.smu.state) :
    (enterSmoke st s).smu.state = st ∧ (enterSmoke st s).rcu.views.smokeState = st
    ∧ (enterSmoke st s).smu.heater = (if st.heats then s.smu.heater else 0)
    ∧ (enterSmoke st s).smu.fan = (if st = .regulating then Spec.betweenPuffs s else 0)
    ∧ (enterSmoke st s).hpt = s.hpt.push (.smokeState st) := by
  unfold enterSmoke
  rw [if_neg moves, ← betweenLevel_eq]
  cases st <;> exact ⟨rfl, rfl, rfl, rfl, rfl⟩

/-- A clean record of the heater leaves all but SMU. -/
theorem smokeTakeFault_stays (s : State) : SmokeStays s (smokeTakeFault {} s) := by
  unfold smokeTakeFault
  dsimp only
  rw [if_neg (by exact Bool.false_ne_true)]
  split
  · exact (smokeStays_onSmu _ s).trans (enterSmoke_stays _ _)
  · exact smokeStays_onSmu _ s

theorem smokeTakeFault_clears (s : State) : SmokeClears s (smokeTakeFault {} s) := by
  unfold smokeTakeFault
  dsimp only
  rw [if_neg (by exact Bool.false_ne_true)]
  by_cases fault : s.smu.state = .fault
  · rw [if_pos ⟨fault, rfl⟩]
    obtain ⟨state, shown, heater, fan, hpt⟩ := enterSmoke_enters (s := onSmu (fun u => { u with faultView := .ok, shortView := false }) s)
      (st := s.calledSmoke) (fun same => calledSmoke_ne_fault s (same.trans fault))
    rw [show (onSmu (fun u => { u with faultView := .ok, shortView := false }) s).calledSmoke = s.calledSmoke from rfl]
    refine ⟨fun other => absurd fault other, fun _ => ⟨state, shown.trans state.symm, ?_, ?_, ?_⟩⟩
    · exact heater.trans (by rw [state]; rfl)
    · exact fan.trans (by rw [state]; rfl)
    · exact hpt.trans (by rw [state]; rfl)
  · rw [if_neg (fun h => fault h.1)]
    exact ⟨fun _ => ⟨rfl, rfl⟩, fun h => absurd h fault⟩

end Sys2Proof.Laws
end

section
/-! CLEAR_FAULTS (O24): the outputs of its mask, one after another. -/

namespace Sys2Proof.Laws

open Sys2Proof.Machine

/-! ## The order of the outputs (R190) -/

/-- An output stands in the list of all outputs at its place in an output set. -/
theorem allOutputs_index (o : Output) : allOutputs[(outputIndex o).val]? = some o := by
  cases o with
  | truck x => cases x <;> rfl
  | heater => rfl
  | fan => rfl
  | light n =>
    revert n
    decide

/-- No two outputs share a place. -/
theorem outputIndex_injective {o u : Output} (h : outputIndex o = outputIndex u) : o = u := by
  have := allOutputs_index o
  rw [h, allOutputs_index u] at this
  exact (Option.some.inj this).symm

/-! ## One output cleared (R175) -/

/-- The part with one output released and its record clean, before the record's consumers take it. -/
def cleanWatch (o : Output) (s : State) : State :=
  publish (fun v => { v with faults := v.faults.set (outputIndex o) {} })
    (mapWatch o (fun w => { w with record := {}, retry := .stopped, probation := .stopped, openTimer := .stopped })
      (if s.heldOff o then releaseOutput o s else s))

/-- The clear of an output hands the clean record to its consumers. -/
theorem clearOutput_eq (o : Output) (s : State) : clearOutput o s = consumeRecord o {} (cleanWatch o s) := by
  unfold clearOutput publishRecord cleanWatch
  simp only [mapWatch_odu, watch_setWatch, if_true]

/-- The outputs `l` of `s` are cleared in `t`, and nothing else is touched (R175). -/
structure Cleared (l : List Output) (s t : State) : Prop where
  named   : ∀ o ∈ l, (t.odu.watch o).record = {} ∧ (t.odu.watch o).retry = .stopped ∧ (t.odu.watch o).probation = .stopped
              ∧ (t.odu.watch o).openTimer = .stopped
  others  : ∀ o, o ∉ l → (t.odu.watch o).record = (s.odu.watch o).record ∧ (t.odu.watch o).retry = (s.odu.watch o).retry
              ∧ (t.odu.watch o).probation = (s.odu.watch o).probation
  timers  : ∀ o, (s.odu.watch o).openTimer = .stopped → (t.odu.watch o).openTimer = .stopped
  shown   : ∀ o, t.rcu.views.faults[outputIndex o] = if o ∈ l then {} else s.rcu.views.faults[outputIndex o]
  bridges : ∀ x, t.bmu.bridge x
              = if .truck x ∈ l ∧ s.heldOff (.truck x) = true then { s.bmu.bridge x with heldOff := false } else s.bmu.bridge x
  trucks  : ∀ x, t.moc.truck x = if .truck x ∈ l then (s.moc.truck x).takeFault .ok else s.moc.truck x
  lights  : ∀ n : Fin 12, t.ltc.lights[n] = if .light n ∈ l then { s.ltc.lights[n] with faultView := .ok } else s.ltc.lights[n]
  heater  : .heater ∈ l → SmokeClears s t
  smoke   : .heater ∉ l → SmokeAlike s t
  blocks  : t.rif = s.rif ∧ t.pws = s.pws ∧ t.cfs = s.cfs ∧ t.ssq = s.ssq ∧ t.moc.motionState = s.moc.motionState
              ∧ t.odu.summary = s.odu.summary
  rcu     : t.rcu = { s.rcu with views := t.rcu.views } ∧ t.rcu.views.faultSummary = s.rcu.views.faultSummary

/-- Membership in a list, first and rest apart. -/
theorem ite_mem_cons {α β : Type} [DecidableEq α] (x o : α) (l : List α) (a b : β) :
    (if x ∈ [o] then a else if x ∈ l then a else b) = if x ∈ o :: l then a else b := by
  by_cases now : x = o
  · simp [now]
  · simp [now]

/-- Outputs cleared one after another are cleared together. -/
theorem Cleared.cons {l : List Output} {o : Output} {s t u : State} (h : Cleared l s t) (k : Cleared [o] t u) (fresh : o ∉ l) :
    Cleared (o :: l) s u := by
  have sameRecord : (t.odu.watch o).record = (s.odu.watch o).record := (h.others o fresh).1
  refine ⟨fun x mine => ?_, fun x other => ?_, fun x stopped => k.timers x (h.timers x stopped), fun x => ?_, fun x => ?_, fun x => ?_,
    fun n => ?_, fun mine => ?_, fun other => ?_, ?_, ?_⟩
  · by_cases now : x = o
    · exact k.named x (List.mem_singleton.mpr now)
    · obtain ⟨a, b, c, d⟩ := h.named x ((List.mem_cons.mp mine).resolve_left now)
      obtain ⟨a', b', c'⟩ := k.others x (fun m => now (List.mem_singleton.mp m))
      exact ⟨a'.trans a, b'.trans b, c'.trans c, k.timers x d⟩
  · rw [List.mem_cons, not_or] at other
    obtain ⟨a, b, c⟩ := h.others x other.2
    obtain ⟨a', b', c'⟩ := k.others x (fun m => other.1 (List.mem_singleton.mp m))
    exact ⟨a'.trans a, b'.trans b, c'.trans c⟩
  · rw [k.shown x, h.shown x]
    exact ite_mem_cons x o l _ _
  · rw [k.bridges x, h.bridges x]
    by_cases now : .truck x = o
    · subst now
      have held : t.heldOff (.truck x) = s.heldOff (.truck x) := congrArg (·.state.holdsOff) sameRecord
      simp only [List.mem_cons, List.not_mem_nil, or_false, true_and, fresh, false_and, if_false, held]
    · simp only [List.mem_cons, List.not_mem_nil, or_self, now, false_and, if_false, false_or]
  · rw [k.trucks x, h.trucks x]
    by_cases now : .truck x = o
    · subst now
      simp only [List.mem_cons, List.not_mem_nil, or_false, fresh, if_false]
    · simp only [List.mem_cons, List.not_mem_nil, or_self, now, if_false, false_or]
  · rw [k.lights n, h.lights n]
    by_cases now : .light n = o
    · subst now
      simp only [List.mem_cons, List.not_mem_nil, or_false, fresh, if_false]
    · simp only [List.mem_cons, List.not_mem_nil, or_self, now, if_false, false_or]
  · by_cases now : .heater = o
    · subst now
      exact (k.heater (.head _)).of_alike (h.smoke fresh)
    · exact (h.heater ((List.mem_cons.mp mine).resolve_left now)).alike (k.smoke (fun m => now (List.mem_singleton.mp m)))
  · rw [List.mem_cons, not_or] at other
    exact (h.smoke other.2).trans (k.smoke (fun m => other.1 (List.mem_singleton.mp m)))
  · obtain ⟨a, b, c, d, e, f⟩ := h.blocks
    obtain ⟨a', b', c', d', e', f'⟩ := k.blocks
    exact ⟨a'.trans a, b'.trans b, c'.trans c, d'.trans d, e'.trans e, f'.trans f⟩
  · obtain ⟨a, b⟩ := h.rcu
    obtain ⟨a', b'⟩ := k.rcu
    refine ⟨?_, b'.trans b⟩
    rw [a', a]

/-- An output released and clean. -/
theorem cleanWatch_watches (o : Output) (s : State) :
    (∀ u, (cleanWatch o s).odu.watch u =
      if o = u then { s.odu.watch u with record := {}, retry := .stopped, probation := .stopped, openTimer := .stopped } else s.odu.watch u)
    ∧ (cleanWatch o s).odu.summary = s.odu.summary := by
  have same : (if s.heldOff o then releaseOutput o s else s).odu = s.odu := by
    split
    · cases o <;> rfl
    · rfl
  unfold cleanWatch
  refine ⟨fun u => ?_, ?_⟩
  · rw [publish_odu, mapWatch_odu, watch_setWatch, same]
    split
    · rename_i e
      rw [e]
    · rfl
  · rw [publish_odu, mapWatch_odu, same]
    rfl

/-- The blocks that the release of an output and its clean record leave, before its consumers take it. -/
theorem cleanWatch_frame (o : Output) (s : State) :
    (cleanWatch o s).moc = s.moc ∧ (cleanWatch o s).ltc = s.ltc ∧ (cleanWatch o s).rif = s.rif ∧ (cleanWatch o s).pws = s.pws
    ∧ (cleanWatch o s).ssq = s.ssq ∧ SmokeAlike s (cleanWatch o s)
    ∧ (cleanWatch o s).rcu = { s.rcu with views := { s.rcu.views with faults := s.rcu.views.faults.set (outputIndex o) {} } } := by
  unfold cleanWatch
  split
  · cases o <;> exact ⟨rfl, rfl, rfl, rfl, rfl, ⟨rfl, rfl, rfl, rfl⟩, rfl⟩
  · exact ⟨rfl, rfl, rfl, rfl, rfl, ⟨rfl, rfl, rfl, rfl⟩, rfl⟩

/-- The bridges after the release of an output: a truck's own hold-off is free (R77, R175). -/
theorem cleanWatch_bridges (o : Output) (s : State) (x : Truck) :
    (cleanWatch o s).bmu.bridge x
      = if .truck x ∈ [o] ∧ s.heldOff (.truck x) = true then { s.bmu.bridge x with heldOff := false } else s.bmu.bridge x := by
  unfold cleanWatch
  rw [publish_bmu, mapWatch_bmu]
  by_cases mine : o = .truck x
  · subst mine
    simp only [List.mem_singleton, true_and]
    split
    · simp [releaseOutput, releaseBridge]
    · rfl
  · have none : ¬(.truck x ∈ [o] ∧ s.heldOff (.truck x) = true) := fun ⟨h, _⟩ => mine (List.mem_singleton.mp h).symm
    rw [if_neg none]
    split
    · cases o with
      | truck y =>
        have other : ¬y = x := fun e => mine (by rw [e])
        simp [releaseOutput, releaseBridge, other]
      | _ => rfl
    · rfl

/-- The records that RCU shows, with one of them clean. -/
theorem faults_set (f : Vector FaultRecord 16) (o u : Output) :
    (f.set (outputIndex o) {})[outputIndex u] = if u ∈ [o] then {} else f[outputIndex u] := by
  have place : (outputIndex o).val = (outputIndex u).val ↔ u ∈ [o] := by
    rw [← Fin.ext_iff, List.mem_singleton]
    exact ⟨fun h => outputIndex_injective h.symm, fun h => by rw [h]⟩
  simp only [Fin.getElem_fin, Vector.getElem_set, place]

/-- One output cleared, but for what its consumers make of the clean record: `u` is the part after they took it. -/
theorem cleared_of_consumed {o : Output} {s u : State}
    (watches : ∀ x, (u.odu.watch x).record = ((cleanWatch o s).odu.watch x).record ∧ (u.odu.watch x).retry = ((cleanWatch o s).odu.watch x).retry
      ∧ (u.odu.watch x).probation = ((cleanWatch o s).odu.watch x).probation
      ∧ (((cleanWatch o s).odu.watch x).openTimer = .stopped → (u.odu.watch x).openTimer = .stopped))
    (bmu : u.bmu = (cleanWatch o s).bmu)
    (trucks : ∀ x, u.moc.truck x = if .truck x ∈ [o] then (s.moc.truck x).takeFault .ok else s.moc.truck x)
    (lights : ∀ n : Fin 12, u.ltc.lights[n] = if .light n ∈ [o] then { s.ltc.lights[n] with faultView := .ok } else s.ltc.lights[n])
    (heater : .heater ∈ [o] → SmokeClears s u) (smoke : .heater ∉ [o] → SmokeAlike s u)
    (blocks : u.rif = s.rif ∧ u.pws = s.pws ∧ u.cfs = s.cfs ∧ u.ssq = s.ssq ∧ u.moc.motionState = s.moc.motionState
      ∧ u.odu.summary = s.odu.summary)
    (rcu : u.rcu = { (cleanWatch o s).rcu with views := { (cleanWatch o s).rcu.views with smokeState := u.rcu.views.smokeState } }) :
    Cleared [o] s u := by
  obtain ⟨clean, _⟩ := cleanWatch_watches o s
  obtain ⟨_, _, _, _, _, _, cleanRcu⟩ := cleanWatch_frame o s
  rw [cleanRcu] at rcu
  refine ⟨fun x mine => ?_, fun x other => ?_, fun x stopped => ?_, fun x => ?_, fun x => ?_, trucks, lights, heater, smoke, blocks, ?_⟩
  · obtain ⟨a, b, c, d⟩ := watches x
    rw [clean x, if_pos (List.mem_singleton.mp mine).symm] at a b c d
    exact ⟨a, b, c, d rfl⟩
  · obtain ⟨a, b, c, _⟩ := watches x
    rw [clean x, if_neg (fun e => other (List.mem_singleton.mpr e.symm))] at a b c
    exact ⟨a, b, c⟩
  · obtain ⟨_, _, _, d⟩ := watches x
    rw [clean x] at d
    refine d ?_
    split
    · rfl
    · exact stopped
  · rw [rcu]
    exact faults_set _ o x
  · rw [bmu]
    exact cleanWatch_bridges o s x
  · rw [rcu]
    exact ⟨rfl, rfl⟩

/-- What MOC holds for a truck, with one truck changed. -/
theorem truck_mapTruck (m : Moc) (t x : Truck) (f : TruckControl → TruckControl) :
    (m.mapTruck t f).truck x = if x = t then f (m.truck x) else m.truck x := by
  cases t <;> cases x <;> rfl

/-- One output cleared (R175): its record is clean, and each of its consumers takes that. -/
theorem clearOutput_cleared (o : Output) (s : State) : Cleared [o] s (clearOutput o s) := by
  rw [clearOutput_eq]
  obtain ⟨moc, ltc, rif, pws, ssq, alike, _⟩ := cleanWatch_frame o s
  obtain ⟨_, summary⟩ := cleanWatch_watches o s
  have kept (x : Output) (u : State) (same : u.odu = (cleanWatch o s).odu) :
      (u.odu.watch x).record = ((cleanWatch o s).odu.watch x).record ∧ (u.odu.watch x).retry = ((cleanWatch o s).odu.watch x).retry
      ∧ (u.odu.watch x).probation = ((cleanWatch o s).odu.watch x).probation
      ∧ (((cleanWatch o s).odu.watch x).openTimer = .stopped → (u.odu.watch x).openTimer = .stopped) := by
    rw [same]
    exact ⟨rfl, rfl, rfl, id⟩
  cases o with
  | truck t =>
    have takes : consumeRecord (.truck t) {} (cleanWatch (.truck t) s)
        = beatsTakeFault t .ok (onMoc (·.mapTruck t (·.takeFault .ok)) (cleanWatch (.truck t) s)) := rfl
    rw [takes]
    refine cleared_of_consumed (fun x => kept x _ rfl) rfl (fun x => ?_) (fun n => ?_) nofun
      (fun _ => ⟨alike.smu, alike.cfs, alike.hpt, alike.shown⟩) ?_ rfl
    · refine Eq.trans (b := ((cleanWatch (.truck t) s).moc.mapTruck t (·.takeFault .ok)).truck x) rfl ?_
      rw [moc, truck_mapTruck]
      simp only [List.mem_singleton, Output.truck.injEq]
    · refine Eq.trans (b := (cleanWatch (.truck t) s).ltc.lights[n]) rfl ?_
      rw [ltc]
      rfl
    · refine ⟨rif, pws, alike.cfs, ssq, ?_, summary⟩
      refine Eq.trans (b := ((cleanWatch (.truck t) s).moc.mapTruck t (·.takeFault .ok)).motionState) rfl ?_
      rw [moc]
      cases t <;> rfl
  | heater =>
    obtain ⟨⟨moc', bmu', ltc', rif', pws', cfs', ssq', _⟩, rcu', summary', watches'⟩ := smokeTakeFault_stays (cleanWatch .heater s)
    have takes : consumeRecord .heater {} (cleanWatch .heater s) = smokeTakeFault {} (cleanWatch .heater s) := rfl
    rw [takes]
    refine cleared_of_consumed watches' bmu' (fun x => ?_) (fun n => ?_)
      (fun _ => (smokeTakeFault_clears _).of_alike alike) (fun other => absurd (.head _) other) ?_ rcu'
    · rw [moc', moc]
      rfl
    · rw [ltc', ltc]
      rfl
    · rw [rif', pws', cfs', ssq', moc', moc, summary']
      exact ⟨rif, pws, alike.cfs, ssq, rfl, summary⟩
  | fan =>
    refine cleared_of_consumed (fun x => kept x _ rfl) rfl (fun x => ?_) (fun n => ?_) nofun (fun _ => alike) ?_ rfl
    · exact congrArg (·.truck x) moc
    · exact congrArg (·.lights[n]) ltc
    · exact ⟨rif, pws, alike.cfs, ssq, congrArg (·.motionState) moc, summary⟩
  | light m =>
    have takes : consumeRecord (.light m) {} (cleanWatch (.light m) s) = lightsTakeFault m .ok (cleanWatch (.light m) s) := rfl
    rw [takes]
    refine cleared_of_consumed (fun x => kept x _ rfl) rfl (fun x => ?_) (fun n => ?_) nofun
      (fun _ => ⟨alike.smu, alike.cfs, alike.hpt, alike.shown⟩) ?_ rfl
    · exact congrArg (·.truck x) moc
    · refine Eq.trans (b := ((cleanWatch (.light m) s).ltc.mapLight m fun x => { x with faultView := .ok }).lights[n]) rfl ?_
      rw [ltc]
      by_cases mine : n = m
      · subst mine
        simp [Ltc.mapLight]
      · have other : ¬m.val = n.val := fun e => mine (Fin.ext e.symm)
        simp [Ltc.mapLight, mine, other]
    · exact ⟨rif, pws, alike.cfs, ssq, congrArg (·.motionState) moc, summary⟩

/-- A fold of the clear over outputs that differ clears them all. -/
theorem clearAll_cleared (l done : List Output) (s t : State) (h : Cleared done s t) (fresh : (l.reverse ++ done).Nodup) :
    Cleared (l.reverse ++ done) s (l.foldl (fun u o => clearOutput o u) t) := by
  induction l generalizing done t with
  | nil => exact h
  | cons o l ih =>
    rw [List.reverse_cons, List.append_assoc] at fresh ⊢
    have new : o ∉ done := (List.nodup_cons.mp (List.nodup_append.mp fresh).2.1).1
    exact ih (o :: done) (clearOutput o t) (h.cons (clearOutput_cleared o t) new) fresh

end Sys2Proof.Laws
end

section
/-! CLEAR_FAULTS (O24): the summary and the answer. -/

namespace Sys2Proof.Laws

open Sys2Proof.Machine

/-! ## The summary (R169) -/

/-- Nothing cleared. -/
theorem Cleared.nothing (s : State) : Cleared [] s s :=
  ⟨nofun, fun _ _ => ⟨rfl, rfl, rfl⟩, fun _ => id, fun _ => rfl, fun _ => rfl, fun _ => rfl, fun _ => rfl, nofun,
    fun _ => ⟨rfl, rfl, rfl, rfl⟩, ⟨rfl, rfl, rfl, rfl, rfl, rfl⟩, rfl, rfl⟩

/-- The outputs of a mask are those whose bit it has. -/
theorem mem_outputsOf (mask : OutputSet) (o : Output) : o ∈ outputsOf mask ↔ mask.getLsbD (outputIndex o).val = true := by
  unfold outputsOf
  rw [List.mem_filter, and_iff_right (List.mem_of_getElem? (allOutputs_index o))]

/-- CLEAR_FAULTS clears the outputs of its mask (R175). -/
theorem clearMask_cleared (mask : OutputSet) (s : State) :
    Cleared (outputsOf mask).reverse s ((outputsOf mask).foldl (fun u o => clearOutput o u) s) := by
  have distinct : (outputsOf mask).Nodup := List.Nodup.filter _ (by decide)
  have := clearAll_cleared (outputsOf mask) [] s s (.nothing s) (by simpa using distinct)
  rwa [List.append_nil] at this

/-- The bits of the set of the outputs that satisfy `p`, gathered along a list. -/
theorem gather_getLsbD (p : Output → Bool) (l : List Output) (acc : OutputSet) (k : Fin 16) :
    (l.foldl (fun acc o => if p o then acc ||| (1#16 <<< (outputIndex o).val) else acc) acc).getLsbD k.val
      = (acc.getLsbD k.val || l.any fun o => p o && decide (outputIndex o = k)) := by
  induction l generalizing acc with
  | nil => simp
  | cons o l ih =>
    have bit : (1#16 <<< (outputIndex o).val).getLsbD k.val = decide (outputIndex o = k) := by
      rw [← BitVec.twoPow_eq, BitVec.getLsbD_twoPow]
      simp [Fin.ext_iff]
    rw [List.foldl_cons, ih, List.any_cons]
    split
    · rename_i has
      rw [BitVec.getLsbD_or, bit, has, Bool.true_and, Bool.or_assoc]
    · rename_i lacks
      rw [Bool.eq_false_iff.mpr lacks, Bool.false_and, Bool.false_or]

/-- The summary names the outputs whose record shows a fault (R169). -/
theorem faultSet_getLsbD (d : Odu) (k : Fin 16) :
    d.faultSet.getLsbD k.val = (match allOutputs[k.val]? with
      | none => false
      | some o => (d.watch o).record.opened || (d.watch o).record.shorted) := by
  have place : ∃ o, allOutputs[k.val]? = some o ∧ outputIndex o = k := by
    revert k
    decide
  obtain ⟨o, named, index⟩ := place
  rw [named]
  dsimp only
  unfold Odu.faultSet
  rw [gather_getLsbD (fun o => (d.watch o).record.faulty), BitVec.getLsbD_zero, Bool.false_or, Bool.eq_iff_iff, List.any_eq_true]
  constructor
  · rintro ⟨u, _, faulty⟩
    obtain ⟨faulty, here⟩ := Bool.and_eq_true_iff.mp faulty
    rw [outputIndex_injective (index.trans (of_decide_eq_true here).symm)]
    exact faulty
  · intro faulty
    exact ⟨o, List.mem_of_getElem? named, Bool.and_eq_true_iff.mpr ⟨faulty, decide_eq_true index⟩⟩

/-- The summary after a publication, and where it is shown (R6, R169). -/
theorem publishSummary_summary (s : State) :
    (publishSummary s).odu.summary = s.odu.faultSet ∧ (∀ o, (publishSummary s).odu.watch o = s.odu.watch o)
    ∧ (s.rcu.views.faultSummary = s.odu.summary → s.rif.summaryView = s.odu.summary →
        (publishSummary s).rcu.views.faultSummary = (publishSummary s).odu.summary
        ∧ (publishSummary s).rif.summaryView = (publishSummary s).odu.summary)
    ∧ (publishSummary s).rcu = { s.rcu with views := { s.rcu.views with faultSummary := (publishSummary s).rcu.views.faultSummary } }
    ∧ (publishSummary s).moc = s.moc ∧ (publishSummary s).bmu = s.bmu ∧ (publishSummary s).ltc = s.ltc ∧ (publishSummary s).smu = s.smu
    ∧ (publishSummary s).hpt = s.hpt ∧ (publishSummary s).pws = s.pws ∧ (publishSummary s).cfs = s.cfs ∧ (publishSummary s).ssq = s.ssq := by
  rcases publishSummary_cases s with ⟨same, e⟩ | ⟨_, e⟩
  · rw [e]
    exact ⟨same.symm, fun _ => rfl, fun a b => ⟨a, b⟩, rfl, rfl, rfl, rfl, rfl, rfl, rfl, rfl, rfl⟩
  · rw [e]
    exact ⟨rfl, fun _ => rfl, fun _ _ => ⟨rfl, rfl⟩, rfl, rfl, rfl, rfl, rfl, rfl, rfl, rfl, rfl⟩

end Sys2Proof.Laws

namespace Sys2Proof.Record

open Sys2Proof.Machine Sys2Proof.Laws

/-- T* of a level under a configuration is the statement's (7.1). -/
theorem smokeTarget_eq {s : State} (known : s.smu.levelView ≤ 3) (heats : s.smu.levelView ≠ 0) :
    s.smokeTarget = Spec.targetAt s.cfs.working s.smu.levelView := by
  unfold State.smokeTarget smokeTarget Spec.targetAt State.cfg
  rw [if_neg heats]
  have three : s.smu.levelView = 1 ∨ s.smu.levelView = 2 ∨ s.smu.levelView = 3 := by omega
  rcases three with e | e | e <;> rw [e] <;> rfl

/-- An accepted request's answer leaves the notices, and RIF's view of the summary. -/
theorem answered_notices (h : Head) (kind : Byte) {a : Answer} (accepts : a.code.refuses = false) (s : State) :
    (Spec.answered h kind a s).hpt.notices = s.hpt.notices ∧ (Spec.answered h kind a s).rif.summaryView = s.rif.summaryView := by
  cases src : h.source with
  | host =>
    obtain ⟨rif, hpt⟩ := answered_host src kind accepts s
    rw [rif, hpt]
    exact ⟨rfl, rfl⟩
  | throttle id =>
    obtain ⟨hpt, rif⟩ := answered_throttle src kind accepts s
    rw [rif, hpt]
    exact ⟨rfl, rfl⟩

/-- What a CLEAR_FAULTS that arrives leaves: its mask cleared in `u`, the summary published, and the answer (R175). -/
theorem clearFaults_serves {h : Head} {mask : OutputSet} {s : State} (arr : Spec.Arrives h 2 s) :
    ∃ u t : State, exec (.clearFaults h mask) s = .next t ∧ Cleared (outputsOf mask).reverse s u
      ∧ (∃ lease shown, t.rcu = { u.rcu with lease := lease, views := { u.rcu.views with faultSummary := shown } })
      ∧ t.moc = u.moc ∧ t.bmu = u.bmu ∧ t.ltc = u.ltc ∧ t.smu = u.smu ∧ t.pws = u.pws ∧ t.cfs = u.cfs ∧ t.ssq = u.ssq
      ∧ (∀ o, t.odu.watch o = u.odu.watch o) ∧ t.odu.summary = u.odu.faultSet
      ∧ (u.rcu.views.faultSummary = u.odu.summary → u.rif.summaryView = u.odu.summary →
          t.rcu.views.faultSummary = t.odu.summary ∧ t.rif.summaryView = t.odu.summary)
      ∧ t.hpt.notices = u.hpt.notices
      ∧ (h.source = .host → h.control.getLsbD 0 = false →
          t.hpt.out = [0x00, 0x00, h.tag, 0x00, 0x00, 0x02] ++ be2 s.odu.summary.toNat) := by
  have done : exec (.clearFaults h mask) s = .next (Spec.answered h 0x24 (doneWith {} (be2 s.odu.summary.toNat))
      (Spec.leased h.source (publishSummary ((outputsOf mask).foldl (fun s o => clearOutput o s) s)))) :=
    exec_accepts (b := .clearFaults mask) rfl rfl arr rfl rfl
  have cleared := clearMask_cleared mask s
  generalize (outputsOf mask).foldl (fun s o => clearOutput o s) s = u at done cleared
  obtain ⟨summary, watches, shown, rcu, moc, bmu, ltc, smu, hpt, pws, cfs, ssq⟩ := publishSummary_summary u
  obtain ⟨aRcu, aMoc, aBmu, _, aSsq, aSmu, aLtc, aPws, aOdu, aCfs⟩ :=
    answered_frame h 0x24 (doneWith {} (be2 s.odu.summary.toNat)) (Spec.leased h.source (publishSummary u))
  obtain ⟨notices, view⟩ := answered_notices h 0x24 (a := doneWith {} (be2 s.odu.summary.toNat)) rfl (Spec.leased h.source (publishSummary u))
  refine ⟨u, _, done, cleared,
    ⟨(Spec.leased h.source (publishSummary u)).rcu.lease, (publishSummary u).rcu.views.faultSummary, ?_⟩, ?_, ?_, ?_, ?_, ?_, ?_, ?_, fun o => ?_, ?_, fun a b => ?_, ?_, fun host live => ?_⟩
  · rw [aRcu]
    refine (congrArg State.rcu (leased_eq h.source (publishSummary u))).trans ?_
    dsimp only
    rw [rcu]
  · rw [aMoc, leased_eq, moc]
  · rw [aBmu, leased_eq, bmu]
  · rw [aLtc, leased_eq, ltc]
  · rw [aSmu, leased_eq, smu]
  · rw [aPws, leased_eq, pws]
  · rw [aCfs, leased_eq, cfs]
  · rw [aSsq, leased_eq, ssq]
  · rw [aOdu, leased_eq]
    exact watches o
  · rw [aOdu, leased_eq, summary]
  · rw [aRcu, aOdu, view, leased_eq]
    exact shown a b
  · rw [notices, leased_eq, hpt]
  · rw [(answered_host host 0x24 (a := doneWith {} (be2 s.odu.summary.toNat)) rfl _).2]
    dsimp only
    rw [live, if_neg (show ¬(false || (0x24 : Byte) == 0x18) = true by decide)]
    rfl

/-- Settles O24: the outputs of the mask are cleared one after another, and the summary is published with the last. -/
theorem clearFaultsCleansRecords : Obligations.ClearFaultsCleansRecords := by
  intro h mask s arr
  obtain ⟨u, t, done,
    ⟨named, others, _, shown, bridges, trucks, lights, heater, smoke, ⟨rif, pws, cfs, ssq, motion, summary⟩, rcu, faultSummary⟩,
    ⟨_, _, tRcu⟩, tMoc, tBmu, tLtc, tSmu, tPws, tCfs, tSsq, tWatch, tSummary, tShown, tNotices, tOut⟩ := clearFaults_serves (mask := mask) arr
  have mem (o : Output) : o ∈ (outputsOf mask).reverse ↔ mask.getLsbD (outputIndex o).val = true := by
    rw [List.mem_reverse, mem_outputsOf]
  have notMem (o : Output) (off : mask.getLsbD (outputIndex o).val = false) : o ∉ (outputsOf mask).reverse := by
    rw [mem, off]
    exact Bool.false_ne_true
  refine ⟨t, done, fun o on => ?_, fun o off => ?_, fun x => ⟨fun on held => ?_, fun on => ?_, fun off => ⟨?_, ?_⟩⟩, fun n => ?_,
    fun on other => ?_, fun on fault known => ?_, fun on => ?_, fun off => ?_, ?_, fun k => ?_, fun inv => ?_, tOut, ?_, ?_, ?_, ?_, ?_, ?_, ?_⟩
  · obtain ⟨a, b, c, d⟩ := named o ((mem o).mpr on)
    rw [tWatch, tRcu]
    exact ⟨a, b, c, d, (shown o).trans (if_pos ((mem o).mpr on))⟩
  · obtain ⟨a, b, c⟩ := others o (notMem o off)
    rw [tWatch, tRcu]
    exact ⟨a, b, c, (shown o).trans (if_neg (notMem o off))⟩
  · rw [tBmu, bridges, if_pos ⟨(mem _).mpr on, held⟩]
  · rw [tMoc, trucks, if_pos ((mem _).mpr on)]
    unfold TruckControl.takeFault
    cases (s.moc.truck x).faultView <;> rfl
  · rw [tBmu, bridges, if_neg (fun both => notMem _ off both.1)]
  · rw [tMoc, trucks, if_neg (notMem _ off)]
  · rw [tLtc, lights]
    simp only [mem]
  · rw [tSmu]
    exact ((heater ((mem .heater).mpr on)).other other).1
  · obtain ⟨state, view, duty, fan, _⟩ := (heater ((mem .heater).mpr on)).fault fault
    rw [tSmu, tRcu]
    refine ⟨state.trans ?_, view, duty, fan⟩
    unfold State.calledSmoke
    by_cases heats : s.smu.levelView = 0
    · simp only [heats, if_true]
    · simp only [heats, if_false, smokeTarget_eq known heats]
  · rw [tSmu]
    have clears := heater ((mem .heater).mpr on)
    by_cases fault : s.smu.state = .fault
    · rw [(clears.fault fault).1]
      exact calledSmoke_ne_fault s
    · rw [(clears.other fault).1]
      exact fault
  · rw [tSmu]
    exact (smoke (notMem .heater off)).smu
  · rw [tNotices, tSmu]
    by_cases on : mask.getLsbD 2 = true
    · have clears := heater ((mem .heater).mpr on)
      by_cases fault : s.smu.state = .fault
      · obtain ⟨_, _, _, _, hpt⟩ := clears.fault fault
        rw [if_pos ⟨on, fault⟩, hpt]
        rfl
      · rw [if_neg (fun both => fault both.2), (clears.other fault).2]
    · rw [if_neg (fun both => on both.1), (smoke (notMem .heater (Bool.eq_false_iff.mpr on))).hpt]
  · rw [tSummary, faultSet_getLsbD]
    cases allOutputs[k.val]? with
    | none => rfl
    | some o => exact (congrArg (fun w : Watch => w.record.opened || w.record.shorted) (tWatch o)).symm
  · obtain ⟨_, a, b⟩ := inv.summary
    exact tShown (by rw [faultSummary, summary, a]) (by rw [rif, summary, b])
  · rw [tRcu, rcu]
  · rw [tRcu, rcu]
  · rw [tRcu, rcu]
  · rw [tPws, pws]
  · rw [tCfs, cfs]
  · rw [tSsq, ssq]
  · rw [tMoc, motion]

end Sys2Proof.Record
end

section
/-! The release of reset (O4). -/

namespace Sys2Proof.Record

open Sys2Proof.Machine Sys2Proof.Laws

/-! ## The configuration loaded (R177, R183) -/

/-- A part-written image is bad (R183). -/
theorem badImage_bad (c : Configuration) : (badImage c).good = false := by
  simp [Image.good, badImage]

/-- What CFS takes the image to be after a device reset at any point (R177, R183). -/
theorem imageAtReset_good (s : State) :
    s.cfs.imageAtReset.good = (Spec.loaded s).1
    ∧ (if (Spec.loaded s).1 then s.cfs.imageAtReset.items else Configuration.defaults) = (Spec.loaded s).2 := by
  unfold Cfs.imageAtReset Spec.loaded
  cases s.cfs.writing with
  | true =>
    rw [if_pos rfl, badImage_bad, if_neg (fun h => absurd h.1 (by decide))]
    exact ⟨rfl, rfl⟩
  | false =>
    by_cases good : s.cfs.image.items.crc = s.cfs.image.crc
    · simp [Image.good, good]
    · simp [Image.good, good]

/-- The part as the configuration is loaded after a device reset: CFS and its report to PWS (R177). -/
theorem loadConfiguration_eq (s : State) (trackV capV : Nat) :
    loadConfiguration (onBmu (fun m => { m with trackPin := trackV, capPin := capV }) { deviceReset s with inReset := false })
      = { deviceReset s with
          inReset := false
          bmu := { State.reset.bmu with trackPin := trackV, capPin := capV }
          cfs := { State.reset.cfs with
            image := s.cfs.imageAtReset, working := (Spec.loaded s).2, dirty := !(Spec.loaded s).1 }
          pws := { State.reset.pws with storeReport := some (!(Spec.loaded s).1) } } := by
  obtain ⟨good, items⟩ := imageAtReset_good s
  unfold loadConfiguration
  dsimp only [onBmu, onCfs, onPws, deviceReset]
  rw [good, items]
  rfl

/-! ## The blocks start (R157) -/

/-- An idle converter takes the first DIE_T (R72, R83). -/
theorem startSchedule_eq {s : State} (idle : s.bmu.converting = none) (empty : s.bmu.conversions = []) :
    startSchedule s = { s with bmu := { s.bmu with
      running := true, periodStart := s.now, modulus := s.cfs.working.pwmModulus
      controlTimer := .running (s.now + 80000), dieTimer := .running (s.now + 1600000), converting := some (.dieT, s.now + 160) } } := by
  have room : (onBmu (fun m => { m with
      running := true, periodStart := s.now, modulus := s.cfg.pwmModulus
      controlTimer := s.timer Config.controlPeriod, dieTimer := s.timer Config.diePeriod }) s).bmu.conversions.length < conversionCapacity := by
    rw [onBmu_bmu]
    dsimp only
    rw [empty]
    decide
  unfold startSchedule
  dsimp only
  rw [appendChannel, if_pos room]
  unfold startConversion
  dsimp only [onBmu]
  rw [idle, empty]
  rfl

/-- The state in which LTC evaluates the scene: all other blocks have started with configuration `c` (R157). -/
def startedBlocks (c : Configuration) (g : Bool) (trackV capV : Nat) (s : State) : State :=
  { deviceReset s with
    inReset := false
    cfs := { State.reset.cfs with image := s.cfs.imageAtReset, working := c, dirty := !g }
    rcu := { State.reset.rcu with keys := c.startKeys, volume := c.startVolume, restarted := true, views.fluid := c.fluidCapacity }
    bmu := { State.reset.bmu with
      running := true, periodStart := s.now, modulus := c.pwmModulus
      controlTimer := .running (s.now + 80000), dieTimer := .running (s.now + 1600000)
      converting := some (.dieT, s.now + 160), trackPin := trackV, capPin := capV
      trackPresent := decide (600 + 200 * c.trackPresentLevel.val ≤ trackV)
      trackSag := decide (1200 + 200 * c.trackSagLevel.val ≤ trackV)
      capReserve := decide (500 + 50 * c.capReserveLevel.val ≤ capV)
      capResume := decide (800 + 100 * c.capResumeLevel.val ≤ capV) }
    btg := { State.reset.btg with watching := true, beatsInUse := c.beatsPerRev }
    ssq := { State.reset.ssq with keysView := c.startKeys, volumeView := c.startVolume }
    smu := { State.reset.smu with fluid := c.fluidCapacity, tickTimer := .running (s.now + 1600000) }
    ltc := { State.reset.ltc with keysView := c.startKeys }
    pws := { State.reset.pws with
      presentView := decide (600 + 200 * c.trackPresentLevel.val ≤ trackV)
      sagView := decide (1200 + 200 * c.trackSagLevel.val ≤ trackV)
      reserveView := decide (500 + 50 * c.capReserveLevel.val ≤ capV)
      resumeView := decide (800 + 100 * c.capResumeLevel.val ≤ capV)
      trackPresent := decide (600 + 200 * c.trackPresentLevel.val ≤ trackV)
      storeReport := some (!g), recordReport := true, comparatorReport := true }
    moc := { State.reset.moc with curve := c.speedCurve, beatSource := c.beatSource } }

/-- The release starts every block, and then LTC and the header read (R157). -/
theorem release_eq (s : State) (trackV capV : Nat) :
    release trackV capV (deviceReset s)
      = startSound (startLights (startedBlocks (Spec.loaded s).2 (Spec.loaded s).1 trackV capV s)) := by
  unfold release
  dsimp only
  rw [loadConfiguration_eq]
  generalize (Spec.loaded s).2 = c
  generalize (Spec.loaded s).1 = g
  rw [startSchedule_eq rfl rfl]
  dsimp only [initRecord, firstReport, firstOutput, startMotion, motionTakeSettings, startBeats, publishBeats, startSmoke, setFluid, publish,
    onRcu, onMoc, onBmu, onBtg, onSmu, onLtc, onPws, State.cfg, Configuration.level, Bmu.pin, deviceReset, startedBlocks]
  rfl

/-- The scene key is on as the frames start (R2, R150). -/
def sceneKeyOn (c : Configuration) : Bool :=
  match c.sceneKey with
  | none => false
  | some k => c.startKeys.getLsbD k.val

/-- The scene player as the frames start: it waits on row A where the scene key is on, for the row has no duration yet (R136, R150). -/
theorem playerTakes_start (c : Configuration) :
    Spec.playerTakes c c.startKeys { State.reset.ltc with keysView := c.startKeys }
      = { State.reset.ltc with keysView := c.startKeys, player := if sceneKeyOn c then .waiting else .stopped } := by
  unfold Spec.playerTakes sceneKeyOn
  cases c.sceneKey with
  | none => rfl
  | some k =>
    dsimp only
    unfold Spec.key
    by_cases on : c.startKeys.getLsbD k.val = true
    · rw [if_neg (by rw [on]; decide), if_pos on]
      rfl
    · rw [if_pos (Bool.eq_false_iff.mpr on), if_neg on]
      rfl

/-- LTC's frames start, and the scene player waits with a notice where the scene key is on (R136, R150; log entry 33). -/
theorem startLights_started (c : Configuration) (g : Bool) (trackV capV : Nat) (s : State) :
    startLights (startedBlocks c g trackV capV s) = { startedBlocks c g trackV capV s with
      ltc := { State.reset.ltc with
        keysView := c.startKeys, frameTimer := .running (s.now + 160000), player := if sceneKeyOn c then .waiting else .stopped }
      hpt := { State.reset.hpt with selectLow := s.hpt.selectLow, notices := if sceneKeyOn c then [.sceneWaiting .a] else [] } } := by
  have takes : Spec.playerTakes (startedBlocks c g trackV capV s).cfs.working (startedBlocks c g trackV capV s).ltc.keysView
      (startedBlocks c g trackV capV s).ltc = _ := playerTakes_start c
  unfold startLights
  rw [evaluateScene_eq, takes]
  cases sceneKeyOn c <;> rfl

/-- Settles O4. -/
theorem releaseStartsLoad : Obligations.ReleaseStartsLoad := by
  intro s trackV capV charged
  refine ⟨deviceReset s, rfl, release trackV capV (deviceReset s), ?_, ?_⟩
  · refine Eq.trans (b := .next (if (deviceReset s).inReset && decide (Config.releaseVoltage ≤ capV) then release trackV capV (deviceReset s)
      else deviceReset s)) rfl ?_
    have leaves : ((deviceReset s).inReset && decide (Config.releaseVoltage ≤ capV)) = true :=
      Bool.and_eq_true_iff.mpr ⟨rfl, decide_eq_true charged⟩
    rw [if_pos leaves]
  rw [release_eq, startLights_started]
  generalize (Spec.loaded s).2 = c
  generalize (Spec.loaded s).1 = g
  exact ⟨rfl, rfl, rfl, rfl, rfl, rfl, rfl, rfl, rfl, rfl, rfl, rfl, rfl, rfl⟩

end Sys2Proof.Record
end

section
/-! A frame does what its requests do (O35). The statement's last part takes a frame in handling with any entries already left for its reply:
`FrameRun.Fits` says nothing of `answered`. A READ of DIRECTION that was answered ACCEPTED, which no run of a frame leaves, is then inverted
by the model, whose R40 asks for an answer that refuses nothing, and not by the statement, whose R40 asks for DONE. -/

namespace Sys2Proof.Record

open Sys2Proof.Machine Sys2Proof.Laws

/-- A consist-addressed frame of throttle 1 in handling, one undefined request of which waits. Its READ of DIRECTION is held to have been
answered ACCEPTED, which no run leaves, for a READ is answered DONE (R7, R8). -/
def strayRun : FrameRun :=
  { thr := 1, seq := 0, addr := .consist, consist := none, waiting := [⟨0xFF, true, 0, []⟩]
    answered := [(⟨0x10, false, 0, [1, 0]⟩, some (.response ⟨0, { code := .accepted, value := [0] }⟩))] }

/-- The lead of a consist of REVERSED orientation handles that frame. -/
def strayState : State :=
  { State.reset with
    inReset := false
    rcu.views.powerState := .run
    rif.handling := some strayRun, rif.throttles := [⟨1, 0, 0⟩]
    cfs.working.consistOrientation := .reversed, cfs.working.consistLead := true }

/-- The frame's run fits (R30, R190). -/
theorem strayRun_fits : strayRun.Fits := by
  refine ⟨by decide, by decide, by decide, fun r hr => ?_⟩
  rw [List.mem_singleton.mp hr]
  decide

/-- The entries of the replies that wait. -/
def replyEntries (s : State) : List (List ReplyEntry) := s.rif.replies.map (·.entries)

/-- By the statement the ACCEPTED answer goes out as it is: only one that is DONE is inverted. -/
theorem strayRun_stated :
    (Spec.goesOn strayRun { strayState with rif.handling := none }).map replyEntries
      = some [[.response ⟨0, { code := .accepted, value := [0] }⟩, .error 0xFF .badKind]] := by
  rfl

/-- The model inverts every direction that an answer which refuses nothing carries, ACCEPTED with DONE (R40). -/
theorem strayRun_answered :
    replyEntries (takeFrame strayState) = [[.response ⟨0, { code := .accepted, value := [1] }⟩, .error 0xFF .badKind]] := by
  rfl

/-- Refutes O35: `strayState` handles a frame with an ACCEPTED answer to a READ of DIRECTION. The refutation rests on the unbound `answered`
alone, and says nothing against a frame whose answered entries its own run has left. -/
theorem not_aFrameDoesItsRequest : ¬Obligations.AFrameDoesItsRequest := by
  intro h
  obtain ⟨_, _, handled⟩ := h strayState rfl
  obtain ⟨goes, _⟩ := handled strayRun rfl (by decide) strayRun_fits
  obtain ⟨t, stated, runs⟩ := goes ⟨⟨1, 0, 0⟩, .head _, rfl⟩
  have same : takeFrame strayState = t := by
    have : exec .radioFrame strayState = .next (takeFrame strayState) := rfl
    rw [this] at runs
    exact Host.Outcome.next.inj runs
  have entries := strayRun_stated
  rw [stated, ← same, Option.map_some, strayRun_answered] at entries
  exact absurd entries (by decide)

end Sys2Proof.Record
end

section
/-! SUPPORT. The part of the state that the queues and the deferred requests turn on, and every operation of the blocks that leaves it. -/

namespace Sys2Proof.Laws

open Sys2Proof.Machine

/-- What the queues and the deferred requests turn on, beside the drive core: the deferred slots of HPT and the MEASUREs of BMU (R86, R186),
the replies and the completed frames of RIF, the commit in flight (R181), and whether the notices and the conversions are within their
sizes (R83, R187). -/
structure QueueCore where
  slots          : List DeferredSlot
  measures       : List SpotSlot
  replies        : List Reply
  completed      : List CompletedFrame
  writing        : Bool
  origin         : CommitOrigin
  noticesFit     : Bool
  conversionsFit : Bool

/-- The queue core of a state. -/
def queueCore (s : State) : QueueCore where
  slots := s.hpt.slots
  measures := s.bmu.slots
  replies := s.rif.replies
  completed := s.rif.completed
  writing := s.cfs.writing
  origin := s.cfs.origin
  noticesFit := decide (s.hpt.notices.length ≤ 16)
  conversionsFit := decide (s.bmu.conversions.length ≤ 8)

variable (s : State)

/-! ## Updates of components -/

@[simp] theorem queue_pending (l : List Instr) : queueCore { s with pending := l } = queueCore s := rfl
@[simp] theorem queue_now (n : Time) : queueCore { s with now := n } = queueCore s := rfl
@[simp] theorem queue_rcu (r : Rcu) : queueCore { s with rcu := r } = queueCore s := rfl
@[simp] theorem queue_moc (m : Moc) : queueCore { s with moc := m } = queueCore s := rfl
@[simp] theorem queue_btg (b : Btg) : queueCore { s with btg := b } = queueCore s := rfl
@[simp] theorem queue_ssq (q : Ssq) : queueCore { s with ssq := q } = queueCore s := rfl
@[simp] theorem queue_smu (u : Smu) : queueCore { s with smu := u } = queueCore s := rfl
@[simp] theorem queue_pws (p : Pws) : queueCore { s with pws := p } = queueCore s := rfl
@[simp] theorem queue_odu (d : Odu) : queueCore { s with odu := d } = queueCore s := rfl

@[simp] theorem queue_onRcu (f : Rcu → Rcu) : queueCore (onRcu f s) = queueCore s := rfl
@[simp] theorem queue_onMoc (f : Moc → Moc) : queueCore (onMoc f s) = queueCore s := rfl
@[simp] theorem queue_onBtg (f : Btg → Btg) : queueCore (onBtg f s) = queueCore s := rfl
@[simp] theorem queue_onSmu (f : Smu → Smu) : queueCore (onSmu f s) = queueCore s := rfl
@[simp] theorem queue_onLtc (f : Ltc → Ltc) : queueCore (onLtc f s) = queueCore s := rfl
@[simp] theorem queue_onPws (f : Pws → Pws) : queueCore (onPws f s) = queueCore s := rfl
@[simp] theorem queue_publish (f : Views → Views) : queueCore (publish f s) = queueCore s := rfl

/-! ## Shared operations -/

@[simp] theorem queue_reach (due : Time) : queueCore (s.reach due) = queueCore s := rfl

/-- A push leaves the notices within their size, or beyond it (R187). -/
@[simp] theorem queue_pushNotice (n : Notice) : queueCore (pushNotice n s) = queueCore s := by
  have slots : (s.hpt.push n).slots = s.hpt.slots := (push_frame s.hpt n).1
  have fits : decide ((s.hpt.push n).notices.length ≤ 16) = decide (s.hpt.notices.length ≤ 16) := by
    rw [decide_eq_decide]
    unfold Hpt.push
    split
    · rename_i room
      have : s.hpt.notices.length < 16 := room
      simp only [List.length_append, List.length_singleton]
      omega
    · split
      · exact .rfl
      · rename_i kept
        have event : s.hpt.notices.any Notice.isEvent = true := by
          simp only [Bool.or_eq_true, not_or, List.all_eq_true, not_forall] at kept
          obtain ⟨_, m, hm, e⟩ := kept
          exact List.any_eq_true.mpr ⟨m, hm, by simpa using e⟩
        rw [List.length_append, List.length_singleton, dropOldestEvent_length event]
  rw [queueCore, pushNotice_hpt, slots, fits]
  rfl

@[simp] theorem queue_countRadio (f : RadioCounts → RadioCounts) : queueCore (countRadio f s) = queueCore s := rfl

@[simp] theorem queue_takeCommand (o : Output) (n : Nat) : queueCore (takeCommand o n s) = queueCore s := rfl

@[simp] theorem queue_mapWatch (o : Output) (f : Watch → Watch) : queueCore (mapWatch o f s) = queueCore s := rfl

/-- A channel appended, or turned away by a full list, leaves the list within its size, or beyond it (R83). -/
@[simp] theorem queue_appendChannel (ch : Channel) : queueCore (appendChannel ch s) = queueCore s := by
  rcases appendChannel_cases s ch with ⟨_, e⟩ | ⟨room, e⟩ <;> rw [e]
  rcases startConversion_cases { s with bmu := { s.bmu with conversions := s.bmu.conversions ++ [ch] } } with e | ⟨_, rest, _, h, e⟩ <;> rw [e]
  · simp [queueCore, Nat.le_of_lt room, Nat.succ_le_of_lt room]
  · have : rest.length = s.bmu.conversions.length := by simpa using (congrArg List.length h).symm
    simp [queueCore, this]

@[simp] theorem queue_appendLight : queueCore (appendLight s) = queueCore s := by
  rw [appendLight, queue_appendChannel]
  rfl


/-! ## The lights (chapter 8) -/

@[simp] theorem queue_enterRow (r : SceneRow) : queueCore (enterRow r s) = queueCore s := by
  simp only [enterRow, apply_ite queueCore, queue_pushNotice, queue_onLtc, ite_self]

@[simp] theorem queue_evaluateScene : queueCore (evaluateScene s) = queueCore s := by
  unfold evaluateScene
  split
  · split <;> simp only [queue_enterRow]
  · rfl

@[simp] theorem queue_endRow : queueCore (endRow s) = queueCore s := by
  simp only [endRow, queue_enterRow, queue_pushNotice]

@[simp] theorem queue_nextStep : queueCore (nextStep s) = queueCore s := by
  unfold nextStep
  simp only []
  split
  · exact queue_endRow s
  · split
    · exact queue_endRow s
    · rfl

@[simp] theorem queue_advanceScene : queueCore (advanceScene s) = queueCore s := by
  unfold advanceScene
  split
  · simp only []
    split
    · rw [queue_nextStep]; rfl
    · rfl
  · rfl

@[simp] theorem queue_lightsTakeKeys (k : KeySet) : queueCore (lightsTakeKeys k s) = queueCore s := by
  rw [lightsTakeKeys, queue_evaluateScene, queue_onLtc]

@[simp] theorem queue_lightsTakeMotion (n : Nat) (d : Direction) : queueCore (lightsTakeMotion n d s) = queueCore s := rfl

@[simp] theorem queue_lightsTakeFault (n : Fin 12) (st : FaultState) : queueCore (lightsTakeFault n st s) = queueCore s := rfl

@[simp] theorem queue_lightsTakeBeat : queueCore (lightsTakeBeat s) = queueCore s := rfl

@[simp] theorem queue_handLevels : queueCore (handLevels s) = queueCore s :=
  foldl_keeps (P := fun t => queueCore t = queueCore s) (fun t _ h => (queue_takeCommand t _ _).trans h) allLights s rfl

@[simp] theorem queue_lightFrame : queueCore (lightFrame s) = queueCore s := by
  simp only [lightFrame, queue_advanceScene, queue_onLtc, queue_handLevels]

/-! ## The smoke unit (chapter 7) -/

@[simp] theorem queue_setHeater (n : Nat) : queueCore (setHeater n s) = queueCore s := rfl

@[simp] theorem queue_setFan (n : Nat) : queueCore (setFan n s) = queueCore s := rfl

@[simp] theorem queue_fanBetween : queueCore (fanBetween s) = queueCore s := rfl

@[simp] theorem queue_stopPuff : queueCore (stopPuff s) = queueCore s := rfl

@[simp] theorem queue_enterSmoke (st : SmokeState) : queueCore (enterSmoke st s) = queueCore s := by
  have shown : queueCore (publish (fun v => { v with smokeState := st }) (onSmu (fun u => { u with state := st }) s)) = queueCore s := rfl
  simp only [enterSmoke, apply_ite queueCore, queue_fanBetween, queue_setFan, queue_stopPuff, queue_setHeater, queue_pushNotice, shown, ite_self]

@[simp] theorem queue_disarmDry : queueCore (disarmDry s) = queueCore s := rfl

@[simp] theorem queue_setFluid (n : Nat) : queueCore (setFluid n s) = queueCore s := rfl

@[simp] theorem queue_smokeTakeLevel (n : Nat) : queueCore (smokeTakeLevel n s) = queueCore s := by
  unfold smokeTakeLevel
  simp only []
  split <;> simp only [apply_ite queueCore, queue_enterSmoke, queue_disarmDry, queue_onSmu, ite_self]

@[simp] theorem queue_smokeTakeShed (n : Nat) : queueCore (smokeTakeShed n s) = queueCore s := by
  simp only [smokeTakeShed, apply_ite queueCore, queue_enterSmoke, queue_setHeater, queue_onSmu, ite_self]

@[simp] theorem queue_smokeTakeFault (r : FaultRecord) : queueCore (smokeTakeFault r s) = queueCore s := by
  simp only [smokeTakeFault, apply_ite queueCore, queue_enterSmoke, queue_onSmu, ite_self]

@[simp] theorem queue_smokeTakeMotion (m : MotionState) : queueCore (smokeTakeMotion m s) = queueCore s := by
  simp only [smokeTakeMotion, apply_ite queueCore, queue_fanBetween, queue_onSmu, ite_self]

@[simp] theorem queue_smokeTakeBeat : queueCore (smokeTakeBeat s) = queueCore s := by
  simp only [smokeTakeBeat, apply_ite queueCore, queue_setFan, queue_onSmu, ite_self]

@[simp] theorem queue_smokeTempsChanged (n : Nat) : queueCore (smokeTempsChanged n s) = queueCore s := by
  simp only [smokeTempsChanged, apply_ite queueCore, queue_disarmDry, ite_self]

@[simp] theorem queue_capacityChanged : queueCore (capacityChanged s) = queueCore s := by
  simp only [capacityChanged, apply_ite queueCore, queue_setFluid, ite_self]

@[simp] theorem queue_fanPuffChanged : queueCore (fanPuffChanged s) = queueCore s := by
  simp only [fanPuffChanged, apply_ite queueCore, queue_setFan, ite_self]

@[simp] theorem queue_fanLevelChanged : queueCore (fanLevelChanged s) = queueCore s := by
  simp only [fanLevelChanged, apply_ite queueCore, queue_fanBetween, ite_self]

@[simp] theorem queue_regulateHeat : queueCore (regulateHeat s) = queueCore s := by
  simp only [regulateHeat, queue_setHeater, apply_ite queueCore, queue_enterSmoke, ite_self]

@[simp] theorem queue_regulateDry : queueCore (regulateDry s) = queueCore s := by
  simp only [regulateDry, apply_ite queueCore, queue_enterSmoke, queue_regulateHeat, queue_onSmu, ite_self]

@[simp] theorem queue_debitFluid : queueCore (debitFluid s) = queueCore s := by
  simp only [debitFluid, apply_ite queueCore, queue_setFluid, ite_self]

@[simp] theorem queue_regulationStep (n : Nat) : queueCore (regulationStep n s) = queueCore s := by
  simp only [regulationStep, apply_ite queueCore, queue_enterSmoke, queue_regulateDry, queue_debitFluid, queue_onSmu, ite_self]

/-! ## Sound and beats (chapters 5 and 6) -/

@[simp] theorem queue_raiseTrigger (t : Trigger) : queueCore (raiseTrigger t s) = queueCore s := rfl

@[simp] theorem queue_publishSound : queueCore (publishSound s) = queueCore s := rfl

@[simp] theorem queue_publishBeats : queueCore (publishBeats s) = queueCore s := rfl

@[simp] theorem queue_emitBeat : queueCore (emitBeat s) = queueCore s := by
  simp only [emitBeat, queue_lightsTakeBeat, queue_smokeTakeBeat, queue_ssq, queue_publishBeats, queue_onBtg]

@[simp] theorem queue_beatSample (g : GapSample) : queueCore (beatSample g s) = queueCore s := by
  simp only [beatSample, apply_ite queueCore, queue_emitBeat, queue_onBtg, ite_self]

@[simp] theorem queue_beatsTakeFault (t : Truck) (st : FaultState) : queueCore (beatsTakeFault t st s) = queueCore s := rfl

@[simp] theorem queue_beatSourceChanged (b : BeatSource) : queueCore (beatSourceChanged b s) = queueCore s := by
  simp only [beatSourceChanged, apply_ite queueCore, queue_onBtg, ite_self]

/-! ## The bridges (4.2 to 4.4) -/

@[simp] theorem queue_setBridge (t : Truck) (b : Bridge) : queueCore (setBridge t b s) = queueCore s := by cases t <;> rfl

@[simp] theorem queue_cutDrive (t : Truck) : queueCore (cutDrive t s) = queueCore s := by
  rcases cutDrive_cases s t with ⟨_, e⟩ | ⟨_, _, _, e⟩ | ⟨_, _, _, e⟩ <;> rw [e]
  · exact queue_setBridge s t _
  · exact queue_setBridge s t _

@[simp] theorem queue_switchOff (t : Truck) : queueCore (switchOff t s) = queueCore s := by
  simp only [switchOff, queue_setBridge, queue_cutDrive]

@[simp] theorem queue_holdBridge (t : Truck) : queueCore (holdBridge t s) = queueCore s := by
  simp only [holdBridge, queue_setBridge, queue_switchOff]

@[simp] theorem queue_releaseBridge (t : Truck) : queueCore (releaseBridge t s) = queueCore s := queue_setBridge s t _

@[simp] theorem queue_handMode (t : Truck) (m : BridgeMode) : queueCore (handMode t m s) = queueCore s := by
  unfold handMode
  simp only []
  split
  · exact queue_setBridge s t _
  · cases m with
    | drive => exact queue_setBridge s t _
    | coast => simp only [queue_switchOff, queue_setBridge]
    | shortBrake => simp only [apply_ite queueCore, queue_setBridge, queue_cutDrive, ite_self]

@[simp] theorem queue_handDuty (t : Truck) (n : Nat) : queueCore (handDuty t n s) = queueCore s := queue_setBridge s t _

@[simp] theorem queue_handPolarity (d : Direction) : queueCore (handPolarity d s) = queueCore s := rfl

@[simp] theorem queue_periodStart : queueCore (periodStart s) = queueCore s := by
  refine Eq.trans ?_ ((queue_cutDrive (cutDrive .front s) .rear).trans (queue_cutDrive s .front))
  rfl

/-! ## The motion controller (chapter 3) -/

@[simp] theorem queue_evaluateMotion : queueCore (evaluateMotion s) = queueCore s := by
  rcases evaluateMotion_cases s with ⟨_, e⟩ | ⟨_, e⟩ <;> rw [e]
  rw [queue_pushNotice, queue_smokeTakeMotion, queue_publish, queue_onMoc]

@[simp] theorem queue_zeroIntegrators : queueCore (zeroIntegrators s) = queueCore s := rfl

@[simp] theorem queue_flipDirection : queueCore (flipDirection s) = queueCore s := by
  simp only [flipDirection, queue_raiseTrigger, queue_lightsTakeMotion, queue_handPolarity]
  rw [queue_publish, queue_zeroIntegrators, queue_onMoc]

@[simp] theorem queue_completeReversal : queueCore (completeReversal s) = queueCore s := by
  simp only [completeReversal, apply_ite queueCore, queue_flipDirection, ite_self]

@[simp] theorem queue_endSlip : queueCore (endSlip s) = queueCore s := by
  rcases endSlip_cases s with ⟨_, e⟩ | ⟨t, _, e⟩ <;> rw [e]
  · rfl
  · exact queue_pushNotice s (.slip true t)

@[simp] theorem queue_handDrive (t : Truck) (n : Nat) : queueCore (handDrive t n s) = queueCore s := by
  simp only [handDrive, queue_takeCommand, queue_handMode, queue_handDuty]

@[simp] theorem queue_handIdle : queueCore (handIdle s) = queueCore s := by
  simp only [handIdle, queue_handDrive]

@[simp] theorem queue_motionTakeDriveWrite (n : Nat) (changed : Bool) :
    queueCore (motionTakeDriveWrite n changed s) = queueCore s := by
  simp only [motionTakeDriveWrite, apply_ite queueCore, queue_handIdle, queue_evaluateMotion, queue_onMoc, ite_self]

@[simp] theorem queue_motionTakeStop : queueCore (motionTakeStop s) = queueCore s := rfl

@[simp] theorem queue_motionTakeBrake (n : Nat) : queueCore (motionTakeBrake n s) = queueCore s := rfl

@[simp] theorem queue_motionTakeDirection (d : Direction) : queueCore (motionTakeDirection d s) = queueCore s := by
  simp only [motionTakeDirection, apply_ite queueCore, queue_flipDirection, queue_evaluateMotion, queue_onMoc, ite_self]

@[simp] theorem queue_motionHalt : queueCore (motionHalt s) = queueCore s := by
  simp only [motionHalt, queue_evaluateMotion, apply_ite queueCore, queue_handMode, queue_endSlip, queue_zeroIntegrators,
    queue_completeReversal, queue_onMoc, ite_self]

@[simp] theorem queue_motionCoast : queueCore (motionCoast s) = queueCore s := by
  simp only [motionCoast, apply_ite queueCore, queue_handMode, queue_endSlip, queue_evaluateMotion, queue_completeReversal, queue_onMoc,
    ite_self]

@[simp] theorem queue_motionTakeLoss (a : LossAction) : queueCore (motionTakeLoss a s) = queueCore s := by
  cases a with
  | ramp => rfl
  | brake => rfl
  | coast => simp only [motionTakeLoss, queue_motionCoast, queue_onMoc]

@[simp] theorem queue_suspendMotion : queueCore (suspendMotion s) = queueCore s := by
  simp only [suspendMotion, queue_endSlip, queue_handMode, queue_evaluateMotion, queue_zeroIntegrators, queue_onMoc]

@[simp] theorem queue_resumeMotion (n : Nat) : queueCore (resumeMotion n s) = queueCore s := by
  simp only [resumeMotion, queue_handIdle, queue_evaluateMotion, apply_ite queueCore, queue_flipDirection, queue_onMoc, ite_self]

@[simp] theorem queue_motionTakeShed (n : Nat) : queueCore (motionTakeShed n s) = queueCore s := by
  rcases motionTakeShed_cases n s with ⟨e, _⟩ | ⟨e, _⟩ | ⟨e, _⟩ | ⟨e, _⟩ <;> rw [e]
  · exact queue_resumeMotion s n
  · exact queue_suspendMotion s
  · rw [queue_evaluateMotion, queue_onMoc]

@[simp] theorem queue_motionTakePower (p : PowerState) : queueCore (motionTakePower p s) = queueCore s := rfl

@[simp] theorem queue_motionTakeFault (t : Truck) (st : FaultState) : queueCore (motionTakeFault t st s) = queueCore s := by
  simp only [motionTakeFault, apply_ite queueCore, queue_endSlip, queue_onMoc, ite_self]

@[simp] theorem queue_motionTakeSettings : queueCore (motionTakeSettings s) = queueCore s := rfl

@[simp] theorem queue_stageSample (g : GapSample) : queueCore (stageSample g s) = queueCore s := rfl

@[simp] theorem queue_stageMomentum : queueCore (stageMomentum s) = queueCore s := by
  simp only [stageMomentum, apply_ite queueCore, queue_completeReversal, queue_raiseTrigger, queue_onMoc, ite_self]

@[simp] theorem queue_stageRegulation : queueCore (stageRegulation s) = queueCore s := rfl

@[simp] theorem queue_stageLimiter : queueCore (stageLimiter s) = queueCore s := rfl

@[simp] theorem queue_startSlip : queueCore (startSlip s) = queueCore s := by
  simp only [startSlip, queue_pushNotice, queue_publish, queue_raiseTrigger, queue_onMoc]

@[simp] theorem queue_stageSlip : queueCore (stageSlip s) = queueCore s := by
  unfold stageSlip
  split
  · split <;> simp only [apply_ite queueCore, queue_startSlip, queue_endSlip, queue_onMoc, ite_self]
  · exact queue_endSlip s

@[simp] theorem queue_driveTruck (t : Truck) : queueCore (driveTruck t s) = queueCore s := by
  simp only [driveTruck, queue_handDrive, queue_onMoc]

@[simp] theorem queue_stageDuty : queueCore (stageDuty s) = queueCore s := by
  simp only [stageDuty, queue_driveTruck]

@[simp] theorem queue_stagePublication : queueCore (stagePublication s) = queueCore s := by
  simp only [stagePublication, queue_smokeTakeMotion, queue_lightsTakeMotion, queue_ssq]
  exact queue_publish s _

@[simp] theorem queue_controlStep (g : GapSample) : queueCore (controlStep g s) = queueCore s := by
  simp only [controlStep, queue_stagePublication, queue_stageDuty, queue_stageSlip, queue_stageLimiter, queue_stageRegulation,
    queue_evaluateMotion, queue_stageMomentum, queue_stageSample, queue_motionTakeSettings]

/-! ## The diagnosis (chapter 10) -/

@[simp] theorem queue_consumeRecord (o : Output) (r : FaultRecord) : queueCore (consumeRecord o r s) = queueCore s := by
  cases o with
  | truck t => simp only [consumeRecord, queue_beatsTakeFault, queue_motionTakeFault]
  | heater => exact queue_smokeTakeFault s r
  | fan => rfl
  | light n => rfl

@[simp] theorem queue_publishRecord (o : Output) : queueCore (publishRecord o s) = queueCore s := by
  rw [publishRecord, queue_consumeRecord, queue_publish]

@[simp] theorem queue_publishSummary : queueCore (publishSummary s) = queueCore s := by
  rcases publishSummary_cases s with ⟨_, e⟩ | ⟨_, e⟩ <;> rw [e]
  rfl

@[simp] theorem queue_publishFault (o : Output) : queueCore (publishFault o s) = queueCore s := by
  simp only [publishFault, queue_publishSummary, queue_publishRecord]

@[simp] theorem queue_switchOutputOff (o : Output) : queueCore (switchOutputOff o s) = queueCore s := by
  cases o with
  | truck t => exact queue_holdBridge s t
  | _ => rfl

@[simp] theorem queue_releaseOutput (o : Output) : queueCore (releaseOutput o s) = queueCore s := by
  cases o with
  | truck t => exact queue_releaseBridge s t
  | _ => rfl

@[simp] theorem queue_takeTrip (o : Output) : queueCore (takeTrip o s) = queueCore s := by
  simp only [takeTrip, queue_pushNotice, queue_publishFault, queue_mapWatch, queue_switchOutputOff]

@[simp] theorem queue_takeMeasurement (o : Output) (n : Nat) : queueCore (takeMeasurement o n s) = queueCore s := by
  simp only [takeMeasurement, apply_ite queueCore, queue_publishFault, queue_mapWatch, ite_self]

@[simp] theorem queue_clearOutput (o : Output) : queueCore (clearOutput o s) = queueCore s := by
  simp only [clearOutput, queue_publishRecord, queue_mapWatch, apply_ite queueCore, queue_releaseOutput, ite_self]

/-! ## The power state (chapter 9) -/

@[simp] theorem queue_consumeStage (n : Nat) : queueCore (consumeStage n s) = queueCore s := by
  simp only [consumeStage, queue_onLtc, queue_smokeTakeShed, queue_motionTakeShed, queue_ssq]

@[simp] theorem queue_formStage : queueCore (formStage s) = queueCore s := by
  rcases formStage_cases s with ⟨_, e⟩ | ⟨_, e⟩ <;> rw [e]
  rw [queue_consumeStage, queue_pushNotice, queue_publish, queue_onPws]

@[simp] theorem queue_setSagTimer : queueCore (setSagTimer s) = queueCore s := rfl

@[simp] theorem queue_stepSag : queueCore (stepSag s) = queueCore s := by
  simp only [stepSag, queue_formStage, queue_setSagTimer, queue_onPws]

@[simp] theorem queue_enterPower (p : PowerState) : queueCore (enterPower p s) = queueCore s := by
  simp only [enterPower, queue_formStage, apply_ite queueCore, queue_setSagTimer, queue_onPws, queue_pushNotice, ite_self]
  rfl

@[simp] theorem queue_enterHalt : queueCore (enterHalt s) = queueCore s := by rw [enterHalt, queue_enterPower, queue_onPws]

@[simp] theorem queue_enterRun : queueCore (enterRun s) = queueCore s := by rw [enterRun, queue_enterPower, queue_onPws]

@[simp] theorem queue_enterBridge : queueCore (enterBridge s) = queueCore s := by rw [enterBridge, queue_enterPower, queue_onPws]

@[simp] theorem queue_enterSettle : queueCore (enterSettle s) = queueCore s := by
  simp only [enterSettle, queue_enterPower, apply_ite queueCore, startDelay, queue_onPws, ite_self]

@[simp] theorem queue_trackLost : queueCore (trackLost s) = queueCore s := by
  unfold trackLost
  cases s.pws.powerState with
  | run => simp only [apply_ite queueCore, queue_enterBridge, queue_enterHalt, ite_self]
  | settle => exact queue_enterHalt s
  | _ => rfl

@[simp] theorem queue_trackPresent : queueCore (trackPresent s) = queueCore s := by
  unfold trackPresent
  cases s.pws.powerState with
  | bridge => exact queue_enterRun s
  | halt => exact queue_enterSettle s
  | _ => rfl

@[simp] theorem queue_qualifyTrack : queueCore (qualifyTrack s) = queueCore s := by
  simp only [qualifyTrack, apply_ite queueCore, queue_trackPresent, queue_trackLost, queue_onPws, ite_self]

@[simp] theorem queue_powerTakeComparator (k : Comparator) (high : Bool) :
    queueCore (powerTakeComparator k high s) = queueCore s := by
  cases k with
  | trackPresent => rfl
  | trackSag => simp only [powerTakeComparator, powerTakeSag, apply_ite queueCore, queue_setSagTimer, queue_onPws, ite_self]
  | capReserve => simp only [powerTakeComparator, powerTakeReserve, apply_ite queueCore, queue_enterHalt, queue_onPws, ite_self]
  | capResume => simp only [powerTakeComparator, powerTakeResume, startDelay, apply_ite queueCore, queue_onPws, ite_self]

@[simp] theorem queue_powerTakeDie (v : Int) : queueCore (powerTakeDie v s) = queueCore s := by
  simp only [powerTakeDie, queue_formStage, queue_onPws, queue_publish]

@[simp] theorem queue_endLoad : queueCore (endLoad s) = queueCore s := by
  simp only [endLoad, apply_ite queueCore, queue_enterSettle, queue_enterHalt, queue_pushNotice, ite_self]

@[simp] theorem queue_consumeResult (ch : Channel) (v : Int) : queueCore (consumeResult ch v s) = queueCore s := by
  cases ch with
  | heaterI => exact queue_takeMeasurement s _ _
  | fanI => exact queue_takeMeasurement s _ _
  | lightI n => exact queue_takeMeasurement s _ _
  | dieT => exact queue_powerTakeDie s v
  | _ => rfl

@[simp] theorem queue_judgeComparator (k : Comparator) : queueCore (judgeComparator k s) = queueCore s := by
  rcases judgeComparator_cases s k with e | ⟨high, _, _, e⟩ <;> rw [e]
  rw [queue_powerTakeComparator]
  cases k <;> rfl

/-! ## The record and the store (chapters 1 and 11) -/

@[simp] theorem queue_ownerTakes (i : Item) (e : Nat) (old : Configuration) : queueCore (ownerTakes i e old s) = queueCore s := by
  cases i with
  | trackPresentLevel => exact queue_judgeComparator s _
  | trackSagLevel => exact queue_judgeComparator s _
  | capReserveLevel => exact queue_judgeComparator s _
  | capResumeLevel => exact queue_judgeComparator s _
  | beatSource => exact queue_beatSourceChanged s _
  | smokeTemps => exact queue_smokeTempsChanged s _
  | fluidCapacity => exact queue_capacityChanged s
  | fanPuffLevel => exact queue_fanPuffChanged s
  | fanBetweenLevel => exact queue_fanLevelChanged s
  | fanIdleLevel => exact queue_fanLevelChanged s
  | sceneKey => exact queue_evaluateScene s
  | _ => rfl

@[simp] theorem queue_applyConfig (i : Item) (e : Nat) (ns : List Nat) : queueCore (applyConfig i e ns s) = queueCore s := by
  simp only [applyConfig, apply_ite queueCore, queue_ownerTakes]
  exact ite_self _

@[simp] theorem queue_setNotch (n : Nat) : queueCore (setNotch n s) = queueCore s := by
  simp only [setNotch, queue_motionTakeDriveWrite, queue_onRcu]

@[simp] theorem queue_setBrake (n : Nat) : queueCore (setBrake n s) = queueCore s := by
  unfold setBrake
  split <;> rfl

@[simp] theorem queue_setDirection (d : Direction) : queueCore (setDirection d s) = queueCore s := by
  simp only [setDirection, apply_ite queueCore, queue_motionTakeDirection, queue_onRcu, ite_self]

@[simp] theorem queue_stopNotch : queueCore (stopNotch s) = queueCore s := by
  unfold stopNotch
  split <;> rfl

@[simp] theorem queue_setKeys (k : KeySet) : queueCore (setKeys k s) = queueCore s := by
  simp only [setKeys, apply_ite queueCore, queue_lightsTakeKeys, queue_ssq, queue_onRcu, ite_self]

@[simp] theorem queue_setSmokeLevel (n : Nat) : queueCore (setSmokeLevel n s) = queueCore s := by
  simp only [setSmokeLevel, apply_ite queueCore, queue_smokeTakeLevel, queue_onRcu, ite_self]

@[simp] theorem queue_setVolume (n : Nat) : queueCore (setVolume n s) = queueCore s := by
  unfold setVolume
  split <;> rfl

@[simp] theorem queue_setNumeric (f : Field) (n : Nat) : queueCore (setNumeric f n s) = queueCore s := by
  cases f with
  | targetNotch => exact queue_setNotch s n
  | brake => exact queue_setBrake s n
  | smokeLevel => exact queue_setSmokeLevel s n
  | volume => exact queue_setVolume s n
  | _ => rfl

@[simp] theorem queue_setHolder (frame : Option Byte) (h : Holder) : queueCore (setHolder frame h s) = queueCore s := by
  have taken (t : State) : queueCore (radioTakeHolder frame h t) = queueCore t := rfl
  simp only [setHolder, apply_ite queueCore, taken, queue_pushNotice, queue_onRcu, ite_self]

@[simp] theorem queue_startLease : queueCore (startLease s) = queueCore s := rfl

@[simp] theorem queue_setFailsafe (b : Bool) : queueCore (setFailsafe b s) = queueCore s := rfl

end Sys2Proof.Laws
end

section
/-! SUPPORT. The deferred requests in step, and every request, frame and command as a move of the queue core. -/

namespace Sys2Proof.Laws

open Sys2Proof.Machine

/-! ## The queues in order -/

/-- The notices, the conversions, the deferred slots and the replies are within their sizes, and the slots are in step with the MEASUREs
that wait and the commit in flight (R44, R83, R86, R181, R186, R187). -/
structure QueueCore.Ordered (q : QueueCore) : Prop where
  notices     : q.noticesFit = true
  conversions : q.conversionsFit = true
  deferred    : q.slots.length ≤ 4
  replies     : q.replies.length ≤ 4
  kinds       : ∀ x ∈ q.slots, x.kind = .measure ∨ x.kind = .commit
  measures    : ∀ tag, q.slots.count ⟨.measure, tag⟩ = (q.measures.map SpotSlot.tag).count tag
  commits     : ∀ tag, q.slots.count ⟨.commit, tag⟩ = if q.origin = .host tag then 1 else 0
  idle        : q.writing = false → q.origin = .none

/-- One queue core follows another: the queues stay in order, and no frame is completed. -/
structure QueueMoves (q r : QueueCore) : Prop where
  ordered   : q.Ordered → r.Ordered
  completed : ∀ f ∈ r.completed, f ∈ q.completed

theorem QueueMoves.of_eq {q r : QueueCore} (h : r = q) : QueueMoves q r := h ▸ ⟨id, fun _ => id⟩

theorem QueueMoves.trans {q r x : QueueCore} (h : QueueMoves q r) (k : QueueMoves r x) : QueueMoves q x :=
  ⟨fun o => k.ordered (h.ordered o), fun f hf => h.completed f (k.completed f hf)⟩

/-- A slot of another kind or tag leaves the count of this one. -/
theorem count_slot_ne {k l : Kind} (other : k ≠ l) (tag x : Byte) (slots : List DeferredSlot) :
    (slots ++ [(⟨k, tag⟩ : DeferredSlot)]).count ⟨l, x⟩ = slots.count ⟨l, x⟩ := by
  rw [List.count_append, List.count_singleton, if_neg (by simp [other]), Nat.add_zero]

/-! ## Completions (R87, R182, R186) -/

variable (s : State)

/-- A completion takes its slot away (R186). -/
theorem queue_pushCompletion (k : Kind) (tag : Byte) (c : Code) (v : Word16) :
    queueCore (pushCompletion k tag c v s) = { queueCore s with slots := s.hpt.slots.erase ⟨k, tag⟩ } := by
  have slots : (s.hpt.push (.completion tag c v)).slots = s.hpt.slots := (push_frame s.hpt _).1
  have pushed := queue_pushNotice s (.completion tag c v)
  rw [← pushed, ← slots]
  rfl

/-- The slots of MEASUREs are taken away one by one. -/
def eraseMeasures (done : List SpotSlot) (slots : List DeferredSlot) : List DeferredSlot :=
  done.foldl (fun l x => l.erase ⟨.measure, x.tag⟩) slots

theorem eraseMeasures_sublist (done : List SpotSlot) (slots : List DeferredSlot) : (eraseMeasures done slots).Sublist slots := by
  induction done generalizing slots with
  | nil => exact .refl _
  | cons x done ih => exact (ih _).trans List.erase_sublist

theorem count_measure_eraseMeasures (done : List SpotSlot) (slots : List DeferredSlot) (tag : Byte) :
    (eraseMeasures done slots).count ⟨.measure, tag⟩ = slots.count ⟨.measure, tag⟩ - (done.map SpotSlot.tag).count tag := by
  induction done generalizing slots with
  | nil => rfl
  | cons x done ih =>
    have same : ((⟨.measure, x.tag⟩ : DeferredSlot) == ⟨.measure, tag⟩) = (x.tag == tag) := by
      rw [Bool.eq_iff_iff, beq_iff_eq, beq_iff_eq]
      exact ⟨fun h => congrArg DeferredSlot.tag h, fun h => by rw [h]⟩
    have first : eraseMeasures (x :: done) slots = eraseMeasures done (slots.erase ⟨.measure, x.tag⟩) := rfl
    rw [first, ih, List.count_erase, same, List.map_cons, List.count_cons]
    omega

theorem count_commit_eraseMeasures (done : List SpotSlot) (slots : List DeferredSlot) (tag : Byte) :
    (eraseMeasures done slots).count ⟨.commit, tag⟩ = slots.count ⟨.commit, tag⟩ := by
  induction done generalizing slots with
  | nil => rfl
  | cons x done ih => exact (ih _).trans (List.count_erase_of_ne (by simp))

/-- The completions of MEASUREs take their slots away. -/
theorem queue_completions (f : SpotSlot → Word16) (done : List SpotSlot) :
    queueCore (done.foldl (fun s x => pushCompletion .measure x.tag .done (f x) s) s)
      = { queueCore s with slots := eraseMeasures done s.hpt.slots } := by
  induction done generalizing s with
  | nil => rfl
  | cons x done ih =>
    have slots : (pushCompletion .measure x.tag .done (f x) s).hpt.slots = s.hpt.slots.erase ⟨.measure, x.tag⟩ :=
      congrArg QueueCore.slots (queue_pushCompletion s _ _ _ _)
    rw [List.foldl_cons, ih, slots, queue_pushCompletion]
    rfl

/-- The tags of the MEASUREs that wait on, and of those that are done, are those of all. -/
theorem count_tags_filter (p : SpotSlot → Bool) (f : SpotSlot → SpotSlot) (keeps : ∀ x, (f x).tag = x.tag)
    (l : List SpotSlot) (tag : Byte) :
    (((l.filter fun x => !p x).map f).map SpotSlot.tag).count tag + ((l.filter p).map SpotSlot.tag).count tag
      = (l.map SpotSlot.tag).count tag := by
  have tags : SpotSlot.tag ∘ f = SpotSlot.tag := funext keeps
  rw [List.map_map, tags, List.count_eq_countP, List.count_eq_countP, List.count_eq_countP, List.countP_map, List.countP_map,
    List.countP_map, List.countP_eq_countP_filter_add l _ p, Nat.add_comm]

/-- A conversion completes MEASUREs and takes their slots: both stay in step (R86, R87). -/
theorem completeSlots_moves (v : Channel → Option Int) : QueueMoves (queueCore s) (queueCore (completeSlots v s)) := by
  have keeps (x : SpotSlot) : (x.passed v).tag = x.tag := by
    unfold SpotSlot.passed
    split <;> rfl
  have core : queueCore (completeSlots v s) = { queueCore s with
      slots := eraseMeasures (s.bmu.slots.filter (SpotSlot.completes v)) s.hpt.slots
      measures := (s.bmu.slots.filter fun x => !x.completes v).map (SpotSlot.passed v) } := queue_completions _ _ _
  have fewer := eraseMeasures_sublist (s.bmu.slots.filter (SpotSlot.completes v)) s.hpt.slots
  rw [core]
  refine ⟨fun o => { o with
    deferred := Nat.le_trans fewer.length_le o.deferred
    kinds := fun x hx => o.kinds x (fewer.subset hx)
    measures := fun tag => ?_
    commits := fun tag => (count_commit_eraseMeasures _ _ tag).trans (o.commits tag) }, fun _ => id⟩
  have all := count_tags_filter (SpotSlot.completes v) (SpotSlot.passed v) keeps s.bmu.slots tag
  have step : s.hpt.slots.count ⟨.measure, tag⟩ = (s.bmu.slots.map SpotSlot.tag).count tag := o.measures tag
  have erased := count_measure_eraseMeasures (s.bmu.slots.filter (SpotSlot.completes v)) s.hpt.slots tag
  simp only [queueCore] at *
  omega

theorem publishSample_moves : QueueMoves (queueCore s) (queueCore (publishSample s)) := by
  unfold publishSample
  refine .trans (.of_eq ?_) (completeSlots_moves _ _)
  rw [queue_takeMeasurement, queue_takeMeasurement]
  rfl

/-- A converter that takes a channel off the list leaves the list within its size (R83). -/
theorem startConversion_moves : QueueMoves (queueCore s) (queueCore (startConversion s)) := by
  rcases startConversion_cases s with e | ⟨ch, rest, _, h, e⟩ <;> rw [e]
  · exact .of_eq rfl
  · refine ⟨fun o => { o with conversions := ?_ }, fun _ => id⟩
    have fits : s.bmu.conversions.length ≤ 8 := of_decide_eq_true o.conversions
    rw [h, List.length_cons] at fits
    exact decide_eq_true (Nat.le_of_succ_le fits)

theorem endConversion_moves (ch : Channel) (v : Int) : QueueMoves (queueCore s) (queueCore (endConversion ch v s)) := by
  unfold endConversion
  refine .trans (.trans (.of_eq ?_) (completeSlots_moves _ _)) (startConversion_moves _)
  rw [queue_consumeResult]
  rfl

/-- The end of a commit takes the slot of its COMMIT, and none other is HELD for a commit (R181, R182). -/
theorem endCommit_moves (good : Bool) : QueueMoves (queueCore s) (queueCore (endCommit good s)) := by
  have ended : ∃ l : List DeferredSlot, queueCore (endCommit good s) = { queueCore s with slots := l, writing := false, origin := .none }
      ∧ l = (match s.cfs.origin with
        | .host tag => s.hpt.slots.erase ⟨.commit, tag⟩
        | _ => s.hpt.slots) := by
    unfold endCommit
    cases s.cfs.origin with
    | none => exact ⟨_, rfl, rfl⟩
    | host tag => exact ⟨_, queue_pushCompletion .., rfl⟩
    | throttle id => exact ⟨_, queue_pushNotice .., rfl⟩
  obtain ⟨l, core, hl⟩ := ended
  rw [core]
  refine ⟨fun o => ?_, fun _ => id⟩
  have fewer : l.Sublist s.hpt.slots := by
    rw [hl]
    split
    · exact List.erase_sublist
    · exact .refl _
  have commits (tag : Byte) : s.hpt.slots.count ⟨.commit, tag⟩ = if s.cfs.origin = .host tag then 1 else 0 := o.commits tag
  refine { o with
    deferred := Nat.le_trans fewer.length_le o.deferred
    kinds := fun x hx => o.kinds x (fewer.subset hx)
    measures := fun tag => Eq.trans ?_ (o.measures tag)
    commits := fun tag => ?_
    idle := fun _ => rfl }
  · rw [hl]
    cases s.cfs.origin with
    | host t => exact List.count_erase_of_ne (by simp)
    | _ => rfl
  · rw [if_neg nofun, hl]
    cases origin : s.cfs.origin with
    | host t =>
      rw [origin] at commits
      rw [List.count_erase, commits]
      by_cases same : t = tag <;> simp [same]
    | _ => simpa [origin] using commits tag

/-! ## The owners of the requests -/

@[simp] theorem queue_serveRead (p : Bool) (f sel : Byte) : queueCore (serveRead p f sel s).2 = queueCore s := by
  unfold serveRead
  split
  · rfl
  · split
    · rfl
    · split <;> rfl

@[simp] theorem queue_servePlay (v c : Byte) (g : Word16) (t : Byte) : queueCore (servePlay v c g t s).2 = queueCore s := by
  unfold servePlay
  simp only []
  split
  · rfl
  · split
    · split
      · rfl
      · split
        · rfl
        · split <;> rfl
    · rfl

@[simp] theorem queue_serveRefill (a : Word16) : queueCore (serveRefill a s).2 = queueCore s := by
  simp only [serveRefill, apply_ite queueCore, queue_enterSmoke, queue_disarmDry, queue_setFluid, ite_self]

@[simp] theorem queue_serveSceneWrite (r st d : Byte) (codes : Vector Byte 12) :
    queueCore (serveSceneWrite r st d codes s).2 = queueCore s := by
  unfold serveSceneWrite
  split
  · rfl
  · split
    · rfl
    · simp only [apply_ite queueCore, queue_onLtc, ite_self]

@[simp] theorem queue_serveClearFaults (m : OutputSet) : queueCore (serveClearFaults m s).2 = queueCore s := by
  simp only [serveClearFaults, queue_publishSummary]
  exact foldl_keeps (P := fun t => queueCore t = queueCore s) (fun t o h => (queue_clearOutput t o).trans h) _ s rfl

@[simp] theorem queue_serveConfigRead (i e : Byte) : queueCore (serveConfigRead i e s).2 = queueCore s := by
  unfold serveConfigRead
  split
  · rfl
  · split
    · rfl
    · split <;> rfl

@[simp] theorem queue_serveConfigWrite (item entry : Byte) (v : List Byte) :
    queueCore (serveConfigWrite item entry v s).2 = queueCore s := by
  unfold serveConfigWrite
  split
  · rfl
  · split
    · rfl
    · split
      · rfl
      · split
        · rfl
        · unfold writeItem
          split
          · rfl
          · split
            · rfl
            · exact queue_applyConfig s _ _ _

@[simp] theorem queue_serveClaim (src : Source) (p : Bool) (e n : Byte) : queueCore (serveClaim src p e n s).2 = queueCore s := by
  unfold serveClaim
  split
  · rfl
  · simp only []
    split
    · rfl
    · split
      · simp only [takeClaim, queue_setHolder, queue_setFailsafe, queue_startLease]
      · rfl

@[simp] theorem queue_serveRelease (src : Source) (c : Byte) : queueCore (serveRelease src c s).2 = queueCore s := by
  unfold serveRelease
  split
  · rfl
  · split
    · rfl
    · simp only [queue_setHolder, queue_onRcu, apply_ite queueCore, queue_stopNotch, ite_self]

@[simp] theorem queue_serveHalt : queueCore (serveHalt s).2 = queueCore s := by
  simp only [serveHalt, queue_motionHalt, queue_onRcu]

/-- A change of a field behind the checks of R7 leaves the queue core where each field's change does. -/
theorem queue_guardField (src : Source) (field : Byte) (defined : Field → Bool) {k : Field → Answer × State}
    (hk : ∀ f, queueCore (k f).2 = queueCore s) : queueCore (guardField src field defined s k).2 = queueCore s := by
  rcases guardField_cases s src field defined k with ⟨_, e⟩ | ⟨f, _, _, e⟩ <;> rw [e]
  exact hk f

@[simp] theorem queue_writeField (f : Field) (v : Word32) : queueCore (writeField f v s).2 = queueCore s := by
  cases f with
  | direction =>
    simp only [writeField, writeDirection]
    split
    · rfl
    · exact queue_setDirection s _
  | keys => exact queue_setKeys s v
  | restarted =>
    simp only [writeField, writeRestarted]
    split <;> rfl
  | _ => exact queue_setNumeric s _ _

/-- A request that takes no deferred slot leaves the queue core. -/
theorem queue_serveOwner (src : Source) (posted : Bool) (tag : Byte) {b : Body} (now : b.kind.deferred = false) :
    queueCore (serveOwner src posted tag b s).2 = queueCore s := by
  cases b with
  | read f sel => exact queue_serveRead s _ _ _
  | write f v =>
    rw [serveOwner, serveWrite_eq]
    exact queue_guardField s src f _ (queue_writeField s · v)
  | add f imm => exact queue_guardField s src f _ fun g => queue_setNumeric s g _
  | keys f m st => exact queue_guardField s src f _ fun _ => queue_setKeys s _
  | flip f m => exact queue_guardField s src f _ fun _ => queue_setKeys s _
  | swap f v =>
    simp only [serveOwner, serveSwap]
    split
    · rfl
    · exact queue_guardField s src f _ fun g => queue_setNumeric s g _
  | claim e n => exact queue_serveClaim s _ _ _ _
  | release c => exact queue_serveRelease s _ _
  | haltNow => exact queue_serveHalt s
  | measure c => cases now
  | play v c g t => exact queue_servePlay s _ _ _ _
  | refill a => exact queue_serveRefill s a
  | sceneWrite r st d codes => exact queue_serveSceneWrite s _ _ _ _
  | clearFaults o => exact queue_serveClearFaults s o
  | configRead i e => exact queue_serveConfigRead s _ _
  | configWrite i e v => exact queue_serveConfigWrite s _ _ _
  | commit => cases now

/-- A MEASURE that finds a slot FREE takes it as it begins to wait (R86). -/
theorem serveMeasure_moves (p : Bool) (tag ch : Byte) (room : s.hpt.slots.length < 4) :
    QueueMoves (queueCore s) (queueCore (serveMeasure p tag ch s).2) := by
  unfold serveMeasure
  split
  · exact .of_eq rfl
  · split
    · exact .of_eq rfl
    · refine ⟨fun o => { o with
        deferred := ?_
        kinds := fun x hx => ?_
        measures := fun t => ?_
        commits := fun t => (count_slot_ne (by decide) tag t _).trans (o.commits t) }, fun _ => id⟩
      · simpa [queueCore] using room
      · rcases List.mem_append.mp hx with old | new
        · exact o.kinds x old
        · rw [List.mem_singleton.mp new]
          exact .inl rfl
      · have step : s.hpt.slots.count ⟨.measure, t⟩ = (s.bmu.slots.map SpotSlot.tag).count t := o.measures t
        simp [queueCore, List.count_append, List.count_singleton, step]

/-- A commit that starts takes its origin, and where the host asks for it a slot that it finds FREE (R181). -/
theorem serveCommit_moves (src : Source) (p : Bool) (tag : Byte) (room : src = .host → s.hpt.slots.length < 4) :
    QueueMoves (queueCore s) (queueCore (serveCommit src p tag s).2) := by
  unfold serveCommit
  split
  · exact .of_eq rfl
  · split
    · exact .of_eq rfl
    · split
      · exact .of_eq rfl
      · rename_i idle
        have none {q : QueueCore} (hq : q = queueCore s) (o : q.Ordered) : s.cfs.origin = .none := by
          subst hq
          exact o.idle (Bool.not_eq_true _ ▸ idle)
        cases src with
        | host =>
          refine ⟨fun o => { o with
            deferred := ?_
            kinds := fun x hx => ?_
            measures := fun t => (count_slot_ne (by decide) tag t _).trans (o.measures t)
            commits := fun t => ?_
            idle := nofun }, fun _ => id⟩
          · simpa [queueCore, startCommit, onCfs] using room rfl
          · rcases List.mem_append.mp hx with old | new
            · exact o.kinds x old
            · rw [List.mem_singleton.mp new]
              exact .inr rfl
          · have before : s.hpt.slots.count ⟨.commit, t⟩ = 0 := by simpa [queueCore, none rfl o] using o.commits t
            simp [queueCore, startCommit, onCfs, List.count_append, List.count_singleton, before]
        | throttle id =>
          refine ⟨fun o => { o with commits := fun t => ?_, idle := nofun }, fun _ hf => hf⟩
          have before : s.hpt.slots.count ⟨.commit, t⟩ = 0 := by simpa [queueCore, none rfl o] using o.commits t
          simpa [queueCore, startCommit, onCfs] using before

/-- A request finds a deferred slot FREE where it takes one: a MEASURE, and a COMMIT of the host (R185, R186). -/
def findsRoom (src : Source) (b : Body) (s : State) : Prop :=
  b.kind = .measure ∨ b.kind = .commit ∧ src = .host → s.hpt.slots.length < 4

/-- Every request keeps the queues in order, whoever sends it. -/
theorem serve_queueMoves (src : Source) (posted : Bool) (tag : Byte) {b : Body} (room : findsRoom src b s) :
    QueueMoves (queueCore s) (queueCore (serve src posted tag b s).2) := by
  have owner : QueueMoves (queueCore s) (queueCore (serveOwner src posted tag b s).2) := by
    cases b with
    | measure c => exact serveMeasure_moves s _ _ _ (room (.inl rfl))
    | commit => exact serveCommit_moves s src _ _ fun host => room (.inr ⟨rfl, host⟩)
    | _ => exact .of_eq (queue_serveOwner s src posted tag rfl)
  refine owner.trans (.of_eq ?_)
  rcases refreshLease_cases (serveOwner src posted tag b s).2 src (serveOwner src posted tag b s).1.code with e | ⟨_, _, e⟩
  · exact congrArg queueCore e
  · exact (congrArg queueCore e).trans (queue_rcu _ _)

/-! ## Requests at their ports -/

@[simp] theorem queue_framingError : queueCore (framingError s) = queueCore s := rfl

@[simp] theorem queue_hostAnswer (k : Byte) (posted : Bool) (tag : Byte) (r : Answer × State) :
    queueCore (hostAnswer k posted tag r) = queueCore r.2 := by
  have sent (f : Hpt → Hpt) (t : State) (hs : (f t.hpt).slots = t.hpt.slots) (hn : (f t.hpt).notices = t.hpt.notices) :
      queueCore (onHpt f t) = queueCore t := by
    rw [queueCore, onHpt_hpt, hs, hn]
    rfl
  rw [hostAnswer, sent _ _ rfl rfl]
  simp only [apply_ite queueCore, queue_pushNotice, ite_self]

/-- A request at the Host Port keeps the queues in order: one that takes a slot is handed on where it finds one FREE (R185). -/
theorem hostRequest_queueMoves (h : Head) (b : Body) : QueueMoves (queueCore s) (queueCore (hostRequest h b s)) := by
  unfold hostRequest
  split
  · exact .of_eq rfl
  · split
    · exact .of_eq rfl
    · rw [queue_hostAnswer]
      unfold hostServe
      split
      · exact .of_eq rfl
      · cases e : handOn h b with
        | none => exact .of_eq rfl
        | some b' =>
          dsimp only
          split
          · exact .of_eq rfl
          · rename_i free
            refine serve_queueMoves s .host _ _ fun takes => ?_
            have same : b' = b := (handOn_cases e).resolve_right fun config => by rw [config] at takes; simp at takes
            have deferred : b.kind.deferred = true := by
              rw [← same]
              rcases takes with k | ⟨k, _⟩ <;> rw [k] <;> rfl
            rw [deferred, Bool.true_and, decide_eq_true_iff] at free
            exact Nat.lt_of_not_le free

/-- RIF hears a frame: the table alone takes it (R35). -/
@[simp] theorem queue_hear (id seq : Byte) (t : Time) : queueCore { s with rif := s.rif.hear id seq t } = queueCore s := by
  rw [hear_eq]
  rfl

@[simp] theorem queue_frameArrives (id : Byte) : queueCore (frameArrives id s) = queueCore s := by
  unfold frameArrives
  split <;> rfl

@[simp] theorem queue_hearThrottle (id : Byte) : queueCore (hearThrottle id s) = queueCore s := by
  rcases hearThrottle_cases s id with ⟨_, e⟩ | ⟨_, e⟩ <;> rw [e]
  exact (queue_frameArrives _ id).trans (queue_hear s id _ s.now)

/-- A request of a throttle keeps the queues in order: RIF denies it a MEASURE (R39). -/
theorem radioServe_queueMoves (id : Byte) (posted : Bool) (tag : Byte) {k : Kind} {body : Option Body}
    (named : ∀ b, body = some b → b.kind = .measure → k = .measure) :
    QueueMoves (queueCore s) (queueCore (radioServe id posted tag k body s).2) := by
  unfold radioServe
  split
  · exact .of_eq rfl
  · split
    · exact .of_eq rfl
    · rename_i permitted
      cases body with
      | none => exact .of_eq rfl
      | some b =>
        refine serve_queueMoves s _ _ _ fun takes => ?_
        rcases takes with measures | ⟨_, host⟩
        · rw [named b rfl measures] at permitted
          exact absurd rfl permitted
        · cases host

theorem radioRequest_queueMoves (id : Byte) (h : Head) (b : Body) : QueueMoves (queueCore s) (queueCore (radioRequest id h b s)) := by
  unfold radioRequest
  split
  · exact .of_eq rfl
  · have heard := radioServe_queueMoves (hearThrottle id s) id h.posted h.tag (k := b.kind) (body := handOn h b)
      fun b' e measures => by
        rcases handOn_cases e with rfl | config
        · exact measures
        · rw [config] at measures
          cases measures
    rw [queue_hearThrottle] at heard
    exact heard

theorem takeRequest_queueMoves (h : Head) (b : Body) : QueueMoves (queueCore s) (queueCore (takeRequest h b s)) := by
  unfold takeRequest
  split
  · exact hostRequest_queueMoves s h b
  · exact radioRequest_queueMoves s _ h b

/-! ## The run of a frame (R37) -/

/-- The change of a request for a consist makes no MEASURE (R40, R41). -/
theorem consistBody_measure {c : Configuration} {b : Body} (h : (consistBody c b).kind = .measure) : b.kind = .measure := by
  cases b with
  | write f v =>
    unfold consistBody at h
    simp only [] at h
    split at h
    · cases h
    · split at h <;> cases h
  | _ => exact h

theorem radioRecord_queueMoves (id : Byte) (consist : Option Configuration) (r : RawRecord) :
    QueueMoves (queueCore s) (queueCore (radioRecord id consist r s).2) := by
  unfold radioRecord
  cases hk : Kind.ofByte r.kind with
  | none => exact .of_eq rfl
  | some k =>
    refine radioServe_queueMoves s id r.posted r.tag fun b hb measures => ?_
    obtain ⟨b0, parsed, rfl⟩ := Option.map_eq_some_iff.mp hb
    have kind : b0.kind = k := (parseBody_parsed (bs := r.operands) (by simpa [RawRecord.body, hk] using parsed)).kind
    rw [← kind]
    cases consist with
    | none => exact measures
    | some c => exact consistBody_measure measures

theorem radioRun_queueMoves (id : Byte) (consist : Option Configuration) (rs : List RawRecord) :
    QueueMoves (queueCore s) (queueCore (radioRun id consist rs s).2) := by
  induction rs generalizing s with
  | nil => exact .of_eq rfl
  | cons r rs ih => exact (radioRecord_queueMoves s id consist r).trans (ih _)

/-- A reply joins its queue where it finds room there (R44). -/
theorem offerReply_moves (r : Reply) : QueueMoves (queueCore s) (queueCore (offerReply r s)) := by
  unfold offerReply
  split
  · exact .of_eq rfl
  · rename_i room
    refine ⟨fun o => { o with replies := ?_ }, fun _ => id⟩
    simpa [queueCore, Config.replyCapacity] using room

theorem answerFrame_moves (run : FrameRun) : QueueMoves (queueCore s) (queueCore (answerFrame run s)) := by
  unfold answerFrame
  dsimp only
  split
  · exact offerReply_moves s _
  · exact .of_eq rfl

theorem continueFrame_queueMoves (run : FrameRun) : QueueMoves (queueCore s) (queueCore (continueFrame run s)) := by
  have ran (n : Nat) := radioRun_queueMoves { s with frameBreaks := s.frameBreaks.tail } run.thr run.consist (run.waiting.take n)
  rcases continueFrame_cases run s with ⟨_, e⟩ | ⟨_, e⟩ <;> rw [e]
  · exact .trans (ran _) (answerFrame_moves _ _)
  · exact ran _

theorem handleFrame_queueMoves (f : CompletedFrame) : QueueMoves (queueCore s) (queueCore (handleFrame f s)) := by
  unfold handleFrame
  cases judgeFrame f s.rif with
  | accepted records addr =>
    refine .trans (.of_eq ?_) (continueFrame_queueMoves _ _)
    exact (queue_frameArrives _ _).trans (queue_hear s _ _ _)
  | _ => exact .of_eq rfl

/-- RADIO_FRAME keeps the queues in order, and takes a completed frame off the list (R30, R37). -/
theorem takeFrame_queueMoves : QueueMoves (queueCore s) (queueCore (takeFrame s)) := by
  unfold takeFrame
  cases s.rif.handling with
  | some run => exact continueFrame_queueMoves (onRif (fun r => { r with handling := none }) s) run
  | none =>
    cases h : s.rif.completed with
    | nil => exact .of_eq rfl
    | cons f rest =>
      have all : (queueCore s).completed = f :: rest := h
      have taken : QueueMoves (queueCore s) (queueCore (onRif (fun r => { r with completed := rest }) s)) :=
        ⟨fun o => { o with }, fun x hx => all ▸ .tail _ hx⟩
      exact taken.trans (handleFrame_queueMoves _ f)

end Sys2Proof.Laws
end

section
/-! SUPPORT. The throttle table and the frame in handling through every command, and the queues with them. -/

namespace Sys2Proof.Laws

open Sys2Proof.Machine

variable (s : State)

/-! ## The throttle table (R35, R36) -/

/-- A throttle table in its size, its IDs all different (2.5). -/
structure Tabled (l : List ThrottleEntry) : Prop where
  size     : l.length ≤ 8
  distinct : (l.map ThrottleEntry.id).Nodup

theorem Tabled.sublist {l m : List ThrottleEntry} (h : Tabled l) (sub : m.Sublist l) : Tabled m :=
  ⟨Nat.le_trans sub.length_le h.size, h.distinct.sublist (sub.map _)⟩

/-- Among no candidates alone is there no entry to evict. -/
theorem oldestEntry_none {l : List ThrottleEntry} (h : oldestEntry l = none) : l = [] := by
  cases l with
  | nil => rfl
  | cons x xs =>
    unfold oldestEntry at h
    split at h
    · cases h
    · split at h <;> cases h

/-- An eviction from a full table takes an entry: of eight throttles one at most holds the claim (R35). -/
theorem evict_takes {r : Rif} (tabled : Tabled r.throttles) (full : r.throttles.length = 8) : r.evict.length < r.throttles.length := by
  have some_goes : ∃ e ∈ r.throttles, r.holderView.names e.id = false := by
    by_contra none
    have all (e) (he : e ∈ r.throttles) : r.holderView = .throttle e.id :=
      of_decide_eq_true (Bool.not_eq_false _ ▸ fun h => none ⟨e, he, h⟩)
    match h : r.throttles with
    | [] => simp [h] at full
    | [_] => simp [h] at full
    | a :: b :: l =>
      have same := Holder.throttle.inj ((all a (by simp [h])).symm.trans (all b (by simp [h])))
      have distinct := tabled.distinct
      simp [h, same] at distinct
  unfold Rif.evict
  cases o : oldestEntry (r.throttles.filter fun e => !r.holderView.names e.id) with
  | none =>
    obtain ⟨e, he, free⟩ := some_goes
    have mem : e ∈ r.throttles.filter fun e => !r.holderView.names e.id := List.mem_filter.mpr ⟨he, by simp [free]⟩
    rw [oldestEntry_none o] at mem
    cases mem
  | some e =>
    exact List.length_filter_lt_length_iff_exists.mpr ⟨e, (List.mem_filter.mp (oldestEntry_mem o)).1, by simp⟩

/-- A frame heard keeps the table in its size and its IDs different (R35). -/
theorem hear_tabled {r : Rif} (id seq : Byte) (t : Time) (tabled : Tabled r.throttles) : Tabled (r.hear id seq t).throttles := by
  have joins {l : List ThrottleEntry} (sub : l.Sublist r.throttles) (room : l.length < 8) (unknown : ¬(r.entry id).isSome = true) :
      Tabled (l ++ [⟨id, seq, t⟩]) := by
    refine ⟨by simpa using room, ?_⟩
    rw [List.map_append, List.nodup_append]
    refine ⟨tabled.distinct.sublist (sub.map _), by simp, fun x hx y hy same => unknown ((entry_isSome _ _).mpr ?_)⟩
    obtain ⟨e, he, rfl⟩ := List.mem_map.mp hx
    exact ⟨e, sub.subset he, same.trans (by simpa using hy)⟩
  unfold Rif.hear
  split
  · have ids : (r.throttles.map fun e => if e.id = id then (⟨id, seq, t⟩ : ThrottleEntry) else e).map ThrottleEntry.id
        = r.throttles.map ThrottleEntry.id := by
      rw [List.map_map]
      refine List.map_congr_left fun e _ => ?_
      simp only [Function.comp_apply]
      split <;> simp_all
    exact ⟨by simpa using tabled.size, ids ▸ tabled.distinct⟩
  · rename_i unknown
    split
    · rename_i room
      exact joins (.refl _) room unknown
    · rename_i full
      have size : r.throttles.length = 8 := Nat.le_antisymm tabled.size (Nat.le_of_not_lt full)
      refine joins ?_ (size ▸ evict_takes tabled size) unknown
      unfold Rif.evict
      split
      · exact .refl _
      · exact List.filter_sublist

theorem sublist_of_eq {α : Type} {l m : List α} (h : l = m) : l.Sublist m := h ▸ .refl _

/-- A change of DRIVE_HOLDER frees an entry at most (R36). -/
theorem setHolder_throttles (frame : Option Byte) (h : Holder) :
    (setHolder frame h s).rif.throttles.Sublist s.rif.throttles := by
  unfold setHolder
  split
  · exact .refl _
  · exact List.filter_sublist

/-- A request frees an entry at most, whatever its owner does with it. -/
theorem serveOwner_throttles (src : Source) (posted : Bool) (tag : Byte) (b : Body) :
    (serveOwner src posted tag b s).2.rif.throttles.Sublist s.rif.throttles := by
  by_cases c : b.kind = .claim
  · cases b <;> cases c
    unfold serveOwner serveClaim
    dsimp only
    split
    · exact .refl _
    · split
      · exact .refl _
      · split
        · exact setHolder_throttles (setFailsafe false (startLease s)) _ _
        · exact .refl _
  by_cases r : b.kind = .release
  · cases b <;> cases r
    unfold serveOwner serveRelease
    dsimp only
    split
    · exact .refl _
    · split
      · exact .refl _
      · refine (setHolder_throttles _ _ _).trans (sublist_of_eq ?_)
        rw [onRcu_rif]
        split
        · exact congrArg DriveCore.throttles (core_stopNotch s)
        · rfl
  obtain ⟨_, _, _, _, e, _⟩ := serveOwner_moves s src posted tag c r
  exact sublist_of_eq (congrArg DriveCore.throttles e)

theorem serve_throttles (src : Source) (posted : Bool) (tag : Byte) (b : Body) :
    (serve src posted tag b s).2.rif.throttles.Sublist s.rif.throttles := by
  refine List.Sublist.trans (sublist_of_eq ?_) (serveOwner_throttles s src posted tag b)
  rcases refreshLease_cases (serveOwner src posted tag b s).2 src (serveOwner src posted tag b s).1.code with e | ⟨_, _, e⟩
  · exact congrArg (·.rif.throttles) e
  · exact congrArg (·.rif.throttles) e

/-! ## What a command carries on of the drive core -/

/-- One drive core carries on another for the queues: the part is no further in reset or in LOAD, and the table stays in its size, its IDs
different. -/
structure Carries (c d : DriveCore) : Prop where
  inReset : d.inReset = c.inReset
  power   : d.power = .load → c.power = .load
  table   : Tabled c.throttles → Tabled d.throttles

theorem Carries.refl (c : DriveCore) : Carries c c := ⟨rfl, id, id⟩

theorem Carries.trans {c d e : DriveCore} (h : Carries c d) (k : Carries d e) : Carries c e :=
  ⟨k.inReset.trans h.inReset, fun l => h.power (k.power l), fun t => k.table (h.table t)⟩

theorem Served.carries {src : Source} {c d : DriveCore} (h : Served src c d) (sub : d.throttles.Sublist c.throttles) : Carries c d :=
  ⟨h.inReset, h.power, fun t => t.sublist sub⟩

theorem PowerMoves.carries {c d : DriveCore} (h : PowerMoves c d) : Carries c d ∧ d.handling = c.handling := by
  obtain ⟨p, rfl, hp⟩ := h
  exact ⟨⟨rfl, hp, id⟩, rfl⟩

theorem serve_carries (src : Source) (posted : Bool) (tag : Byte) (b : Body) :
    Carries (driveCore s) (driveCore (serve src posted tag b s).2)
    ∧ (serve src posted tag b s).2.rif.handling = s.rif.handling :=
  ⟨(serve_served s src posted tag b).carries (serve_throttles s src posted tag b), (serve_served s src posted tag b).handling⟩

/-- A frame heard, and its arrival, carry the drive core on (R19, R35). -/
theorem heard_carries (u : State) {id seq : Byte} {t : Time} (hu : driveCore u = driveCore { s with rif := s.rif.hear id seq t }) :
    Carries (driveCore s) (driveCore (frameArrives id u)) ∧ (frameArrives id u).rif.handling = s.rif.handling := by
  have core : driveCore u = { driveCore s with throttles := (s.rif.hear id seq t).throttles } := by
    rw [hu, hear_eq]
    rfl
  have heard : Carries (driveCore s) (driveCore u) := core ▸ ⟨rfl, fun loading => loading, hear_tabled _ _ _⟩
  have frame : u.rif.handling = s.rif.handling := congrArg DriveCore.handling core
  rcases core_frameArrives u id with e | ⟨_, due, e⟩
  · exact ⟨e ▸ heard, (congrArg DriveCore.handling e).trans frame⟩
  · exact ⟨e ▸ ⟨heard.inReset, heard.power, heard.table⟩, (congrArg DriveCore.handling e).trans frame⟩

theorem hearThrottle_carries (id : Byte) :
    Carries (driveCore s) (driveCore (hearThrottle id s)) ∧ (hearThrottle id s).rif.handling = s.rif.handling := by
  rcases hearThrottle_cases s id with ⟨_, e⟩ | ⟨_, e⟩ <;> rw [e]
  · exact ⟨.refl _, rfl⟩
  · exact heard_carries s _ rfl

/-- A request carries the drive core on, at whichever port it comes, and leaves the frame in handling. -/
theorem takeRequest_carries (h : Head) (b : Body) :
    Carries (driveCore s) (driveCore (takeRequest h b s)) ∧ (takeRequest h b s).rif.handling = s.rif.handling := by
  unfold takeRequest
  cases h.source with
  | host =>
    dsimp only
    rcases hostRequest_core s h b with e | ⟨b', _, e⟩
    · exact ⟨e ▸ .refl _, congrArg DriveCore.handling e⟩
    · obtain ⟨carries, frame⟩ := serve_carries s .host h.posted h.tag b'
      exact ⟨e ▸ carries, (congrArg DriveCore.handling e).trans frame⟩
  | throttle id =>
    dsimp only
    rcases radioRequest_core s id h b with e | ⟨_, l, u, e, after⟩
    · rw [e]
      exact ⟨.refl _, rfl⟩
    · obtain ⟨heard, frame⟩ := hearThrottle_carries s id
      have ended : Carries (driveCore s) (driveCore u) ∧ u.rif.handling = s.rif.handling := by
        rcases after with hu | ⟨b', _, hu⟩
        · exact ⟨hu ▸ heard, (congrArg DriveCore.handling hu).trans frame⟩
        · obtain ⟨served, stays⟩ := serve_carries (hearThrottle id s) (.throttle id) h.posted h.tag b'
          exact ⟨hu ▸ heard.trans served, ((congrArg DriveCore.handling hu).trans stays).trans frame⟩
      exact ⟨e ▸ ⟨ended.1.inReset, ended.1.power, ended.1.table⟩, (congrArg DriveCore.handling e).trans ended.2⟩

/-! ## The frame in handling (R30, R37) -/

/-- What a frame is as RIF takes it up: a throttle's, its requests four at most, each whole (R30). -/
structure FrameBegins (run : FrameRun) : Prop where
  throttle : run.thr ≠ 0 ∧ run.thr ≠ 255
  count    : run.answered.length + run.waiting.length ≤ 4
  whole    : ∀ r ∈ run.waiting, (if r.posted then 3 else 4) + r.operands.length ≤ 255

/-- A frame's requests leave one entry each for the reply. -/
theorem radioRun_length (id : Byte) (consist : Option Configuration) (rs : List RawRecord) :
    (radioRun id consist rs s).1.length = rs.length := by
  induction rs generalizing s with
  | nil => rfl
  | cons r rs ih => simp [radioRun, ih]

/-- The requests of a frame carry the drive core on. -/
theorem radioRun_carries (id : Byte) (consist : Option Configuration) (rs : List RawRecord) :
    Carries (driveCore s) (driveCore (radioRun id consist rs s).2) := by
  induction rs generalizing s with
  | nil => exact .refl _
  | cons r rs ih =>
    refine Carries.trans ?_ (ih (radioRecord id consist r s).2)
    rcases radioRecord_cases s id consist r with ⟨_, e⟩ | ⟨b, _, e⟩ <;> rw [e]
    · exact .refl _
    · exact (serve_carries s _ _ _ b).1

theorem answerFrame_handling (run : FrameRun) : (answerFrame run s).rif.handling = s.rif.handling :=
  congrArg DriveCore.handling (core_answerFrame s run)

/-- RIF going on with a frame carries the drive core on, and keeps the frame, if at all, with requests that wait. -/
theorem continueFrame_carries {run : FrameRun} (begins : FrameBegins run) (idle : s.rif.handling = none) :
    Carries (driveCore s) (driveCore (continueFrame run s))
    ∧ ∀ left, (continueFrame run s).rif.handling = some left → left.Fits := by
  have ran (n : Nat) := radioRun_carries { s with frameBreaks := s.frameBreaks.tail } run.thr run.consist (run.waiting.take n)
  have frame (n : Nat) := (radioRun_served { s with frameBreaks := s.frameBreaks.tail } run.thr run.consist (run.waiting.take n)).handling
  rcases continueFrame_cases run s with ⟨_, e⟩ | ⟨more, e⟩ <;> rw [e]
  · rw [core_answerFrame]
    refine ⟨ran _, fun left kept => ?_⟩
    rw [answerFrame_handling] at kept
    exact absurd (((frame _).trans idle).symm.trans kept) nofun
  · rw [core_keepFrame]
    refine ⟨⟨(ran _).inReset, (ran _).power, (ran _).table⟩, fun left kept => ?_⟩
    cases kept
    refine ⟨begins.throttle, by simpa [List.drop_eq_nil_iff] using more, ?_, fun r hr => begins.whole r (List.mem_of_mem_drop hr)⟩
    have count := begins.count
    simp only [List.length_append, radioRun_length, List.length_take, List.length_drop]
    omega

/-- A record that lies in a run of bytes takes no more than its LENGTH says. -/
theorem takeRecord_whole {bs rest : List Byte} {r : RawRecord} (h : takeRecord bs = some (r, rest)) :
    (if r.posted then 3 else 4) + r.operands.length ≤ 255 := by
  unfold takeRecord at h
  split at h
  · rename_i kind len control tail
    have small : len.toNat < 256 := len.isLt
    dsimp only at h
    split at h
    · cases h
    · rename_i structured
      rw [not_or, Nat.not_lt, Nat.not_lt] at structured
      obtain ⟨head, _⟩ := structured
      split at h <;> rename_i posted <;> cases h
      · rw [posted] at head
        simp only [headBytes, if_true, List.length_take] at *
        omega
      · rw [Bool.not_eq_true] at posted
        rw [posted] at head
        simp only [headBytes, Bool.false_eq_true, if_false, List.length_tail, List.length_take] at *
        omega
  · cases h

/-- A frame's bytes split into as many records as it says, each whole. -/
theorem splitRecords_whole {n : Nat} {bs : List Byte} {rs : List RawRecord} (h : splitRecords n bs = some rs) :
    rs.length = n ∧ ∀ r ∈ rs, (if r.posted then 3 else 4) + r.operands.length ≤ 255 := by
  induction n generalizing bs rs with
  | zero =>
    cases bs with
    | nil => cases h; exact ⟨rfl, nofun⟩
    | cons b bs => cases h
  | succ n ih =>
    unfold splitRecords at h
    cases first : takeRecord bs with
    | none => rw [first] at h; cases h
    | some x =>
      rw [first] at h
      dsimp only at h
      cases tail : splitRecords n x.2 with
      | none => rw [tail] at h; cases h
      | some xs =>
        rw [tail] at h
        cases h
        obtain ⟨size, whole⟩ := ih tail
        refine ⟨by simp [size], fun y hy => ?_⟩
        rcases List.mem_cons.mp hy with rfl | hy
        · exact takeRecord_whole first
        · exact whole y hy

/-- An accepted frame begins a run: it passed the checks of R30. -/
theorem accepted_begins {f : CompletedFrame} {r : Rif} {records : List RawRecord} {addr : Addressing}
    (h : judgeFrame f r = .accepted records addr) (c : Option Configuration) :
    f.duringLoad = false
    ∧ FrameBegins ⟨(parseFrame f.bytes).thr, (parseFrame f.bytes).seq, addr, c, addr.handsOn records, []⟩ := by
  obtain ⟨size, whole⟩ := splitRecords_whole (judgeFrame_records h)
  unfold judgeFrame at h
  dsimp only at h
  split at h
  · cases h
  rename_i loaded
  split at h
  · cases h
  split at h
  · cases h
  rename_i named
  split at h
  · cases h
  rename_i counted
  refine ⟨by simpa using loaded, by simpa [throttleId] using named, ?_, fun x hx => whole x (handsOn_mem hx)⟩
  have handed : (addr.handsOn records).length ≤ records.length := by
    cases addr with
    | broadcast => exact List.length_filter_le _ _
    | _ => exact Nat.le_refl _
  rw [not_or, Nat.not_lt, Nat.not_lt] at counted
  simp only [List.length_nil]
  omega

/-! ## The queues with the drive core -/

/-- The invariants of the queues and of the deferred requests as facts of the two cores. -/
structure Kept (c : DriveCore) (q : QueueCore) : Prop where
  ordered   : q.Ordered
  table     : Tabled c.throttles
  completed : c.inReset = true ∨ c.power = .load → ∀ f ∈ q.completed, c.inReset = false ∧ f.duringLoad = true
  handling  : ∀ run, c.handling = some run → run.Fits ∧ c.inReset = false ∧ c.power ≠ .load
  held      : c.inReset = true → q.slots = [] ∧ q.measures = []

theorem queues_iff : QueueInv s ∧ DeferredInv s ↔ Kept (driveCore s) (queueCore s) := by
  constructor
  · rintro ⟨⟨notices, deferred, conversions, replies, throttles, distinct, completed, handling⟩,
      kinds, measures, commits, idle, held⟩
    exact ⟨⟨decide_eq_true notices, decide_eq_true conversions, deferred, replies, kinds, measures, commits, idle⟩,
      ⟨throttles, distinct⟩, completed, handling, held⟩
  · rintro ⟨⟨notices, conversions, deferred, replies, kinds, measures, commits, idle⟩, ⟨throttles, distinct⟩,
      completed, handling, held⟩
    exact ⟨⟨of_decide_eq_true notices, deferred, of_decide_eq_true conversions, replies, throttles, distinct, completed, handling⟩,
      ⟨kinds, measures, commits, idle, held⟩⟩

/-- Outside device reset, a command that carries the drive core on and keeps the queues in order keeps the invariants, where the frame that
it leaves in handling fits. -/
theorem Kept.after {c d : DriveCore} {q r : QueueCore} (inv : Kept c q) (released : c.inReset = false) (carries : Carries c d)
    (moves : QueueMoves q r) (frame : ∀ run, d.handling = some run → run.Fits ∧ c.power ≠ .load) : Kept d r where
  ordered := moves.ordered inv.ordered
  table := carries.table inv.table
  completed := fun h f hf => by
    have loading : c.power = .load := carries.power (h.resolve_left (by simp [carries.inReset, released]))
    exact ⟨carries.inReset.trans released, (inv.completed (.inr loading) f (moves.completed f hf)).2⟩
  handling := fun run h =>
    ⟨(frame run h).1, carries.inReset.trans released, fun loading => (frame run h).2 (carries.power loading)⟩
  held := fun h => absurd (carries.inReset.symm.trans h) (by simp [released])

/-- The same, where the frame in handling stays. -/
theorem Kept.follow {c d : DriveCore} {q r : QueueCore} (inv : Kept c q) (released : c.inReset = false) (carries : Carries c d)
    (moves : QueueMoves q r) (frame : d.handling = c.handling) : Kept d r :=
  inv.after released carries moves fun run h => by
    obtain ⟨fits, _, loaded⟩ := inv.handling run (frame.symm.trans h)
    exact ⟨fits, loaded⟩

/-- RADIO_FRAME keeps the invariants (R30, R37). -/
theorem takeFrame_kept (released : s.inReset = false) (inv : Kept (driveCore s) (queueCore s)) :
    Kept (driveCore (takeFrame s)) (queueCore (takeFrame s)) := by
  have moves := takeFrame_queueMoves s
  unfold takeFrame at *
  cases h : s.rif.handling with
  | some run =>
    rw [h] at moves
    obtain ⟨fits, _, loaded⟩ := inv.handling run h
    obtain ⟨carries, frame⟩ := continueFrame_carries (onRif (fun r => { r with handling := none }) s)
      (run := run) ⟨fits.throttle, fits.count, fits.whole⟩ rfl
    exact inv.after released ⟨carries.inReset, carries.power, carries.table⟩ moves fun left kept => ⟨frame left kept, loaded⟩
  | none =>
    cases completed : s.rif.completed with
    | nil => exact inv
    | cons f rest =>
      rw [h, completed] at moves
      dsimp only at *
      unfold handleFrame at *
      cases verdict : judgeFrame f (onRif (fun r => { r with completed := rest }) s).rif with
      | accepted records addr =>
        rw [verdict] at moves
        dsimp only at *
        unfold acceptFrame at *
        dsimp only at *
        obtain ⟨fresh, begins⟩ := accepted_begins verdict
          (if addr = .consist then
            some (frameArrives (parseFrame f.bytes).thr (onRif (·.hear (parseFrame f.bytes).thr (parseFrame f.bytes).seq f.completedAt)
              (onRif (fun r => { r with completed := rest }) s))).cfg
          else none)
        have loaded : s.rcu.views.powerState ≠ .load := fun loading => by
          have oldest : f ∈ s.rif.completed := completed ▸ .head _
          have := (inv.completed (.inr loading) f oldest).2
          rw [fresh] at this
          cases this
        obtain ⟨heard, idle⟩ := heard_carries (onRif (fun r => { r with completed := rest }) s)
          (onRif (·.hear (parseFrame f.bytes).thr (parseFrame f.bytes).seq f.completedAt)
            (onRif (fun r => { r with completed := rest }) s))
          (id := (parseFrame f.bytes).thr) (seq := (parseFrame f.bytes).seq) (t := f.completedAt) rfl
        obtain ⟨carries, frame⟩ := continueFrame_carries _ begins (idle.trans h)
        exact inv.after released (heard.trans carries) moves fun left kept => ⟨frame left kept, loaded⟩
      | _ =>
        rw [verdict] at moves
        exact inv.follow released (.refl _) moves rfl

end Sys2Proof.Laws
end

section
/-! SUPPORT. Every command as a move of the queue core, and the invariants of the queues through every command. -/

namespace Sys2Proof.Laws

open Sys2Proof.Machine

variable (s : State)

/-! ## The commands that are no requests -/

theorem released_queueMoves {s t : State} {f : State → State} (h : whenReleased f s = .next t)
    (hf : QueueMoves (queueCore s) (queueCore (f s))) : QueueMoves (queueCore s) (queueCore t) :=
  whenReleased_keeps (P := fun u => QueueMoves (queueCore s) (queueCore u)) (fun _ => hf) h (.of_eq rfl)

theorem expiry_queueMoves (timer : Timer) {f : State → State} (hf : ∀ u, QueueMoves (queueCore u) (queueCore (f u))) :
    QueueMoves (queueCore s) (queueCore (onExpiry timer f s)) := by
  rcases onExpiry_cases s timer f with ⟨_, e⟩ | ⟨due, _, e⟩ <;> rw [e]
  · exact .of_eq rfl
  · exact hf (s.reach due)

/-- A first byte takes a notice off the queue at most (R184, R188). -/
theorem takeFirstByte_queueMoves (b : Byte) : QueueMoves (queueCore s) (queueCore (takeFirstByte b s)) := by
  rcases takeFirstByte_cases s b with ⟨_, e⟩ | ⟨_, ⟨_, e⟩ | ⟨_, e⟩ | ⟨_, e⟩ | ⟨_, _, _, e⟩⟩ <;> rw [e]
  · exact .of_eq rfl
  · exact .of_eq rfl
  · refine ⟨fun o => { o with notices := ?_ }, fun _ => id⟩
    have fits : s.hpt.notices.length ≤ 16 := of_decide_eq_true o.notices
    exact decide_eq_true (Nat.le_trans List.eraseP_sublist.length_le fits)
  · exact .of_eq rfl
  · exact .of_eq rfl

@[simp] theorem queue_undefinedRecord (r : UndefinedRecord) : queueCore (undefinedRecord r s) = queueCore s := by
  simp only [undefinedRecord, apply_ite queueCore, queue_framingError, queue_hostAnswer, ite_self]

@[simp] theorem queue_gapOnLink : queueCore (gapOnLink s) = queueCore s := by
  simp only [gapOnLink, apply_ite queueCore, queue_countRadio]
  exact ite_self _

/-- A change of HPT's transaction leaves its queues. -/
theorem queue_onHpt {f : Hpt → Hpt} (slots : (f s.hpt).slots = s.hpt.slots) (notices : (f s.hpt).notices = s.hpt.notices) :
    queueCore (onHpt f s) = queueCore s := by
  rw [queueCore, onHpt_hpt, slots, notices]
  rfl

/-- A quiet command other than a byte from the modem, which may complete a frame, keeps the queues in order. -/
theorem exec_quiet_queueMoves {c : Instr} {s t : State} (quiet : isQuiet c = true) (other : ∀ b, c ≠ .radioByte b)
    (h : exec c s = .next t) :
    QueueMoves (queueCore s) (queueCore t) := by
  have still {u v : State} (e : queueCore v = queueCore u) : QueueMoves (queueCore u) (queueCore v) := .of_eq e
  cases c with
  | clipHeaderRead bytes =>
    refine released_queueMoves h (still ?_)
    split <;> rfl
  | loadEnd =>
    refine released_queueMoves h (still ?_)
    simp only [apply_ite queueCore, queue_endLoad, ite_self]
  | commitEnd good =>
    refine released_queueMoves h ?_
    split
    · exact endCommit_moves s good
    · exact still rfl
  | hostSelectFall =>
    cases h
    refine still ?_
    unfold selectFall
    split
    · exact queue_onHpt s rfl rfl
    · split
      · rfl
      · exact queue_onHpt s rfl rfl
  | hostSelectRise =>
    cases h
    refine still ?_
    unfold selectRise
    split <;> exact queue_onHpt s rfl rfl
  | transactionFramingError cause =>
    dsimp only [exec, execTransactionFramingError] at h
    refine released_queueMoves h ?_
    cases cause with
    | unknownKind first =>
      dsimp only
      split
      · exact takeFirstByte_queueMoves s first
      · exact still rfl
    | badLength => exact still (by simp only [apply_ite queueCore, queue_framingError, ite_self])
  | notice => exact released_queueMoves h (takeFirstByte_queueMoves s _)
  | status => exact released_queueMoves h (takeFirstByte_queueMoves s _)
  | radioByte b => exact absurd rfl (other b)
  | interByteTimerExpiry => exact released_queueMoves h (expiry_queueMoves s _ fun u => still (queue_gapOnLink u))
  | replySent =>
    refine released_queueMoves h ?_
    split
    · exact ⟨fun o => { o with replies := Nat.le_trans (List.tail_sublist _).length_le o.replies }, fun _ => id⟩
    · exact still rfl
  | controlStep =>
    dsimp only [exec, execControlStep] at h
    refine released_queueMoves h (still ?_)
    split
    · rfl
    · rw [queue_controlStep, queue_onMoc]
  | pwmPeriodStart =>
    refine released_queueMoves h (still ?_)
    simp only [apply_ite queueCore, queue_periodStart, queue_reach, ite_self]
  | pwmCompareMatch t charge =>
    refine released_queueMoves h (still ?_)
    simp only [apply_ite queueCore, queue_setBridge, queue_reach, ite_self]
  | deadIntervalEnd t leg =>
    dsimp only [exec, execDeadIntervalEnd] at h
    refine released_queueMoves h (still ?_)
    split
    · exact queue_setBridge _ t _
    · rfl
    · rfl
  | controlPeriodExpiry =>
    refine released_queueMoves h (expiry_queueMoves s _ fun u => still ?_)
    rw [queue_appendChannel, queue_appendChannel]
    rfl
  | gapSettleExpiry f r => exact released_queueMoves h (expiry_queueMoves s _ fun u => still rfl)
  | gapConversionEnd => exact released_queueMoves h (expiry_queueMoves s _ publishSample_moves)
  | conversionEnd value =>
    dsimp only [exec, execConversionEnd] at h
    refine released_queueMoves h ?_
    split
    · exact still rfl
    · exact endConversion_moves (s.reach _) _ _
  | dieTimerExpiry =>
    refine released_queueMoves h (expiry_queueMoves s _ fun u => still ?_)
    rw [queue_appendChannel]
    rfl
  | supervisionComparatorChange k v =>
    dsimp only [exec, execSupervisionComparatorChange] at h
    refine released_queueMoves h (still ?_)
    rw [queue_judgeComparator]
    cases k <;> rfl
  | shortComparatorTrip o current =>
    refine released_queueMoves h (still ?_)
    simp only [apply_ite queueCore, queue_takeTrip, ite_self]
  | retryTimerExpiry o =>
    exact released_queueMoves h (expiry_queueMoves s _ fun u =>
      still (by simp only [queue_publishFault, queue_releaseOutput, queue_mapWatch]))
  | probationTimerExpiry o =>
    exact released_queueMoves h (expiry_queueMoves s _ fun u => still (by simp only [queue_publishFault, queue_mapWatch]))
  | openTimerExpiry o =>
    exact released_queueMoves h (expiry_queueMoves s _ fun u =>
      still (by simp only [queue_pushNotice, queue_publishFault, queue_mapWatch]))
  | beatSample =>
    dsimp only [exec, execBeatSample] at h
    refine released_queueMoves h (still ?_)
    split
    · rfl
    · rw [queue_beatSample, queue_onBtg]
  | sensorEdge =>
    refine released_queueMoves h (still ?_)
    split <;> rfl
  | audioSample => exact released_queueMoves h (expiry_queueMoves s _ fun u => still (by rw [queue_publishSound, queue_ssq]))
  | burstLands samples =>
    dsimp only [exec, execBurstLands] at h
    exact released_queueMoves h (still rfl)
  | smokeTick => exact released_queueMoves h (expiry_queueMoves s _ fun u => still (by simp only [queue_appendChannel, queue_smu]))
  | regulationStep =>
    dsimp only [exec, execRegulationStep] at h
    refine released_queueMoves h (still ?_)
    split
    · rfl
    · rw [queue_regulationStep, queue_onSmu]
  | puffTimerExpiry => exact released_queueMoves h (expiry_queueMoves s _ fun u => still rfl)
  | heaterPwmPeriodStart => exact released_queueMoves h (still rfl)
  | fanPwmPeriodStart => exact released_queueMoves h (still rfl)
  | lightPwmPeriodStart n => exact released_queueMoves h (still rfl)
  | lightFrame =>
    refine released_queueMoves h (expiry_queueMoves s _ fun u => still ?_)
    rw [queue_appendLight, queue_lightFrame]
    rfl
  | trackQualificationExpiry => exact released_queueMoves h (expiry_queueMoves s _ fun u => still (queue_qualifyTrack u))
  | bridgeLimitExpiry => exact released_queueMoves h (expiry_queueMoves s _ fun u => still (queue_enterHalt u))
  | settleTimerExpiry => exact released_queueMoves h (expiry_queueMoves s _ fun u => still (queue_enterRun u))
  | sagTimerExpiry => exact released_queueMoves h (expiry_queueMoves s _ fun u => still (queue_stepSag u))
  | requestKindByte r =>
    refine released_queueMoves h ?_
    split
    · refine (takeFirstByte_queueMoves s 0x01).trans ?_
      cases r with
      | none => exact still rfl
      | some r => exact still (by simp only [apply_ite queueCore, queue_undefinedRecord, ite_self])
    · exact still rfl
  | heaterPwmCompare => exact released_queueMoves h (still rfl)
  | fanPwmCompare => exact released_queueMoves h (still rfl)
  | lightPwmCompare n => exact released_queueMoves h (still rfl)
  | _ => cases quiet

/-! ## A byte from the modem, the lease expiry, and the ageing of an entry -/

/-- The frame that a byte completes carries whether POWER_STATE is LOAD at its completion (R28, R30). -/
theorem takeByte_completed (b : Byte) :
    queueCore (takeByte b s) = queueCore s
    ∨ ∃ f : CompletedFrame, f.duringLoad = decide (s.rcu.views.powerState = .load)
      ∧ queueCore (takeByte b s) = { queueCore s with completed := s.rif.completed ++ [f] } := by
  unfold takeByte
  cases s.rif.assembly with
  | idle =>
    dsimp only
    split <;> exact .inl rfl
  | collecting =>
    dsimp only [collectByte]
    split
    · exact .inr ⟨_, rfl, rfl⟩
    · exact .inl rfl
  | discarding => exact .inl rfl

theorem takeByte_kept (b : Byte) (released : s.inReset = false) (inv : Kept (driveCore s) (queueCore s)) :
    Kept (driveCore (takeByte b s)) (queueCore (takeByte b s)) := by
  rw [core_takeByte]
  rcases takeByte_completed s b with e | ⟨f, loading, e⟩ <;> rw [e]
  · exact inv
  · refine { inv with ordered := { inv.ordered with }, completed := fun h x hx => ?_ }
    rcases List.mem_append.mp hx with old | new
    · exact inv.completed h x old
    · rw [List.mem_singleton.mp new, loading]
      exact ⟨released, decide_eq_true (h.resolve_left (by simp [driveCore, released]))⟩

/-- The lease expiry keeps the invariants (R20). -/
theorem expireLease_kept (released : s.inReset = false) (inv : Kept (driveCore s) (queueCore s)) :
    Kept (driveCore (expireLease s)) (queueCore (expireLease s)) := by
  have served := (expireLease_served s).1
  have frees : (expireLease s).rif.throttles.Sublist s.rif.throttles :=
    (setHolder_throttles _ _ _).trans (sublist_of_eq (congrArg DriveCore.throttles
      (core_motionTakeLoss (onRcu (fun r => { r with targetNotch := 0, lease := .stopped }) s) s.cfg.lossAction)))
  have core : queueCore (expireLease s) = queueCore s := by
    simp only [expireLease, queue_setHolder, queue_pushNotice, queue_setFailsafe, queue_motionTakeLoss, queue_onRcu]
  exact inv.follow released (served.carries frees) (.of_eq core) served.handling

/-- The ageing of an entry keeps the invariants (R36). -/
theorem ageEntry_kept (id : Byte) (released : s.inReset = false) (inv : Kept (driveCore s) (queueCore s)) :
    Kept (driveCore (ageEntry id s)) (queueCore (ageEntry id s)) := by
  unfold ageEntry
  split
  · exact inv
  · split
    · exact inv
    · exact inv.follow released ⟨rfl, fun loading => loading, fun t => t.sublist List.filter_sublist⟩ (.of_eq rfl) rfl

/-! ## Reset and its release -/

theorem reset_kept : Kept (driveCore (deviceReset s)) (queueCore (deviceReset s)) where
  ordered := ⟨rfl, rfl, Nat.zero_le _, Nat.zero_le _, nofun, fun _ => rfl, fun _ => rfl, fun _ => rfl⟩
  table := ⟨Nat.zero_le _, List.nodup_nil⟩
  completed := fun _ _ h => nomatch h
  handling := fun _ h => nomatch h
  held := fun _ => ⟨rfl, rfl⟩

/-- The release of reset leaves no commit in flight, and every queue (R157, R177). -/
theorem queue_release (trackV capV : Nat) :
    queueCore (release trackV capV s) = { queueCore s with writing := false, origin := .none } := by
  have lights (u : State) : queueCore (startLights u) = queueCore u := by rw [startLights, queue_onLtc, queue_evaluateScene]
  have smoke (u : State) : queueCore (startSmoke u) = queueCore u := by rw [startSmoke, queue_publish, queue_setFluid, queue_onSmu]
  have beats (u : State) : queueCore (startBeats u) = queueCore u := by rw [startBeats, queue_publishBeats, queue_onBtg]
  have schedule (u : State) : queueCore (startSchedule u) = queueCore u := by
    rw [startSchedule, queue_appendChannel]
    rfl
  simp only [release, startSound, queue_ssq, lights, smoke, beats, startMotion, queue_motionTakeSettings]
  refine (queue_onPws _ _).trans (Eq.trans (b := queueCore (startSchedule (initRecord (loadConfiguration
    (onBmu (fun m => { m with trackPin := trackV, capPin := capV }) { s with inReset := false }))))) rfl ?_)
  rw [schedule]
  rfl

/-- LOAD begins with every queue of the part empty, as device reset held them (R157, R189). -/
theorem release_kept (trackV capV : Nat) (held : s.inReset = true) (inv : Kept (driveCore s) (queueCore s)) :
    Kept (driveCore (release trackV capV s)) (queueCore (release trackV capV s)) := by
  rw [core_release, queue_release]
  obtain ⟨slots, _⟩ := inv.held held
  refine ⟨{ inv.ordered with commits := fun tag => ?_, idle := fun _ => rfl }, inv.table, fun _ f hf => ?_, fun run h => ?_, nofun⟩
  · dsimp only
    rw [slots]
    rfl
  · exact absurd ((inv.completed (.inl held) f hf).1.symm.trans held) nofun
  · exact absurd ((inv.handling run h).2.1.symm.trans held) nofun

/-! ## Every command -/

/-- What a command that waits for the release keeps of the invariants. -/
theorem released_kept {s t : State} {f : State → State} (h : whenReleased f s = .next t) (inv : Kept (driveCore s) (queueCore s))
    (hf : s.inReset = false → Kept (driveCore (f s)) (queueCore (f s))) : Kept (driveCore t) (queueCore t) := by
  rcases whenReleased_eq s f with ⟨e, _⟩ | ⟨e, released⟩ <;> rw [e] at h <;> cases h
  · exact inv
  · exact hf released

/-- In device reset a quiet command moves the select line at most (R156, R189). -/
theorem exec_quiet_inReset {c : Instr} {s t : State} (quiet : isQuiet c = true) (held : s.inReset = true) (h : exec c s = .next t) :
    driveCore t = driveCore s ∧ queueCore t = queueCore s := by
  have waits (e : exec c s = .next s) : driveCore t = driveCore s ∧ queueCore t = queueCore s := by
    rw [e] at h
    cases h
    exact ⟨rfl, rfl⟩
  cases c with
  | hostSelectFall =>
    cases h
    rw [if_pos held]
    exact ⟨rfl, queue_onHpt s rfl rfl⟩
  | hostSelectRise =>
    cases h
    rw [if_pos held]
    exact ⟨rfl, queue_onHpt s rfl rfl⟩
  | resetnLow => cases quiet
  | logicSupplyFail => cases quiet
  | resetRelease => cases quiet
  | _ => exact waits (congrArg Host.Outcome.next (if_pos held))

/-- Every command keeps the invariants of the queues and of the deferred requests. -/
theorem exec_kept {c : Instr} {s t : State} (h : exec c s = .next t) (inv : Kept (driveCore s) (queueCore s)) :
    Kept (driveCore t) (queueCore t) := by
  cases hr : requestOf c with
  | some x =>
    rw [exec_request hr] at h
    obtain ⟨carries, frame⟩ := takeRequest_carries s x.1 x.2
    exact released_kept h inv fun released => inv.follow released carries (takeRequest_queueMoves s x.1 x.2) frame
  | none =>
    by_cases byte : ∃ b, c = .radioByte b
    · obtain ⟨b, rfl⟩ := byte
      exact released_kept h inv fun released => takeByte_kept s b released inv
    by_cases quiet : isQuiet c = true
    · cases held : s.inReset with
      | true =>
        obtain ⟨drive, queue⟩ := exec_quiet_inReset quiet held h
        rw [drive, queue]
        exact inv
      | false =>
        obtain ⟨carries, frame⟩ := (exec_quiet_moves quiet h).carries
        exact inv.follow held carries (exec_quiet_queueMoves quiet (fun b e => byte ⟨b, e⟩) h) frame
    · cases c with
      | resetnLow => cases h; exact reset_kept s
      | logicSupplyFail => cases h; exact reset_kept s
      | resetRelease trackV capV =>
        cases h
        split
        · rename_i leaves
          exact release_kept s _ _ (Bool.and_eq_true_iff.mp leaves).1 inv
        · exact inv
      | radioFrame => exact released_kept h inv fun released => takeFrame_kept s released inv
      | throttleEntryAgeing id => exact released_kept h inv fun released => ageEntry_kept s id released inv
      | leaseExpiry =>
        refine released_kept h inv fun released => ?_
        rcases onExpiry_cases s s.rcu.lease expireLease with ⟨_, e⟩ | ⟨due, _, e⟩ <;> rw [e]
        · exact inv
        · exact expireLease_kept (s.reach due) released inv
      | _ => exact absurd (by simpa [isQuiet] using hr) quiet

end Sys2Proof.Laws

namespace Sys2Proof.Record

open Sys2Proof.Machine Sys2Proof.Laws

/-- Settles O54: both invariants are facts of the drive core and the queue core together, and every command keeps them. -/
theorem stepsKeepTheQueues : Obligations.StepsKeepTheQueues := by
  intro s t queues deferred h
  have inv := (queues_iff s).mp ⟨queues, deferred⟩
  rw [queues_iff]
  unfold step at h
  split at h
  · cases h
    exact inv
  · exact exec_kept h inv

end Sys2Proof.Record
end

section
/-! The deferred requests and the Host Port: MEASURE, COMMIT and its end, and the requests that the Host Port turns away (O20, O28, O29). -/

namespace Sys2Proof.Laws

open Sys2Proof.Machine

/-! ## What R39 denies a throttle -/

/-- A throttle that has an entry has been heard (R35). -/
theorem hearThrottle_known {id : Byte} {s : State} (known : ∃ e ∈ s.rif.throttles, e.id = id) : hearThrottle id s = s := by
  rcases hearThrottle_cases s id with ⟨_, e⟩ | ⟨unknown, _⟩
  · exact e
  · obtain ⟨e, he, same⟩ := known
    exact absurd same (unknown e he)

/-- The dispatcher list has two entries (2.1). -/
theorem dispatches_eq (c : Configuration) (id : Byte) : c.dispatches id = Spec.mayConfigure c (.throttle id) := by
  have two : c.dispatchers.toList = [c.dispatchers[0], c.dispatchers[1]] := by
    obtain ⟨⟨l⟩, size⟩ := c.dispatchers
    match l, size with
    | [_, _], _ => rfl
  simp [Configuration.dispatches, Spec.mayConfigure, two, Bool.beq_eq_decide_eq]

/-- A request of a throttle that R39 denies is refused so, and changes nothing else. -/
theorem exec_denied {c : Instr} {h : Head} {b : Body} {s : State} {id : Byte} (hc : requestOf c = some (h, b))
    (arr : Spec.Arrives h b.operandBytes s) (src : h.source = .throttle id) (denied : radioDenies s.cfg id b.kind = true) :
    exec c s = .next (Spec.refused h b.kind.byte .denied s) := by
  obtain ⟨released, loaded, whole, port⟩ := arr
  rw [src] at port
  obtain ⟨h0, h255, idle, known⟩ := port
  have posted : (h.posted && b.kind.neverPosted) = false := by
    cases b with
    | measure c => exact Bool.and_false _
    | configWrite i e v => exact Bool.and_false _
    | commit => exact Bool.and_false _
    | _ => cases denied
  have serves : radioServe id h.posted h.tag b.kind (some b) s = (refusal .denied, s) := by simp [radioServe, posted, denied]
  rw [exec_request hc, whenReleased, if_neg (by simp [released])]
  simp only [takeRequest, src, radioRequest_serves ⟨h0, h255⟩ loaded idle whole, hearThrottle_known known, serves]
  exact congrArg Host.Outcome.next (radioAnswer_eq src b.kind (refusal .denied, s))

/-- A request that its owner refuses, wherever neither its port nor R39 turns it away. -/
theorem exec_owner_refuses {c : Instr} {h : Head} {b : Body} {s : State} {code : Code} (hc : requestOf c = some (h, b))
    (arr : Spec.Arrives h b.operandBytes s) (room : h.source = .host → b.kind.deferred = true → s.hpt.slots.length < 4)
    (permitted : ∀ id, h.source = .throttle id → radioDenies s.cfg id b.kind = false)
    (owner : serveOwner h.source h.posted h.tag b s = (refusal code, s)) (refuses : code.refuses = true) :
    exec c s = .next (Spec.refused h b.kind.byte code s) := by
  rw [exec_arrives hc arr room permitted]
  simp only [serve, owner, refreshLease_refused (code := (refusal code).code) refuses]
  rfl

/-- A request that its owner accepts, wherever neither its port nor R39 turns it away. -/
theorem exec_owner_accepts {c : Instr} {h : Head} {b : Body} {s t : State} {a : Answer} (hc : requestOf c = some (h, b))
    (arr : Spec.Arrives h b.operandBytes s) (room : h.source = .host → b.kind.deferred = true → s.hpt.slots.length < 4)
    (permitted : ∀ id, h.source = .throttle id → radioDenies s.cfg id b.kind = false)
    (owner : serveOwner h.source h.posted h.tag b s = (a, t)) (accepts : a.code.refuses = false) :
    exec c s = .next (Spec.accepted h b.kind.byte a t) := by
  rw [exec_arrives hc arr room permitted]
  simp only [serve, owner, refreshLease_eq accepts, Spec.accepted]

/-! ## MEASURE (R86) -/

/-- The channel of a MEASURE by its byte (R86, R190). -/
theorem channelOfByte_eq (b : Byte) : Channel.ofByte b = Spec.channel b.toNat := by
  have table : ∀ n : Fin 22, channelTable[n.val]? = Spec.channel n.val := by decide
  unfold Channel.ofByte
  by_cases named : b.toNat < 22
  · exact table ⟨b.toNat, named⟩
  · have beyond : channelTable.length ≤ b.toNat := Nat.le_of_not_lt named
    rw [List.getElem?_eq_none beyond]
    unfold Spec.channel
    iterate 9 rw [if_neg (by omega)]
    rw [dif_neg (by omega), if_neg (by omega)]

/-- The conversion under way when a MEASURE is taken (R86). -/
theorem inProgress_eq (m : Bmu) (c : Channel) : m.inProgress c = Spec.underWay m c := by
  unfold Bmu.inProgress Spec.underWay
  cases c with
  | backEmf t => rfl
  | current t => rfl
  | _ =>
    dsimp only
    cases m.converting <;> rfl

/-! ## COMMIT (R181, R182) -/

/-- The image at the end of a commit holds the snapshot, and checks good exactly where it was written well (R182). -/
theorem imageAfter_good (c : Cfs) (good : Bool) :
    (c.imageAfter good).items = c.snapshot ∧ ((c.imageAfter good).items.crc = (c.imageAfter good).crc ↔ good = true) := by
  unfold Cfs.imageAfter
  cases good with
  | true =>
    rw [if_pos rfl]
    exact ⟨rfl, fun _ => rfl, fun _ => by dsimp only⟩
  | false =>
    rw [if_neg nofun]
    have bad : ((badImage c.snapshot).items.crc == (badImage c.snapshot).crc) = false := Record.badImage_bad c.snapshot
    exact ⟨rfl, fun same => absurd same (beq_eq_false_iff_ne.mp bad), nofun⟩

/-! ## Lengths at the Host Port (R39, R185) -/

/-- MEASURE and COMMIT, and they alone, are completed later: their kind codes are 0x20 and 0x32 (R185, R190). -/
theorem deferred_iff (k : Kind) : k.deferred = true ↔ k.byte = 0x20 ∨ k.byte = 0x32 := by cases k <;> decide

/-- A request command's record by its head, its kind code and the operand bytes that its layout requires (R190). -/
theorem record_of_request {c : Instr} {x : Head × Byte × Nat} (hx : Spec.record c = some x) :
    ∃ b : Body, requestOf c = some (x.1, b) ∧ b.kind.byte = x.2.1 ∧ b.operandBytes = x.2.2 := by
  cases c <;> cases hx <;> exact ⟨_, rfl, rfl, rfl⟩

/-- A request at a Host Port that receives a record long enough for its head is answered. -/
theorem exec_hostServe {c : Instr} {h : Head} {b : Body} {s : State} (hc : requestOf c = some (h, b)) (src : h.source = .host)
    (released : s.inReset = false) (port : s.hpt.transaction = .receiving) (long : headBytes h.posted ≤ h.length.toNat) :
    exec c s = .next (Spec.answered h b.kind.byte (hostServe h b s).1 (hostServe h b s).2) := by
  have takes : s.hpt.takesRecord = true := by simp [Hpt.takesRecord, port]
  have fits : recordTooShort h = false := decide_eq_false (Nat.not_lt_of_le long)
  rw [exec_request hc, whenReleased, if_neg (by simp [released])]
  simp only [takeRequest, src, hostRequest, takes, fits, Bool.not_true, Bool.false_eq_true, if_false]
  exact congrArg Host.Outcome.next (hostAnswer_eq src b.kind _)

/-- An item's number names no item beyond 53, and STORE_STATUS at 53 (R190). -/
theorem itemOfByte_cases (item : Byte) :
    53 < item.toNat ∧ Item.ofByte item = none
    ∨ item = 53 ∧ Item.ofByte item = some .storeStatus
    ∨ item.toNat < 53 ∧ ∃ i, i ≠ .storeStatus ∧ Item.ofByte item = some i := by
  have table : ∀ n : Fin 53, (itemTable[n.val]?).isSome = true ∧ itemTable[n.val]? ≠ some .storeStatus := by decide
  unfold Item.ofByte
  rcases Nat.lt_trichotomy item.toNat 53 with low | same | high
  · obtain ⟨named, other⟩ := table ⟨item.toNat, low⟩
    obtain ⟨i, e⟩ := Option.isSome_iff_exists.mp named
    exact .inr (.inr ⟨low, i, fun same => other (same ▸ e), e⟩)
  · refine .inr (.inl ⟨BitVec.eq_of_toNat_eq same, ?_⟩)
    rw [same]
    rfl
  · exact .inl ⟨high, List.getElem?_eq_none high⟩

/-- No item but STORE_STATUS takes an empty value. -/
theorem splitFields_nil (i : Item) : splitFields i.fields [] = none := by cases i <;> rfl

/-- A CONFIG_WRITE without a value takes the code of the first check of R179 that fails. -/
theorem serveConfigWrite_empty (item entry : Byte) (s : State) :
    serveConfigWrite item entry [] s
      = (refusal (if 53 < item.toNat then .badField else if item = 53 then .readOnly else .badValue), s) := by
  unfold serveConfigWrite
  rcases itemOfByte_cases item with ⟨high, e⟩ | ⟨rfl, e⟩ | ⟨low, i, writable, e⟩ <;> rw [e]
  · rw [if_pos high]
  · rfl
  · have other : item ≠ 53 := fun same => by rw [same] at low; exact absurd low (by decide)
    rw [if_neg (Nat.not_lt_of_lt low), if_neg other]
    dsimp only
    rw [if_neg writable, splitFields_nil, ite_self]

/-- A CONFIG_WRITE that lies in a record of another length is handed on without its value, and where it carries its item (R39, R179). -/
theorem hostServe_configWrite {h : Head} {item entry : Byte} {value : List Byte} {s : State} (loaded : s.rcu.views.powerState ≠ .load)
    (long : headBytes h.posted ≤ h.length.toNat) (wrong : h.length.toNat ≠ headBytes h.posted + (2 + value.length)) :
    hostServe h (.configWrite item entry value) s
      = (refusal (if h.length.toNat = headBytes h.posted then .badValue
          else if 53 < item.toNat then .badField else if item = 53 then .readOnly else .badValue), s) := by
  have refused (e : Byte) : serve .host h.posted h.tag (.configWrite item e []) s
      = (refusal (if 53 < item.toNat then .badField else if item = 53 then .readOnly else .badValue), s) := by
    simp only [serve, serveOwner, serveConfigWrite_empty]
    rw [refreshLease_refused]
    split
    · rfl
    · split <;> rfl
  have handed : handOn h (.configWrite item entry value)
      = if h.length.toNat = headBytes h.posted then none
        else some (.configWrite item (if headBytes h.posted + 2 ≤ h.length.toNat then entry else noEntry) []) := by
    have unfit : recordFits h (.configWrite item entry value) = false := decide_eq_false wrong
    simp only [handOn, unfit, Bool.false_eq_true, if_false]
    by_cases two : headBytes h.posted + 2 ≤ h.length.toNat
    · rw [if_pos two, if_pos two, if_neg (by omega)]
    · rw [if_neg two, if_neg two]
      by_cases one : headBytes h.posted + 1 ≤ h.length.toNat
      · rw [if_pos one, if_neg (by omega)]
      · rw [if_neg one, if_pos (by omega)]
  unfold hostServe
  rw [if_neg loaded, handed]
  by_cases bare : h.length.toNat = headBytes h.posted
  · rw [if_pos bare, if_pos bare]
  · rw [if_neg bare, if_neg bare]
    exact refused _

end Sys2Proof.Laws

namespace Sys2Proof.Record

open Sys2Proof.Machine Sys2Proof.Laws

/-- Settles O20: a throttle's MEASURE is denied by R39, and the host's is served by BMU. -/
theorem measureWaitsInItsSlot : Obligations.MeasureWaitsInItsSlot := by
  intro h channel s arr
  have hc : requestOf (.measure h channel) = some (h, .measure channel) := rfl
  refine ⟨fun id src => exec_denied hc arr src rfl, fun src free => ?_⟩
  have room : h.source = .host → (Body.measure channel).kind.deferred = true → s.hpt.slots.length < 4 := fun _ _ => free
  have permitted (id : Byte) (from_throttle : h.source = .throttle id) : radioDenies s.cfg id (Body.measure channel).kind = false :=
    absurd (src.symm.trans from_throttle) nofun
  by_cases posted : h.control.getLsbD 0 = true
  · rw [if_pos posted]
    exact exec_owner_refuses hc arr room permitted (code := .badKind) (if_pos posted) rfl
  · rw [if_neg posted, ← channelOfByte_eq]
    have owner : serveOwner h.source h.posted h.tag (.measure channel) s = _ := if_neg posted
    cases named : Channel.ofByte channel with
    | none =>
      rw [named] at owner
      exact exec_owner_refuses hc arr room permitted (code := .badValue) owner rfl
    | some c =>
      rw [named] at owner
      refine (exec_owner_accepts hc arr room permitted owner rfl).trans ?_
      simp only [onBmu, inProgress_eq]
      rfl

/-- COMMIT by the checks of R181, from a source that R39 lets through. -/
theorem commitStarts {h : Head} {s : State} (arr : Spec.Arrives h 0 s) (free : s.hpt.slots.length < 4)
    (may : Spec.mayConfigure s.cfs.working h.source = true) :
    exec (.commit h) s = .next
      (if h.control.getLsbD 0 = true ∧ h.source = .host then Spec.refused h 0x32 .badKind s
       else if s.cfs.powerView ≠ .run then Spec.refused h 0x32 .power s
       else if s.cfs.writing then Spec.refused h 0x32 .busy s
       else
         let origin : CommitOrigin := match h.source with
           | .host => .host h.tag
           | .throttle id => .throttle id
         Spec.accepted h 0x32 { code := .accepted }
           { s with
             cfs.writing := true, cfs.origin := origin, cfs.writtenDuring := false, cfs.snapshot := s.cfs.working
             hpt.slots := if h.source = .host then s.hpt.slots ++ [⟨.commit, h.tag⟩] else s.hpt.slots }) := by
  have hc : requestOf (.commit h) = some (h, .commit) := rfl
  have room : h.source = .host → Body.commit.kind.deferred = true → s.hpt.slots.length < 4 := fun _ _ => free
  have permitted (id : Byte) (src : h.source = .throttle id) : radioDenies s.cfg id Body.commit.kind = false := by
    rw [src] at may
    simp [radioDenies, Body.kind, dispatches_eq, State.cfg, may]
  have refuses {code : Code} (owner : serveCommit h.source h.posted h.tag s = (refusal code, s)) (r : code.refuses = true) :
      exec (.commit h) s = .next (Spec.refused h 0x32 code s) := exec_owner_refuses hc arr room permitted owner r
  by_cases posted : h.control.getLsbD 0 = true ∧ h.source = .host
  · rw [if_pos posted]
    exact refuses (by simp [serveCommit, Head.posted, posted.1, posted.2]) rfl
  have tagged : (h.posted && decide (h.source = .host)) = false := by simpa [Head.posted] using posted
  rw [if_neg posted]
  by_cases power : s.cfs.powerView ≠ .run
  · rw [if_pos power]
    exact refuses (by simp [serveCommit, tagged, power]) rfl
  rw [if_neg power]
  by_cases writing : s.cfs.writing = true
  · rw [if_pos writing]
    exact refuses (by simp only [serveCommit, tagged, power, writing, Bool.false_eq_true, if_false, if_true]) rfl
  rw [if_neg writing]
  refine exec_owner_accepts hc arr room permitted ?_ rfl
  unfold serveOwner serveCommit
  dsimp only
  rw [if_neg (by simp [tagged]), if_neg power, if_neg writing]
  cases src : h.source with
  | host => rfl
  | throttle id => rfl

/-- Settles O28: the checks of COMMIT, and COMMIT_END as one event. -/
theorem commitStartsAndEnds : Obligations.CommitStartsAndEnds := by
  refine ⟨fun h s arr free => ?_, fun s good released => ⟨fun idle => ?_, fun writing => ?_⟩⟩
  · cases may : Spec.mayConfigure s.cfs.working h.source with
    | true =>
      rw [if_neg nofun]
      exact commitStarts arr free may
    | false =>
      rw [if_pos rfl]
      cases src : h.source with
      | host => exact absurd (src ▸ may : Spec.mayConfigure s.cfs.working .host = false) nofun
      | throttle id =>
        rw [src] at may
        exact exec_denied (b := .commit) rfl arr src (by simp [radioDenies, Body.kind, dispatches_eq, State.cfg, may])
  · exact congrArg Host.Outcome.next ((if_neg (by simp [released])).trans (if_neg (by simp [idle])))
  · obtain ⟨items, crc⟩ := imageAfter_good s.cfs good
    refine ⟨endCommit good s, congrArg Host.Outcome.next ((if_neg (by simp [released])).trans (if_pos writing)), ?_⟩
    have image : (endCommit good s).cfs.image = s.cfs.imageAfter good := by
      unfold endCommit
      cases s.cfs.origin <;> rfl
    have dirty (c : Cfs) : (if good && !c.writtenDuring then false else true) = (!good || c.writtenDuring) := by
      cases good <;> cases c.writtenDuring <;> rfl
    rw [image]
    refine ⟨items, crc, ?_⟩
    unfold endCommit
    simp only [dirty]
    cases s.cfs.origin with
    | none => rfl
    | host tag =>
      have slots := (push_frame s.hpt (.completion tag (if good then .done else .failed) 0)).1
      rw [← slots]
      rfl
    | throttle id => rfl

/-- Settles O29: what the Host Port turns away, in the order of R185. -/
theorem hostPortTurnsAway : Obligations.HostPortTurnsAway := by
  intro c s x hx src released port head
  obtain ⟨b, hc, kind, operands⟩ := record_of_request hx
  have heads : headBytes x.1.posted = head := rfl
  refine ⟨fun short => ?_, fun long => ?_⟩
  · have takes : s.hpt.takesRecord = true := by simp [Hpt.takesRecord, port]
    have unfit : recordTooShort x.1 = true := decide_eq_true short
    rw [exec_request hc, whenReleased, if_neg (by simp [released])]
    simp only [takeRequest, src, hostRequest, takes, unfit, Bool.not_true, Bool.false_eq_true, if_false, if_true]
    rfl
  have answers {code : Code} (serves : hostServe x.1 b s = (refusal code, s)) : exec c s = .next (Spec.refused x.1 x.2.1 code s) := by
    rw [exec_hostServe hc src released port long, serves, kind]
    rfl
  refine ⟨fun loading => answers (if_pos loading), fun loaded other wrong => answers ?_, fun item entry value hv loaded wrong => ?_,
    fun loaded deferred whole full => answers ?_⟩
  · have unfit : recordFits x.1 b = false := decide_eq_false (by rw [heads, operands]; exact wrong)
    have handed : handOn x.1 b = none := by
      cases b with
      | configWrite i e v => exact absurd kind.symm other
      | _ => simp [handOn, unfit]
    simp [hostServe, loaded, handed]
  · subst hv
    cases hc
    rw [← operands] at wrong
    exact answers (hostServe_configWrite loaded long wrong)
  · have fits : handOn x.1 b = some b := if_pos (decide_eq_true (by rw [heads, operands]; exact whole))
    have waits : b.kind.deferred = true := (deferred_iff b.kind).mpr (kind ▸ deferred)
    have held : decide (Config.deferredSlots ≤ s.hpt.slots.length) = true := decide_eq_true full
    simp [hostServe, loaded, fits, waits, held]

end Sys2Proof.Record
end

section
/-! The Trackside Radio: bytes into frames, the checks of R30, replies, and the throttle table (O32, O33, O36). -/

namespace Sys2Proof.Laws

open Sys2Proof.Machine

/-- Outside device reset an event has its effect (R156). -/
theorem whenReleased_released {s : State} (released : s.inReset = false) (f : State → State) : whenReleased f s = .next (f s) :=
  congrArg Host.Outcome.next (if_neg (by simp [released]))

/-! ## The receive assembler (R28, R29) -/

/-- A byte in IDLE that is a LEN starts a frame (R28). -/
theorem takeByte_starts {b : Byte} {s : State} (idle : s.rif.assembly = .idle) (low : 8 ≤ b.toNat) (high : b.toNat ≤ 46) :
    takeByte b s = { s with
      rif.assembly := .collecting, rif.frameLen := b.toNat, rif.collected := [], rif.interByte := .running (s.now + 32000) } := by
  have len : frameLength b = true := decide_eq_true ⟨low, high⟩
  unfold takeByte
  rw [idle]
  exact if_pos len

/-- A byte in IDLE that is no LEN is counted (R28). -/
theorem takeByte_discards {b : Byte} {s : State} (idle : s.rif.assembly = .idle) (out : b.toNat < 8 ∨ 46 < b.toNat) :
    takeByte b s = Spec.counted { s.rif.counts with frameLength := Spec.more s.rif.counts.frameLength }
      { s with rif.assembly := .discarding, rif.interByte := .running (s.now + 32000) } := by
  have len : ¬frameLength b = true := fun e => by
    have := of_decide_eq_true e
    omega
  unfold takeByte
  rw [idle]
  exact if_neg len

/-- A byte in COLLECTING joins the frame (R28). -/
theorem takeByte_joins {b : Byte} {s : State} (collecting : s.rif.assembly = .collecting)
    (more : (s.rif.collected ++ [b]).length < s.rif.frameLen) :
    takeByte b s = { s with rif.collected := s.rif.collected ++ [b], rif.interByte := .running (s.now + 32000) } := by
  unfold takeByte
  rw [collecting]
  exact if_neg (Nat.not_le_of_lt more)

/-- The last byte of a frame completes it (R28). -/
theorem takeByte_completes {b : Byte} {s : State} (collecting : s.rif.assembly = .collecting)
    (last : s.rif.frameLen ≤ (s.rif.collected ++ [b]).length) :
    takeByte b s = { s with
      rif.assembly := .idle, rif.frameLen := 0, rif.collected := [], rif.interByte := .stopped
      rif.completed := s.rif.completed ++ [s.completedFrame (s.rif.collected ++ [b])] } := by
  unfold takeByte
  rw [collecting]
  exact if_pos last

/-- The bytes still missing from a frame complete it, whatever they are (R28). -/
theorem runs_collect {bytes : List Byte} (some_left : bytes ≠ []) (s : State) (released : s.inReset = false)
    (collecting : s.rif.assembly = .collecting) (len : s.rif.frameLen = s.rif.collected.length + bytes.length) :
    Spec.Runs (bytes.map Instr.radioByte) s { s with
      rif.assembly := .idle, rif.frameLen := 0, rif.collected := [], rif.interByte := .stopped
      rif.completed := s.rif.completed ++ [s.completedFrame (s.rif.collected ++ bytes)] } := by
  induction bytes generalizing s with
  | nil => exact absurd rfl some_left
  | cons b rest ih =>
    by_cases last : rest = []
    · subst last
      exact ⟨_, whenReleased_released released _, (takeByte_completes collecting (by simp [len])).symm⟩
    · have left : 0 < rest.length := List.length_pos_iff.mpr last
      have joins : exec (.radioByte b) s
          = .next { s with rif.collected := s.rif.collected ++ [b], rif.interByte := .running (s.now + 32000) } :=
        (whenReleased_released released _).trans (congrArg Host.Outcome.next (takeByte_joins collecting (by simp [len]; omega)))
      refine ⟨_, joins, ?_⟩
      have rest_runs := ih last { s with rif.collected := s.rif.collected ++ [b], rif.interByte := .running (s.now + 32000) }
        released collecting (by simp [len]; omega)
      rwa [List.append_assoc] at rest_runs

/-! ## The checks of R30 -/

/-- Two bytes as a number, high byte first. -/
theorem beNat_two (a b : Byte) : beNat [a, b] = 256 * a.toNat + b.toNat := by simp [beNat, Nat.mul_comm]

/-- The number that the first two bytes of a frame spell. -/
theorem beNat_take_two {bs : List Byte} (long : 2 ≤ bs.length) : beNat (bs.take 2) = 256 * (bs.getD 0 0).toNat + (bs.getD 1 0).toNat := by
  match bs, long with
  | a :: b :: _, _ => exact beNat_two a b

/-- The number that the last two bytes of a frame spell. -/
theorem beNat_drop_two {bs : List Byte} (long : 2 ≤ bs.length) :
    beNat (bs.drop (bs.length - 2)) = 256 * (bs.getD (bs.length - 2) 0).toNat + (bs.getD (bs.length - 1) 0).toNat := by
  have first : bs.length - 2 < bs.length := by omega
  have second : bs.length - 2 + 1 < bs.length := by omega
  have next : bs.length - 1 = bs.length - 2 + 1 := by omega
  have ends : bs.drop (bs.length - 2 + 1 + 1) = [] := List.drop_eq_nil_of_le (by omega)
  rw [next, List.drop_eq_getElem_cons first, List.drop_eq_getElem_cons second, ends, beNat_two,
    List.getD_eq_getElem _ _ first, List.getD_eq_getElem _ _ second]

/-- The address filter passes a frame exactly where it is this locomotive's, its consist's, or a broadcast (R33). -/
theorem addressing_none_iff (f : CompletedFrame) :
    addressing (Spec.dest f) f.address f.consistNumber = none ↔ Spec.mine f = false := by
  unfold addressing Spec.mine
  split
  · rename_i own
    simp [own]
  · split
    · rename_i consist
      simp [consist]
    · split <;> simp_all

/-- The frame that fails a check of R30 raises the counter of the first that it fails. -/
theorem handleFrame_raised {f : CompletedFrame} {s : State} {c : RadioCounts} (long : 8 ≤ f.bytes.length)
    (raised : Spec.raised f s.rif = some c) : handleFrame f s = Spec.counted c s := by
  have crc : (parseFrame f.bytes).crcOk = Spec.crcGood f := by
    refine decide_eq_decide.mpr ?_
    rw [beNat_drop_two (Nat.le_trans (by decide) long)]
    exact .rfl
  have dest : (parseFrame f.bytes).dest = Spec.dest f := beNat_take_two (Nat.le_trans (by decide) long)
  have counts : handleFrame f s = match judgeFrame f s.rif with
      | .notReady => Spec.counted { s.rif.counts with notReady := Spec.more s.rif.counts.notReady } s
      | .crc => Spec.counted { s.rif.counts with crc := Spec.more s.rif.counts.crc } s
      | .badThrottle => Spec.counted { s.rif.counts with badThrottle := Spec.more s.rif.counts.badThrottle } s
      | .frameLength => Spec.counted { s.rif.counts with frameLength := Spec.more s.rif.counts.frameLength } s
      | .notMine => Spec.counted { s.rif.counts with notMine := Spec.more s.rif.counts.notMine } s
      | .duplicate => Spec.counted { s.rif.counts with duplicate := Spec.more s.rif.counts.duplicate } s
      | .accepted records addr => acceptFrame (parseFrame f.bytes) f.completedAt records addr s := by
    unfold handleFrame
    cases judgeFrame f s.rif <;> rfl
  rw [counts]
  unfold Spec.raised at raised
  unfold judgeFrame
  dsimp only at *
  rw [crc, dest]
  by_cases loading : f.duringLoad = true
  · rw [if_pos loading] at *
    cases raised
    rfl
  rw [if_neg loading] at *
  by_cases good : Spec.crcGood f = false
  · rw [if_pos good] at raised
    rw [if_pos (by simp [good])]
    cases raised
    rfl
  rw [if_neg good] at raised
  rw [if_neg (by simpa using good)]
  by_cases named : Spec.at' f 2 = 0 ∨ Spec.at' f 2 = 255
  · rw [if_pos named] at raised
    have refused : (!throttleId (parseFrame f.bytes).thr) = true := by
      rcases named with e | e <;> simp [throttleId, show (parseFrame f.bytes).thr = Spec.at' f 2 from rfl, e]
    rw [if_pos refused]
    cases raised
    rfl
  rw [if_neg named] at raised
  have taken : ¬(!throttleId (parseFrame f.bytes).thr) = true := by
    simpa [throttleId, show (parseFrame f.bytes).thr = Spec.at' f 2 from rfl] using named
  rw [if_neg taken]
  have count : (parseFrame f.bytes).count = (Spec.at' f 4).toNat := rfl
  have requests : (parseFrame f.bytes).requests = Spec.requestBytes f := rfl
  rw [count, requests]
  by_cases many : (Spec.at' f 4).toNat < 1 ∨ 4 < (Spec.at' f 4).toNat
  · rw [if_pos (by omega)] at raised
    rw [if_pos many]
    cases raised
    rfl
  rw [if_neg many]
  cases split : splitRecords (Spec.at' f 4).toNat (Spec.requestBytes f) with
  | none =>
    rw [if_pos (.inr (.inr split))] at raised
    cases raised
    rfl
  | some records =>
    have structured : ¬((Spec.at' f 4).toNat = 0 ∨ 4 < (Spec.at' f 4).toNat
        ∨ splitRecords (Spec.at' f 4).toNat (Spec.requestBytes f) = none) := by
      rintro (zero | high | missing)
      · omega
      · omega
      · exact absurd (split.symm.trans missing) nofun
    rw [if_neg structured] at raised
    by_cases mine : Spec.mine f = false
    · rw [if_pos mine] at raised
      cases raised
      dsimp only
      rw [(addressing_none_iff f).mpr mine]
    rw [if_neg mine] at raised
    cases addr : addressing (Spec.dest f) f.address f.consistNumber with
    | none => exact absurd ((addressing_none_iff f).mp addr) mine
    | some a =>
      split at raised
      · rename_i repeats
        have twice : s.rif.duplicate (parseFrame f.bytes).thr (parseFrame f.bytes).seq f.completedAt = true := repeats
        cases raised
        dsimp only
        rw [if_pos twice]
      · cases raised

/-! ## The throttle table (R35) -/

/-- An entry that goes no later than another when one is evicted (R35). -/
def goesFirst (a b : ThrottleEntry) : Bool :=
  decide (a.lastHeard < b.lastHeard) || (decide (a.lastHeard = b.lastHeard) && decide (a.id.toNat ≤ b.id.toNat))

theorem goesFirst_iff (a b : ThrottleEntry) :
    goesFirst a b = true
      ↔ @LT.lt Nat _ a.lastHeard b.lastHeard ∨ @Eq Nat a.lastHeard b.lastHeard ∧ a.id.toNat ≤ b.id.toNat := by
  simp [goesFirst]

/-- The entry to evict goes no later than any candidate. -/
theorem oldestEntry_first {l : List ThrottleEntry} {o : ThrottleEntry} (h : oldestEntry l = some o) :
    ∀ e ∈ l, goesFirst o e = true := by
  induction l generalizing o with
  | nil => exact nofun
  | cons x xs ih =>
    unfold oldestEntry at h
    cases rest : oldestEntry xs with
    | none =>
      rw [rest] at h
      cases h
      rw [oldestEntry_none rest]
      intro e he
      rw [List.mem_singleton.mp he, goesFirst_iff]
      exact .inr ⟨rfl, Nat.le_refl _⟩
    | some p =>
      rw [rest] at h
      dsimp only at h
      intro e he
      rw [goesFirst_iff]
      have others (e) (he : e ∈ xs) := (goesFirst_iff p e).mp (ih rest e he)
      have order : p.before x = true
          ↔ @LT.lt Nat _ p.lastHeard x.lastHeard ∨ @Eq Nat p.lastHeard x.lastHeard ∧ p.id.toNat < x.id.toNat := by
        simp [ThrottleEntry.before]
      split at h <;> rename_i first <;> cases h
      · rcases List.mem_cons.mp he with rfl | he
        · have := order.mp first
          omega
        · exact others e he
      · rcases List.mem_cons.mp he with rfl | he
        · exact .inr ⟨rfl, Nat.le_refl _⟩
        · have := mt order.mpr first
          have := others e he
          omega

/-- The entry to evict is one that goes no later than any: of its throttle is the first such entry of the list. -/
theorem find_goesFirst (l : List ThrottleEntry) :
    (l.find? fun e => l.all (goesFirst e)).map ThrottleEntry.id = (oldestEntry l).map ThrottleEntry.id := by
  cases oldest : oldestEntry l with
  | none =>
    rw [oldestEntry_none oldest]
    rfl
  | some o =>
    have minimal := oldestEntry_first oldest
    cases found : l.find? fun e => l.all (goesFirst e) with
    | none => exact absurd (List.all_eq_true.mpr minimal) (List.find?_eq_none.mp found o (oldestEntry_mem oldest))
    | some v =>
      have first : l.all (goesFirst v) = true := List.find?_some (p := fun e => l.all (goesFirst e)) found
      have forth := List.all_eq_true.mp first o (oldestEntry_mem oldest)
      have back := minimal v (List.mem_of_find?_eq_some found)
      rw [goesFirst_iff] at forth back
      exact congrArg some (BitVec.eq_of_toNat_eq (by omega))

/-- The entry that is evicted and `Spec.victim` are of one throttle, where there is one to evict (R35). -/
theorem victim_eq (holder : Holder) (l : List ThrottleEntry) :
    (Spec.victim holder l).map ThrottleEntry.id
      = (oldestEntry (l.filter fun e => !holder.names e.id)).map ThrottleEntry.id := by
  have same : (l.filter fun e => decide (holder ≠ .throttle e.id)) = l.filter fun e => !holder.names e.id :=
    List.filter_congr fun e _ => by simp [Holder.names]
  rw [← same]
  exact find_goesFirst _

/-- The table after a frame is heard is `Spec.tableAfter`'s (R35). -/
theorem hear_throttles (r : Rif) (id seq : Byte) (t : Time) :
    (r.hear id seq t).throttles = Spec.tableAfter id seq t r.holderView r.throttles := by
  have known : (r.entry id).isSome = r.throttles.any fun e => e.id == id := by
    rw [Bool.eq_iff_iff, entry_isSome, List.any_eq_true]
    simp
  have evicted : r.evict = match Spec.victim r.holderView r.throttles with
      | none => r.throttles
      | some o => r.throttles.filter fun e => e.id != o.id := by
    have ids := victim_eq r.holderView r.throttles
    unfold Rif.evict
    cases v : Spec.victim r.holderView r.throttles with
    | none =>
      rw [v] at ids
      rw [Option.map_eq_none_iff.mp ids.symm]
    | some x =>
      rw [v] at ids
      obtain ⟨o, oldest, same⟩ := Option.map_eq_some_iff.mp ids.symm
      rw [oldest]
      dsimp only
      rw [same]
  unfold Rif.hear Spec.tableAfter
  rw [known]
  split
  · refine List.map_congr_left fun e _ => ?_
    split
    · rename_i same
      rw [← same]
    · rfl
  · dsimp only
    split
    · rename_i room
      rw [if_pos (show r.throttles.length < 8 from room)]
    · rename_i full
      rw [if_neg (show ¬r.throttles.length < 8 from full)]
      exact congrArg (· ++ [⟨id, seq, t⟩]) evicted

/-- A frame heard, with its arrival handed to RCU, is `Spec.heard` (R19, R35). -/
theorem frameArrives_hear (id seq : Byte) (t : Time) (s : State) :
    frameArrives id { s with rif := s.rif.hear id seq t } = Spec.heard id seq t s := by
  have due : 16000 * (100 * s.cfs.working.leaseTime) = 1600000 * s.cfs.working.leaseTime := by omega
  unfold Spec.heard
  rw [hear_eq, hear_throttles]
  simp [frameArrives, State.holds, startLease, onRcu, State.timer, State.cfg, Config.ms, due, Spec.leased]

/-- A request of a throttle that RIF has not heard is one of a frame heard with it (R35, R37, log entry 4). -/
theorem radioRequest_heard {id : Byte} {h : Head} {b : Body} {s : State} (loaded : s.rcu.views.powerState ≠ .load)
    (long : headBytes h.posted ≤ h.length.toNat) (idle : s.rif.handling = none) (named : id ≠ 0 ∧ id ≠ 255) :
    radioRequest id h b s = radioRequest id h b (hearThrottle id s) := by
  obtain ⟨_, frame⟩ := hearThrottle_carries s id
  have power : (hearThrottle id s).rcu.views.powerState = s.rcu.views.powerState := by
    rcases hearThrottle_cases s id with ⟨_, e⟩ | ⟨_, e⟩ <;> rw [e]
    unfold frameArrives
    split <;> rfl
  have known : ∃ e ∈ (hearThrottle id s).rif.throttles, e.id = id := by
    rcases hearThrottle_cases s id with ⟨known, e⟩ | ⟨_, e⟩ <;> rw [e]
    · exact known
    · unfold frameArrives
      split <;> exact (hear_keeps s.rif id (Config.frameSeq s.freeIndex) s.now).1
  have taken : throttleId id = true := by simpa [throttleId] using named
  have fits : recordTooShort h = false := decide_eq_false (Nat.not_lt_of_le long)
  simp [radioRequest, taken, loaded, fits, idle, frame, power, hearThrottle_known known]

end Sys2Proof.Laws

namespace Sys2Proof.Record

open Sys2Proof.Machine Sys2Proof.Laws

/-- Settles O32: the assembler's states one by one, and a whole frame from IDLE by its bytes. -/
theorem radioBytesAssemble : Obligations.RadioBytesAssemble := by
  refine ⟨fun b s released => ?_, fun bytes s released idle low high => ?_⟩
  · have byte {t : State} (e : takeByte b s = t) : exec (.radioByte b) s = .next t :=
      (whenReleased_released released _).trans (congrArg Host.Outcome.next e)
    refine ⟨fun idle low high => byte (takeByte_starts idle low high), fun idle out => byte (takeByte_discards idle out),
      fun collecting more => byte (takeByte_joins collecting more), fun collecting last => byte (takeByte_completes collecting last),
      fun discarding => byte ?_, fun due runs => ?_⟩
    · unfold takeByte
      rw [discarding]
      rfl
    · refine (whenReleased_released released _).trans (congrArg Host.Outcome.next ?_)
      rw [runs, onExpiry, gapOnLink]
      by_cases collecting : s.rif.assembly = .collecting
      · simp only [reach_rif, collecting, decide_true, if_true]
        rfl
      · simp only [reach_rif, collecting, decide_false, Bool.false_eq_true, if_false]
        rfl
  · have len : (BitVec.ofNat 8 bytes.length).toNat = bytes.length := by
      rw [BitVec.toNat_ofNat]
      exact Nat.mod_eq_of_lt (by omega)
    have starts := takeByte_starts (b := BitVec.ofNat 8 bytes.length) (s := s) idle (by omega) (by omega)
    refine ⟨_, (whenReleased_released released _).trans (congrArg Host.Outcome.next starts), ?_⟩
    have collected := runs_collect (bytes := bytes) (fun empty => by simp [empty] at low)
      { s with rif.assembly := .collecting, rif.frameLen := (BitVec.ofNat 8 bytes.length).toNat, rif.collected := []
               rif.interByte := .running (s.now + 32000) } released rfl (by simp only [len]; exact (Nat.zero_add _).symm)
    dsimp only
    rw [idle]
    exact collected

/-- Settles O33: without a frame in handling the oldest completed one is checked, and counted by the first check it fails. -/
theorem badFramesAreCountedAndDropped : Obligations.BadFramesAreCountedAndDropped := by
  intro s f rest completed released idle long c raised
  refine (whenReleased_released released _).trans (congrArg Host.Outcome.next ?_)
  unfold takeFrame
  rw [idle, completed]
  exact handleFrame_raised (s := onRif (fun r => { r with completed := rest }) s) long raised

/-- Settles O36: the reply queue, the ageing of an entry, and a request of a throttle that RIF has not heard. -/
theorem repliesLeaveAndEntriesAge : Obligations.RepliesLeaveAndEntriesAge := by
  intro s released
  have does {f : State → State} {t : State} (e : f s = t) : whenReleased f s = .next t :=
    (whenReleased_released released f).trans (congrArg Host.Outcome.next e)
  refine ⟨fun sends => does ?_, fun waits => does ?_, fun id => ⟨fun e known free other => does ?_, fun stays => does ?_, ?_⟩⟩
  · rw [if_pos (Option.isSome_iff_ne_none.mpr sends)]
    simp [onRif]
  · exact if_neg (by simp [waits])
  · have entry : s.rif.entry id = some e := known
    have ages : (s.rif.holderView.names id || s.rif.handles none id) = false := by
      have idle : s.rif.handling.any (fun run => run.thr == id) = false := by
        cases frame : s.rif.handling with
        | none => rfl
        | some run => simpa [frame] using other
      simp [Holder.names, free, Rif.handles, idle]
    unfold ageEntry
    rw [entry]
    simp only [ages, Bool.false_eq_true, if_false]
    have kept : (s.rif.throttles.filter fun x => x.id != id) = s.rif.throttles.filter fun x => decide (x.id ≠ id) :=
      List.filter_congr fun x _ => by rw [Bool.eq_iff_iff, bne_iff_ne, decide_eq_true_iff]
    rw [← kept]
    rfl
  · unfold ageEntry
    cases entry : s.rif.entry id with
    | none => rfl
    | some e =>
      refine if_pos ?_
      rcases stays with holds | handled | unknown
      · simp [Holder.names, holds]
      · obtain ⟨run, frame, thr⟩ := Option.map_eq_some_iff.mp handled
        simp [Rif.handles, frame, thr]
      · obtain ⟨x, hx, same⟩ := (entry_isSome s.rif id).mp (by rw [entry]; rfl)
        exact absurd same (unknown x hx)
  · intro c h hc src h0 h255 loaded long idle unknown
    obtain ⟨x, hx, rfl⟩ := Option.map_eq_some_iff.mp hc
    obtain ⟨b, hb, _, _⟩ := record_of_request hx
    have hears : hearThrottle id s = Spec.heard id (Config.frameSeq s.freeIndex) s.now { s with freeIndex := s.freeIndex + 1 } := by
      rcases hearThrottle_cases s id with ⟨⟨e, he, same⟩, _⟩ | ⟨_, e⟩
      · exact absurd same (unknown e he)
      · exact e.trans (frameArrives_hear id _ s.now { s with freeIndex := s.freeIndex + 1 })
    have still : (hearThrottle id s).inReset = false := (hearThrottle_carries s id).1.inReset.trans released
    rw [← hears, exec_request hb, exec_request hb, whenReleased_released released, whenReleased_released still]
    simp only [takeRequest, src]
    rw [← radioRequest_heard loaded long idle ⟨h0, h255⟩]

end Sys2Proof.Record
end

section
/-! Requests laid out in a frame and parsed back (O34). -/

namespace Sys2Proof.Laws

open Sys2Proof.Machine

/-! ## Numbers and their bytes (R190) -/

/-- A two-byte number is read back. -/
theorem beNat_be2 (n : Nat) (fits : n < 65536) : beNat (be2 n) = n := by
  simp only [be2, beNat, List.foldl_cons, List.foldl_nil, BitVec.toNat_ofNat]
  omega

/-- A four-byte number is read back. -/
theorem beNat_be4 (n : Nat) (fits : n < 4294967296) : beNat (be4 n) = n := by
  simp only [be4, beNat, List.foldl_cons, List.foldl_nil, BitVec.toNat_ofNat]
  omega

theorem beWord_be2 (w : Word16) : beWord 16 (be2 w.toNat) = w := by
  rw [beWord, beNat_be2 _ w.isLt, BitVec.ofNat_toNat, BitVec.setWidth_eq]

theorem beWord_be4 (w : Word32) : beWord 32 (be4 w.toNat) = w := by
  rw [beWord, beNat_be4 _ w.isLt, BitVec.ofNat_toNat, BitVec.setWidth_eq]

/-! ## A record (R190) -/

/-- The operand bytes of a request, as its kind lays them out. -/
def operandsOf : Body → List Byte
  | .read f sel => [f, sel]
  | .write f v => f :: be4 v.toNat
  | .add f imm => f :: be2 imm.toNat
  | .keys f m st => f :: be4 m.toNat ++ be4 st.toNat
  | .flip f m => f :: be4 m.toNat
  | .swap f v => f :: be4 v.toNat
  | .claim e n => [e, n]
  | .release c => [c]
  | .haltNow => []
  | .measure c => [c]
  | .play v c g t => [v, c] ++ be2 g.toNat ++ [t]
  | .refill a => be2 a.toNat
  | .sceneWrite r st d codes => [r, st, d] ++ codes.toList
  | .clearFaults o => be2 o.toNat
  | .configRead i e => [i, e]
  | .configWrite i e v => i :: e :: v
  | .commit => []

/-- They are as many as the layout takes. -/
theorem length_operandsOf (b : Body) : (operandsOf b).length = b.operandBytes := by
  cases b with
  | sceneWrite r st d codes => simp [operandsOf, Body.operandBytes]
  | configWrite i e v => exact Nat.add_comm v.length 2
  | _ => rfl

/-- The operand bytes of a request spell it again. -/
theorem parseBody_operandsOf (b : Body) : parseBody b.kind (operandsOf b) = some b := by
  cases b with
  | write f v => exact congrArg (fun w => some (Body.write f w)) (beWord_be4 v)
  | add f imm => exact congrArg (fun w => some (Body.add f w)) (beWord_be2 imm)
  | keys f m st => exact congrArg₂ (fun w x => some (Body.keys f w x)) (beWord_be4 m) (beWord_be4 st)
  | flip f m => exact congrArg (fun w => some (Body.flip f w)) (beWord_be4 m)
  | swap f v => exact congrArg (fun w => some (Body.swap f w)) (beWord_be4 v)
  | play v c g t => exact congrArg (fun w => some (Body.play v c w t)) (beWord_be2 g)
  | refill a => exact congrArg (fun w => some (Body.refill w)) (beWord_be2 a)
  | sceneWrite r st d codes =>
    obtain ⟨⟨l⟩, size⟩ := codes
    match l, size with
    | [_, _, _, _, _, _, _, _, _, _, _, _], _ => rfl
  | clearFaults o => exact congrArg (fun w => some (Body.clearFaults w)) (beWord_be2 o)
  | _ => rfl

/-- A kind code names its kind. -/
theorem ofByte_of_byte (k : Kind) : Kind.ofByte k.byte = some k := by cases k <;> decide

/-- A request command lays out its record from its head, its kind and its operands. -/
theorem recordBytes_of_request {c : Instr} {h : Head} {b : Body} (hc : requestOf c = some (h, b)) :
    Spec.recordBytes c = some (Spec.recordBytes.lay h b.kind.byte (operandsOf b)) := by
  cases c <;> cases hc <;> rfl

/-- The record of a request as RIF takes it from a frame. -/
def rawOf (h : Head) (b : Body) : RawRecord :=
  ⟨b.kind.byte, h.posted, if h.posted then 0 else h.tag, operandsOf b⟩

/-- A record laid out with the LENGTH of its layout is taken off the front of the bytes (R30). -/
theorem takeRecord_lay {h : Head} {b : Body} (whole : h.length.toNat = headBytes h.posted + b.operandBytes) (rest : List Byte) :
    takeRecord (Spec.recordBytes.lay h b.kind.byte (operandsOf b) ++ rest) = some (rawOf h b, rest) := by
  have size := length_operandsOf b
  unfold Spec.recordBytes.lay rawOf Head.posted at *
  cases posted : h.control.getLsbD 0 with
  | true =>
    rw [posted] at whole
    have operands : h.length.toNat - 3 = (operandsOf b).length := by rw [whole, size]; exact Nat.add_sub_cancel_left ..
    have head : ¬h.length.toNat < headBytes true := by rw [whole]; exact Nat.not_lt_of_le (Nat.le_add_right ..)
    simp [-BitVec.getLsbD_eq_getElem, takeRecord, posted, operands, head]
  | false =>
    rw [posted] at whole
    have operands : h.length.toNat - 3 = (operandsOf b).length + 1 := by
      rw [whole, size]
      show 4 + b.operandBytes - 3 = b.operandBytes + 1
      omega
    have head : ¬h.length.toNat < headBytes false := by rw [whole]; exact Nat.not_lt_of_le (Nat.le_add_right ..)
    simp [-BitVec.getLsbD_eq_getElem, takeRecord, posted, operands, head]

/-- A request command as a throttle's record carries it, taken apart. -/
theorem carried_parts {thr : Byte} {c : Instr} (carried : Spec.carried thr c = true) :
    ∃ h b, requestOf c = some (h, b) ∧ h.source = .throttle thr ∧ (h.control = 0 ∨ h.control = 1 ∧ h.tag = 0)
      ∧ h.length.toNat = headBytes h.posted + b.operandBytes := by
  unfold Spec.carried at carried
  cases record : Spec.record c with
  | none => rw [record] at carried; cases carried
  | some x =>
    obtain ⟨b, hc, _, operands⟩ := record_of_request record
    rw [record] at carried
    simp only [Bool.and_eq_true, Bool.or_eq_true, decide_eq_true_eq, beq_iff_eq] at carried
    obtain ⟨⟨src, control⟩, whole⟩ := carried
    exact ⟨x.1, b, hc, src, control, by rw [operands]; exact whole⟩

/-- The record of a request that a throttle carries is that command again (R30, R190). -/
theorem commandOf_rawOf {thr : Byte} {c : Instr} {h : Head} {b : Body} (hc : requestOf c = some (h, b))
    (src : h.source = .throttle thr) (control : h.control = 0 ∨ h.control = 1 ∧ h.tag = 0)
    (whole : h.length.toNat = headBytes h.posted + b.operandBytes) : Spec.commandOf thr (rawOf h b) = some c := by
  have head : (⟨.throttle thr, BitVec.ofNat 8 ((if h.posted then 3 else 4) + (operandsOf b).length), if h.posted then 1 else 0,
      if h.posted then 0 else h.tag⟩ : Head) = h := by
    have length : BitVec.ofNat 8 ((if h.posted then 3 else 4) + (operandsOf b).length) = h.length := by
      rw [length_operandsOf]
      exact (congrArg (BitVec.ofNat 8) whole.symm).trans (by rw [BitVec.ofNat_toNat, BitVec.setWidth_eq])
    rw [length, ← src]
    rcases control with zero | ⟨one, no_tag⟩
    · have plain : h.posted = false := by rw [Head.posted, zero]; rfl
      rw [plain, ← zero]
      rfl
    · have posted : h.posted = true := by rw [Head.posted, one]; rfl
      rw [posted, if_pos rfl, if_pos rfl, ← one, ← no_tag]
  unfold Spec.commandOf rawOf
  dsimp only
  rw [head, ofByte_of_byte]
  dsimp only
  rw [parseBody_operandsOf]
  cases c <;> cases hc <;> rfl

/-! ## The records of a frame (R30) -/

/-- Records laid out one after another split into as many, which are the commands again. -/
theorem splitRecords_records {thr : Byte} {cs : List Instr} {records : List (List Byte)}
    (carried : ∀ c ∈ cs, Spec.carried thr c = true) (laid : cs.map Spec.recordBytes = records.map some) :
    ∃ raws, splitRecords cs.length records.flatten = some raws ∧ raws.map (Spec.commandOf thr) = cs.map some := by
  induction cs generalizing records with
  | nil =>
    cases records with
    | nil => exact ⟨[], rfl, rfl⟩
    | cons r rs => cases laid
  | cons c cs ih =>
    cases records with
    | nil => cases laid
    | cons r rs =>
      rw [List.map_cons, List.map_cons, List.cons.injEq] at laid
      obtain ⟨first, others⟩ := laid
      obtain ⟨raws, split, commands⟩ := ih (fun x hx => carried x (.tail _ hx)) others
      obtain ⟨h, b, hc, src, control, whole⟩ := carried_parts (carried c (.head _))
      rw [recordBytes_of_request hc, Option.some.injEq] at first
      refine ⟨rawOf h b :: raws, ?_, by rw [List.map_cons, commands, commandOf_rawOf hc src control whole]; rfl⟩
      rw [List.flatten_cons, ← first, List.length_cons, splitRecords, takeRecord_lay whole]
      dsimp only
      rw [split]

/-- What a frame's CRC is taken over: DEST, THR, SEQ, COUNT and the records (R31, R190). -/
def frameBody (dest : Nat) (thr seq : Byte) (records : List (List Byte)) : List Byte :=
  be2 dest ++ [thr, seq] ++ be1 records.length ++ records.flatten

/-- A record is its head at least. -/
theorem lay_long {c : Instr} {r : List Byte} (laid : Spec.recordBytes c = some r) (request : ∃ h b, requestOf c = some (h, b)) :
    3 ≤ r.length := by
  obtain ⟨h, b, hc⟩ := request
  rw [recordBytes_of_request hc] at laid
  cases laid
  simp [Spec.recordBytes.lay]

end Sys2Proof.Laws

namespace Sys2Proof.Record

open Sys2Proof.Machine Sys2Proof.Laws

/-- Settles O34: the frame's parts by their places, and its records one after another. -/
theorem framesReadBack : Obligations.FramesReadBack := by
  intro dest thr seq cs records addressed _ _ some_request few carried laid fits f bytes
  rw [List.all_eq_true] at carried
  have count : records.length = cs.length := by simpa using (congrArg List.length laid).symm
  obtain ⟨raws, split, commands⟩ := splitRecords_records carried laid
  have long : 3 ≤ records.flatten.length := by
    match cs, records, some_request, laid with
    | c :: cs, r :: rs, _, laid =>
      rw [List.map_cons, List.map_cons, List.cons.injEq] at laid
      obtain ⟨h, b, hc, _⟩ := carried_parts (carried c (.head _))
      have := lay_long laid.1 ⟨h, b, hc⟩
      rw [List.flatten_cons, List.length_append]
      omega
  have whole : f.bytes = frameBody dest thr seq records ++ be2 (crc16 (frameBody dest thr seq records)).toNat := bytes
  have size : f.bytes.length - 2 = (frameBody dest thr seq records).length := by rw [whole, List.length_append]; rfl
  have front : f.bytes.take (f.bytes.length - 2) = frameBody dest thr seq records := by rw [size, whole, List.take_left]
  have back : f.bytes.drop (f.bytes.length - 2) = be2 (crc16 (frameBody dest thr seq records)).toNat := by
    rw [size, whole, List.drop_left]
  have seven : f.bytes.length = records.flatten.length + 7 := by
    rw [whole]
    simp [frameBody, be2, be1]
  have two : 2 ≤ f.bytes.length := by omega
  have counted : (Spec.at' f 4).toNat = cs.length := by
    have byte : Spec.at' f 4 = BitVec.ofNat 8 records.length := by rw [Spec.at', whole]; rfl
    rw [byte, count, BitVec.toNat_ofNat]
    exact Nat.mod_eq_of_lt (by omega)
  refine ⟨by omega, decide_eq_true ?_, ?_, ?_, ?_, raws, ?_, commands⟩
  · exact (congrArg (fun l => (crc16 l).toNat) front).trans
      ((beNat_be2 _ (crc16 (frameBody dest thr seq records)).isLt).symm.trans ((congrArg beNat back).symm.trans (beNat_drop_two two)))
  · have start : f.bytes.take 2 = be2 dest := by rw [whole]; rfl
    exact (beNat_take_two two).symm.trans ((congrArg beNat start).trans (beNat_be2 dest addressed))
  · rw [Spec.at', whole]
    rfl
  · rw [Spec.at', whole]
    rfl
  · have requests : Spec.requestBytes f = records.flatten := by rw [Spec.requestBytes, front]; rfl
    rw [counted, requests]
    exact split

end Sys2Proof.Record
end

section
/-! CONFIG_WRITE: what the owner of an item does with a change of it, and the checks of R179 (O26). -/

namespace Sys2Proof.Laws

open Sys2Proof.Machine

variable (s : State)

/-! ## The comparators under new levels (R89) -/

/-- A comparator's output under the present level, at the present voltage of its pin (R89). -/
theorem outputNow_eq (k : Comparator) :
    comparatorOutput k (s.cfg.level k) (s.bmu.pin k) (s.bmu.output k) = Spec.outputNow k s := by cases k <;> rfl

/-- A comparator's judgement hands a change of its output to PWS, while the schedule runs (R89). -/
theorem judgeComparator_eq (k : Comparator) :
    judgeComparator k s = if s.bmu.running = false ∨ Spec.outputNow k s = s.bmu.output k then s
      else powerTakeComparator k (Spec.outputNow k s) (onBmu (·.setOutput k (Spec.outputNow k s)) s) := by
  unfold judgeComparator
  rw [outputNow_eq]
  simp only [Bool.or_eq_true, Bool.not_eq_true', beq_iff_eq]

/-- The sag timer is set by the table of R165. -/
theorem setSagTimer_eq :
    setSagTimer s = { s with
      pws.sagTimer := (Spec.sagTimer s.pws.sagView s.pws.sagPart s.now s.pws.sagRaise).1
      pws.sagRaise := (Spec.sagTimer s.pws.sagView s.pws.sagPart s.now s.pws.sagRaise).2 } := by
  unfold setSagTimer Spec.sagTimer onPws
  by_cases high : s.pws.sagView = true
  · by_cases part : 0 < s.pws.sagPart
    · simp only [high, part, if_true]
      rfl
    · simp only [high, part, if_true]
      rfl
  · by_cases part : s.pws.sagPart < 3
    · simp only [high, part, if_true]
      rfl
    · simp only [high, part, if_false]
      rfl

/-- The reserve falls in BRIDGE where its comparator turns low under the new level. -/
theorem reserveFalls_iff :
    Spec.reserveFalls s = true ↔
      s.bmu.running = true ∧ s.bmu.capReserve = true ∧ Spec.outputNow .capReserve s = false ∧ s.pws.powerState = .bridge := by
  simp [Spec.reserveFalls, and_assoc]

/-- A comparator that keeps its output keeps all (R89). -/
theorem judgedAnew_keeps {k : Comparator} (keeps : s.bmu.running = false ∨ Spec.outputNow k s = s.bmu.output k) :
    Spec.judgedAnew k s = s := by
  unfold Spec.judgedAnew
  rcases keeps with still | same
  · exact if_pos still
  · by_cases still : s.bmu.running = false
    · exact if_pos still
    · refine (if_neg still).trans ?_
      cases k with
      | trackPresent => exact if_pos same
      | trackSag => exact if_pos same
      | capReserve =>
        have held : Spec.outputNow .capReserve s = s.bmu.capReserve := same
        dsimp only
        rw [if_pos held, held]
      | capResume => exact if_pos same

/-- PWS takes a change of the track's presence: its qualification restarts (R159). -/
theorem powerTakePresent_eq (high : Bool) :
    powerTakePresent high s = { s with
      pws.presentView := high, pws.towardPresent := high
      pws.qualification := .running (s.now + if high then 80000 else 16000) } := by
  cases high <;> rfl

/-- PWS takes a change of the sag comparator: in RUN its timing restarts (R165). -/
theorem powerTakeSag_eq (high : Bool) :
    powerTakeSag high s =
      let timer := Spec.sagTimer high s.pws.sagPart s.now s.pws.sagRaise
      if s.pws.powerState = .run then
        { s with pws.sagView := high, pws.sagTimer := timer.1, pws.sagRaise := timer.2 }
      else { s with pws.sagView := high } := by
  unfold powerTakeSag
  dsimp only
  rw [setSagTimer_eq]
  rfl

/-- PWS takes a change of the resume comparator: SETTLE waits or delays by it (R161). -/
theorem powerTakeResume_eq (high : Bool) :
    powerTakeResume high s =
      let u := { s with pws.resumeView := high }
      if s.pws.powerState ≠ .settle then u
      else if high = true then
        { u with pws.settlePhase := .delaying, pws.settleTimer := .running (s.now + 160000 * s.cfs.working.settleDelay) }
      else { u with pws.settlePhase := .charging, pws.settleTimer := .stopped } := by
  have delay : 160000 * s.cfs.working.settleDelay = 16000 * (10 * s.cfs.working.settleDelay) := by omega
  dsimp only
  rw [delay, ite_not]
  rfl

/-- The comparators, but for a reserve that falls in BRIDGE (R89, R159, R161, R165). -/
theorem judgeComparator_judged (k : Comparator) (stays : ¬(k = .capReserve ∧ Spec.reserveFalls s = true)) :
    judgeComparator k s = Spec.judgedAnew k s := by
  rw [judgeComparator_eq]
  by_cases keeps : s.bmu.running = false ∨ Spec.outputNow k s = s.bmu.output k
  · rw [if_pos keeps, judgedAnew_keeps s keeps]
  rw [if_neg keeps]
  obtain ⟨runs, changed⟩ := not_or.mp keeps
  unfold Spec.judgedAnew
  refine Eq.trans ?_ (if_neg runs).symm
  cases k with
  | trackPresent => exact (powerTakePresent_eq _ _).trans (if_neg changed).symm
  | trackSag => exact (powerTakeSag_eq _ _).trans (if_neg changed).symm
  | capReserve =>
    have outside : ¬(s.pws.powerState = .bridge ∧ Spec.outputNow .capReserve s = false) := by
      rintro ⟨bridge, low⟩
      rw [low] at changed
      exact stays ⟨rfl, (reserveFalls_iff s).mpr ⟨eq_true_of_ne_false runs, eq_true_of_ne_false (Ne.symm changed), low, bridge⟩⟩
    refine (if_neg outside).trans ?_
    have differs : Spec.outputNow .capReserve s ≠ s.bmu.capReserve := changed
    dsimp only
    rw [if_neg differs]
    rfl
  | capResume => exact (powerTakeResume_eq _ _).trans (if_neg changed).symm

/-! ## The other owners (R65, R97, R120, R129, R132, R135) -/

/-- A change of BEAT_SOURCE (R97). -/
theorem beatSourceChanged_eq {old : Configuration} (changed : s.cfs.working.beatSource ≠ old.beatSource) :
    beatSourceChanged old.beatSource s =
      if s.cfs.working.beatSource = .sensor then { s with btg.pendingFlag := false, btg.lastEdge := none, btg.accumulator := 0 }
      else if old.beatSource = .sensor then { s with btg.pendingFlag := false, btg.accumulator := 0 }
      else s := by
  have mode : s.sensorMode = decide (s.cfs.working.beatSource = .sensor) := rfl
  unfold beatSourceChanged
  by_cases now : s.cfs.working.beatSource = .sensor
  · have before : old.beatSource ≠ .sensor := fun e => changed (now.trans e.symm)
    rw [if_pos ⟨before, by simpa [mode] using now⟩, if_pos now]
    rfl
  · rw [if_neg fun c => now (by simpa [mode] using c.2), if_neg now]
    simp only [mode, now, decide_false, Bool.not_false, and_true]
    rfl

/-- A change of a key binding frees the voices it owns (R120). -/
theorem disown_eq (q : Ssq) (b : Fin 16) : q.disown b = Spec.unowned q b := by
  have voices : (Vector.ofFn fun n : Fin 6 =>
      let v := q.voices[n]
      if v.owner = some b then
        let v' := { v with owner := none, queued := none }
        if v.fetch = .paused then v'.enterTail (q.descriptorOf v) else v'
      else v) = (Spec.unowned q b).voices := by
    refine Vector.ext fun n hn => ?_
    simp only [Spec.unowned, Vector.getElem_ofFn, Vector.getElem_map, ite_not]
    rfl
  unfold Ssq.disown
  rw [voices]
  rfl

/-- The fan goes to a level, and ODU with it (R134, R172). -/
theorem setFan_eq (n : Nat) : setFan n s = Spec.fanBecomes n s := by
  unfold setFan Spec.fanBecomes takeCommand onSmu Pwm.command
  by_cases zero : n = 0
  · subst zero
    simp [Pwm.off, openCommandLevel]
  · simp [zero, openCommandLevel]
    rfl

/-- A timer is STOPPED or RUNNING. -/
theorem stopped_iff (t : Timer) : t = .stopped ↔ t.isRunning = false := by cases t <;> simp [Timer.isRunning]

/-- A change of the fan's puff level (R135). -/
theorem fanPuffChanged_eq :
    fanPuffChanged s = if decide (s.smu.state = .regulating) && s.smu.puffTimer.isRunning then
      Spec.fanBecomes s.cfs.working.fanPuffLevel s else s := by
  simp only [fanPuffChanged, setFan_eq, Ne, stopped_iff, Bool.not_eq_false, Bool.and_eq_true, decide_eq_true_eq]
  rfl

/-- A change of the fan's between-puff or idle level (R135). -/
theorem fanLevelChanged_eq :
    fanLevelChanged s = if decide (s.smu.state = .regulating) && !s.smu.puffTimer.isRunning then
      Spec.fanBecomes (Spec.betweenPuffs s) s else s := by
  simp only [fanLevelChanged, fanBetween, betweenLevel_eq, setFan_eq, stopped_iff, Bool.and_eq_true, Bool.not_eq_true', decide_eq_true_eq]

/-- A change of FLUID_CAPACITY cuts FLUID down to it (R132). -/
theorem capacityChanged_eq :
    capacityChanged s = { s with
      smu.fluid := min s.smu.fluid s.cfs.working.fluidCapacity
      rcu.views.fluid := if s.cfs.working.fluidCapacity < s.smu.fluid then s.cfs.working.fluidCapacity else s.rcu.views.fluid } := by
  unfold capacityChanged
  by_cases more : s.cfs.working.fluidCapacity < s.smu.fluid
  · rw [if_pos (show s.cfg.fluidCapacity < s.smu.fluid from more), if_pos more, Nat.min_eq_right (Nat.le_of_lt more)]
    rfl
  · rw [if_neg (show ¬s.cfg.fluidCapacity < s.smu.fluid from more), if_neg more, Nat.min_eq_left (Nat.le_of_not_lt more)]

/-- T* of a level from 1 to 3 under a configuration (7.1). -/
theorem smokeTarget_getD (c : Configuration) {level : Nat} (known : level ≤ 3) (some_level : level ≠ 0) :
    (smokeTarget c level).getD 0 = Spec.targetAt c level := by
  have three : level = 1 ∨ level = 2 ∨ level = 3 := by omega
  rcases three with e | e | e <;> subst e <;> rfl

/-- A change of SMOKE_TEMPS disarms the dry check where it lowers T* in WARMING or REGULATING (R129, R135). -/
theorem smokeTempsChanged_eq (old : Configuration)
    (heats : s.smu.state.heats = true → s.smu.levelView ≠ 0) (known : s.smu.levelView ≤ 3) :
    smokeTempsChanged ((smokeTarget old s.smu.levelView).getD 0) s = { s with
      smu.dryArmed := s.smu.dryArmed && !((decide (s.smu.state = .warming) || decide (s.smu.state = .regulating))
        && decide (Spec.targetAt s.cfs.working s.smu.levelView < Spec.targetAt old s.smu.levelView)) } := by
  have heating : (decide (s.smu.state = .warming) || decide (s.smu.state = .regulating)) = s.smu.state.heats := by
    cases s.smu.state <;> rfl
  rw [heating]
  unfold smokeTempsChanged
  cases hot : s.smu.state.heats with
  | false => simp
  | true =>
    have level := heats hot
    rw [smokeTarget_getD old known level, State.smokeTarget, smokeTarget_getD _ known level]
    by_cases lower : Spec.targetAt s.cfs.working s.smu.levelView < Spec.targetAt old s.smu.levelView
    · simp [State.cfg, level, lower, disarmDry, onSmu]
    · simp [State.cfg, lower]

/-- The owner of an item takes a change of it as R180 says, but for a reserve that falls in BRIDGE. -/
theorem ownerTakes_eq {i : Item} {e : Nat} {old : Configuration} (changed : s.cfs.working.get i e ≠ old.get i e)
    (stays : ¬(i = .capReserveLevel ∧ Spec.reserveFalls s = true))
    (heats : s.smu.state.heats = true → s.smu.levelView ≠ 0) (known : s.smu.levelView ≤ 3) :
    ownerTakes i e old s = Spec.ownerActs i e old s := by
  have judged (k : Comparator) (other : k ≠ .capReserve) : judgeComparator k s = Spec.judgedAnew k s :=
    judgeComparator_judged s k fun c => other c.1
  cases i with
  | trackPresentLevel => exact judged .trackPresent nofun
  | trackSagLevel => exact judged .trackSag nofun
  | capReserveLevel => exact judgeComparator_judged s .capReserve fun c => stays ⟨rfl, c.2⟩
  | capResumeLevel => exact judged .capResume nofun
  | beatSource => exact beatSourceChanged_eq s fun same => changed (congrArg (fun b : BeatSource => [b.code]) same)
  | keyBindings => exact congrArg (fun q => { s with ssq := q }) (disown_eq s.ssq _)
  | smokeTemps => exact smokeTempsChanged_eq s old heats known
  | fluidCapacity => exact capacityChanged_eq s
  | fanPuffLevel => exact fanPuffChanged_eq s
  | fanBetweenLevel => exact fanLevelChanged_eq s
  | fanIdleLevel => exact fanLevelChanged_eq s
  | sceneKey => exact Record.evaluateScene_eq s
  | _ => rfl

/-! ## A reserve that falls in BRIDGE (R61, R160, R164) -/

/-- Shed stage 4 has reached MOC, or stood there: motion is SUSPENDED with P at 0, and what PWS, CFS and the comparators hold stands, as do
RCU's own fields (R58, R61). -/
structure Suspends (s t : State) : Prop where
  rcu     : t.rcu = { s.rcu with views := t.rcu.views }
  shown   : t.rcu.views.powerState = s.rcu.views.powerState
  pws     : t.pws = s.pws
  cfs     : t.cfs = s.cfs
  reserve : t.bmu.capReserve = s.bmu.capReserve
  power   : t.moc.powerView = s.moc.powerView
  stage   : t.moc.shedView = 4
  state   : t.moc.motionState = .suspended
  ramp    : t.moc.ramp = 0

/-- RCU's own fields stand through two changes of its views. -/
theorem views_trans {r q p : Rcu} {v w : Views} (h : r = { q with views := v }) (k : q = { p with views := w }) :
    r = { p with views := r.views } := by
  rw [h, k]

/-- A mode handed to both bridges leaves the comparators. -/
theorem bothModes_reserve (mode : BridgeMode) :
    (handMode .rear mode (handMode .front mode s)).bmu.capReserve = s.bmu.capReserve := by
  have one {t : Truck} {s u : State} (h : OneBridge t s u) : u.bmu.capReserve = s.bmu.capReserve := by
    rw [h]
    cases t <;> rfl
  exact (one (handMode_oneBridge _ .rear mode)).trans (one (handMode_oneBridge s .front mode))

/-- MOC at shed stage 4, with P, the integrators and the loss brake gone: suspension but for the state, the bridges and a slip (R61). -/
def stilled (s : State) : State := zeroIntegrators (onMoc (fun m => { m with shedView := 4, ramp := 0, lossBrake := false }) s)

/-- Suspension (R61): the state becomes SUSPENDED, both bridges coast, and a slip ends. -/
theorem suspendMotion_eq :
    suspendMotion s = endSlip (handMode .rear .coast (handMode .front .coast (Spec.motionBecomes .suspended (stilled s)))) := by
  have called : Spec.motionOf (stilled s).moc = .suspended := if_pos rfl
  rw [← called, ← evaluateMotion_eq]
  rfl

/-- Suspension stays with MOC and what it publishes. -/
theorem suspendMotion_turns : MotionTurns 2 s (suspendMotion s) := by
  have stills : MotionTurns 0 s (stilled s) := ⟨rfl, rfl, rfl, rfl, rfl, rfl, ⟨rfl, rfl⟩, Nat.le_refl _, rfl, fun _ => rfl⟩
  have becomes := stills.trans (motionBecomes_turns (stilled s) .suspended)
  obtain ⟨coasts, _⟩ := bothModes_leaves (Spec.motionBecomes .suspended (stilled s)) .coast
  rw [suspendMotion_eq]
  exact (becomes.trans coasts).trans (endSlip_turns _)

/-- What suspension is to MOC (R61). -/
theorem suspendMotion_moc :
    (suspendMotion s).moc = { (stilled s).moc with
      motionState := .suspended, slipState := .grip, slipCount := 0
      slipCap := if s.moc.slipState = .grip then s.moc.slipCap else 1023 } := by
  obtain ⟨moc, _⟩ := motionBecomes_takes (stilled s) .suspended
  obtain ⟨_, coasts, _⟩ := bothModes_leaves (Spec.motionBecomes .suspended (stilled s)) .coast
  rw [suspendMotion_eq, endSlip_moc, coasts, moc]
  rfl

/-- Suspension leaves the comparators. -/
theorem suspendMotion_reserve : (suspendMotion s).bmu.capReserve = s.bmu.capReserve := by
  obtain ⟨_, bmu, _⟩ := motionBecomes_takes (stilled s) .suspended
  rw [suspendMotion_eq, endSlip_bmu, bothModes_reserve, bmu]
  rfl

/-- Suspension (R61). -/
theorem suspendMotion_suspends : Suspends s (suspendMotion s) where
  rcu     := (suspendMotion_turns s).rcu
  shown   := congrArg DriveCore.power (core_suspendMotion s)
  pws     := (suspendMotion_turns s).pws
  cfs     := (suspendMotion_turns s).cfs
  reserve := suspendMotion_reserve s
  power   := (congrArg Moc.powerView (suspendMotion_moc s) :)
  stage   := (congrArg Moc.shedView (suspendMotion_moc s) :)
  state   := (congrArg Moc.motionState (suspendMotion_moc s) :)
  ramp    := (congrArg Moc.ramp (suspendMotion_moc s) :)

/-- SMU's taking of a shed stage leaves the blocks that a transition of the smoke state leaves (R125). -/
theorem smokeTakeShed_stays (stage : Nat) : SmokeStays s (smokeTakeShed stage s) := by
  have seen := smokeStays_onSmu (fun u => { u with shedView := stage }) s
  unfold smokeTakeShed
  dsimp only
  split
  · split
    · exact seen.trans (enterSmoke_stays _ _)
    · exact seen
  · split
    · split
      · exact seen.trans (enterSmoke_stays _ _)
      · exact seen
    · split
      · exact seen.trans (smokeStays_setHeater _ _)
      · exact seen

/-- The consumers take shed stage 4 where MOC did not hold it (R61, R164). -/
theorem consumeStage_suspends (moving : s.moc.shedView ≠ 4) : Suspends s (consumeStage 4 s) := by
  have suspends := suspendMotion_suspends { s with ssq := s.ssq.takeShed 4 }
  have handed : motionTakeShed 4 { s with ssq := s.ssq.takeShed 4 } = suspendMotion { s with ssq := s.ssq.takeShed 4 } :=
    (if_neg moving).trans (if_pos rfl)
  have smoke := smokeTakeShed_stays (motionTakeShed 4 { s with ssq := s.ssq.takeShed 4 }) 4
  rw [handed] at smoke
  have taken : consumeStage 4 s = onLtc (·.takeShed 4) (smokeTakeShed 4 (suspendMotion { s with ssq := s.ssq.takeShed 4 })) :=
    congrArg (fun u => onLtc (·.takeShed 4) (smokeTakeShed 4 u)) handed
  obtain ⟨moc, bmu, _, _, pws, cfs, _⟩ := smoke.blocks
  rw [taken]
  exact {
    rcu := views_trans smoke.rcu suspends.rcu
    shown := (congrArg (fun r => r.views.powerState) smoke.rcu).trans suspends.shown
    pws := pws.trans suspends.pws
    cfs := cfs.trans suspends.cfs
    reserve := (congrArg Bmu.capReserve bmu).trans suspends.reserve
    power := (congrArg Moc.powerView moc).trans suspends.power
    stage := (congrArg Moc.shedView moc).trans suspends.stage
    state := (congrArg Moc.motionState moc).trans suspends.state
    ramp := (congrArg Moc.ramp moc).trans suspends.ramp }

/-- Shed stage 4 formed anew where MOC holds PWS's stage, and is at rest if that is 4 already (R164). -/
theorem formStage_suspends (four : s.pws.stageNow = 4) (shown : s.moc.shedView = s.pws.shedStage)
    (rest : s.moc.shedView = 4 → s.moc.motionState = .suspended ∧ s.moc.ramp = 0) :
    Suspends { s with pws.shedStage := 4 } (formStage s) := by
  rcases formStage_cases s with ⟨held, e⟩ | ⟨changed, e⟩ <;> rw [four] at *
  · obtain ⟨suspended, still⟩ := rest (shown.trans held.symm)
    rw [e, held]
    exact ⟨rfl, rfl, rfl, rfl, rfl, rfl, shown.trans held.symm, suspended, still⟩
  · have suspends := consumeStage_suspends (pushNotice (.shedStage 4) (publish (fun v => { v with shedStage := 4 })
      (onPws (fun p => { p with shedStage := 4 }) s))) fun stage => changed (stage.symm.trans shown)
    rw [e]
    exact {
      rcu := views_trans suspends.rcu rfl
      shown := suspends.shown
      pws := suspends.pws
      cfs := suspends.cfs
      reserve := suspends.reserve
      power := suspends.power
      stage := suspends.stage
      state := suspends.state
      ramp := suspends.ramp }

/-- HALT as PWS, RCU, MOC and CFS hold it, with the timers and the settle phase at their end, before the stage is formed (R160, R162,
R166). -/
def haltHeld (s : State) : State :=
  { s with
    pws.powerState := .halt, pws.bridgeTimer := .stopped, pws.settleTimer := .stopped, pws.settlePhase := .none
    pws.sagTimer := .stopped, pws.powerPart := 4
    rcu.views.powerState := .halt, moc.powerView := .halt, cfs.powerView := .halt }

/-- PWS enters HALT with a notice, and the stage is formed anew (R160, R162). -/
theorem enterHalt_eq : enterHalt s = formStage (pushNotice (.powerState .halt) (haltHeld s)) := by
  unfold enterHalt enterPower
  dsimp only
  rw [if_neg nofun]
  rfl

/-- PWS enters HALT, from contributions and a stage as every command leaves them (R160, R162, R164). -/
theorem enterHalt_suspends (parts : s.pws.sagPart ≤ 3 ∧ s.pws.thermalPart ≤ 4) (shown : s.moc.shedView = s.pws.shedStage)
    (rest : s.moc.shedView = 4 → s.moc.motionState = .suspended ∧ s.moc.ramp = 0) :
    Suspends { pushNotice (.powerState .halt) (haltHeld s) with pws.shedStage := 4 } (enterHalt s) := by
  obtain ⟨sag, thermal⟩ := parts
  have four : max 4 (max s.pws.sagPart s.pws.thermalPart) = 4 := by omega
  rw [enterHalt_eq]
  exact formStage_suspends _ four shown rest

/-- A reserve that falls in BRIDGE, as its comparator is judged anew, ends BRIDGE (R89, R160). -/
theorem reserve_falls (falls : Spec.reserveFalls s = true) :
    judgeComparator .capReserve s = enterHalt { s with bmu.capReserve := false, pws.reserveView := false } := by
  obtain ⟨runs, high, low, bridge⟩ := (reserveFalls_iff s).mp falls
  have changes : ¬(s.bmu.running = false ∨ Spec.outputNow .capReserve s = s.bmu.output .capReserve) := by
    rintro (still | same)
    · rw [runs] at still
      cases still
    · have held : Spec.outputNow .capReserve s = s.bmu.capReserve := same
      rw [low, high] at held
      cases held
  rw [judgeComparator_eq, if_neg changes, low]
  exact if_pos ⟨bridge, rfl⟩

/-! ## The checks of R179 -/

/-- An entry byte suits an item as R178 says. -/
theorem entryFits_eq (i : Item) (entry : Byte) : i.entryFits entry = Spec.hasEntry i entry := by
  unfold Item.entryFits Spec.hasEntry
  cases i.entries with
  | none => exact Bool.beq_eq_decide_eq _ _
  | some range => exact Bool.decide_and _ _

/-- Bytes that spell an item's fields are as many as the fields take, and give each field its number. -/
theorem splitFields_length {fs : List FieldSpec} {bs : List Byte} {ns : List Nat} (h : splitFields fs bs = some ns) :
    bs.length = (fs.map FieldSpec.size).sum ∧ ns.length = fs.length := by
  induction fs generalizing bs ns with
  | nil =>
    cases bs with
    | nil =>
      cases h
      exact ⟨rfl, rfl⟩
    | cons b bs => cases h
  | cons f fs ih =>
    unfold splitFields at h
    split at h
    · cases h
    · rename_i long
      cases rest : splitFields fs (bs.drop f.size) with
      | none => rw [rest] at h; cases h
      | some ms =>
        rw [rest] at h
        cases h
        obtain ⟨taken, numbers⟩ := ih rest
        simp only [List.length_drop, List.map_cons, List.sum_cons, List.length_cons] at taken ⊢
        omega

/-- A value of another length spells no fields of an item. -/
theorem splitFields_wrong {i : Item} {value : List Byte} (wrong : value.length ≠ i.size) : splitFields i.fields value = none := by
  cases spelt : splitFields i.fields value with
  | none => rfl
  | some ns => exact absurd (splitFields_length spelt).1 wrong

/-- An item that can be written, with an entry of its own, takes a value (checks 1 to 3 of R179). -/
theorem serveConfigWrite_writable {item entry : Byte} {i : Item} (writable : Spec.writable item entry = some i) (value : List Byte) :
    serveConfigWrite item entry value s
      = (splitFields i.fields value).elim (refusal .badValue, s) fun ns => writeItem i entry.toNat ns s := by
  unfold Spec.writable at writable
  unfold serveConfigWrite
  cases named : Item.ofByte item with
  | none => rw [named] at writable; cases writable
  | some j =>
    rw [named] at writable
    dsimp only at writable
    split at writable
    · cases writable
    · rename_i checked
      cases writable
      obtain ⟨other, suits⟩ := not_or.mp checked
      dsimp only
      rw [if_neg other, entryFits_eq, if_neg (by simpa using suits)]
      cases splitFields i.fields value <;> rfl

/-- An item below STORE_STATUS that cannot be written with its entry has no such entry (check 3 of R179). -/
theorem serveConfigWrite_unwritable {item entry : Byte} (low : item.toNat < 53) (unwritable : Spec.writable item entry = none)
    (value : List Byte) : serveConfigWrite item entry value s = (refusal .badValue, s) := by
  unfold Spec.writable at unwritable
  unfold serveConfigWrite
  rcases itemOfByte_cases item with ⟨high, _⟩ | ⟨rfl, _⟩ | ⟨_, i, other, named⟩
  · exact absurd low (by omega)
  · exact absurd low (by decide)
  · rw [named] at unwritable ⊢
    dsimp only at unwritable ⊢
    have unsuited : Spec.hasEntry i entry = false := by
      by_contra suits
      rw [if_neg (not_or.mpr ⟨other, suits⟩)] at unwritable
      cases unwritable
    rw [if_neg other, entryFits_eq, if_pos (by simpa using unsuited)]

/-- Checks 4 and 5 of R179 refuse a write. -/
theorem writeItem_refuses {i : Item} {e : Nat} {ns : List Nat}
    (fails : (List.zipWith FieldSpec.legal i.fields ns).all id = false ∨ (s.cfs.working.put i e ns).consistent i e = false) :
    writeItem i e ns s = (refusal .badValue, s) := by
  unfold writeItem
  rcases fails with illegal | inconsistent
  · rw [if_pos (by simpa using illegal)]
  · split
    · rfl
    · exact if_pos (by simpa [State.cfg] using inconsistent)

/-- The store holds a new value of an item, with DIRTY and the mark of a commit in flight (R180). -/
def stored (i : Item) (e : Nat) (ns : List Nat) (s : State) : State :=
  { s with
    cfs.working := s.cfs.working.put i e (takenFields i ns), cfs.dirty := true
    cfs.writtenDuring := s.cfs.writtenDuring || s.cfs.writing }

/-- The answer to an applied CONFIG_WRITE (R179). -/
def writtenAnswer (i : Item) (e : Nat) (ns : List Nat) (s : State) : Answer :=
  { code := .done
    flags := { clamped := decide (takenFields i ns ≠ ns) }
    value := if i.answersPrior then s.cfs.working.encode i e else [0] }

/-- A write that passes checks 4 and 5 is stored, and a new value is handed to the item's owner (R179, R180). -/
theorem writeItem_applies {i : Item} {e : Nat} {ns : List Nat} (legal : (List.zipWith FieldSpec.legal i.fields ns).all id = true)
    (consistent : (s.cfs.working.put i e ns).consistent i e = true) :
    writeItem i e ns s = (writtenAnswer i e ns s,
      if (stored i e ns s).cfs.working.get i e = s.cfs.working.get i e then stored i e ns s
      else ownerTakes i e s.cfs.working (stored i e ns s)) := by
  unfold writeItem
  rw [if_neg (by simpa using legal), if_neg (by simpa [State.cfg] using consistent)]
  rfl

end Sys2Proof.Laws

namespace Sys2Proof.Record

open Sys2Proof.Machine Sys2Proof.Laws

/-- A CONFIG_WRITE whose source may configure goes by its owner, the store. -/
theorem configWrite_permitted {h : Head} {s : State} (may : Spec.mayConfigure s.cfs.working h.source = true) (item entry : Byte)
    (value : List Byte) : ∀ id, h.source = .throttle id → radioDenies s.cfg id (Body.configWrite item entry value).kind = false := by
  intro id src
  rw [src] at may
  simp [radioDenies, Body.kind, dispatches_eq, State.cfg, may]

/-- A CONFIG_WRITE that the store refuses. -/
theorem configWrite_refuses {h : Head} {item entry : Byte} {value : List Byte} {s : State} {code : Code}
    (arr : Spec.Arrives h (2 + value.length) s) (may : Spec.mayConfigure s.cfs.working h.source = true)
    (serves : serveConfigWrite item entry value s = (refusal code, s)) (refuses : code.refuses = true) :
    exec (.configWrite h item entry value) s = .next (Spec.refused h 0x31 code s) :=
  exec_owner_refuses (b := .configWrite item entry value) rfl arr nofun (configWrite_permitted may item entry value) serves refuses

/-- A CONFIG_WRITE that the store accepts. -/
theorem configWrite_accepts {h : Head} {item entry : Byte} {value : List Byte} {s t : State} {a : Answer}
    (arr : Spec.Arrives h (2 + value.length) s) (may : Spec.mayConfigure s.cfs.working h.source = true)
    (serves : serveConfigWrite item entry value s = (a, t)) (accepts : a.code.refuses = false) :
    exec (.configWrite h item entry value) s = .next (Spec.accepted h 0x31 a t) :=
  exec_owner_accepts (b := .configWrite item entry value) rfl arr nofun (configWrite_permitted may item entry value) serves accepts

/-- A CONFIG_WRITE that passes every check, as one event (R179, R180). -/
theorem configWrite_applies {h : Head} {item entry : Byte} {value : List Byte} {s : State} {i : Item} {ns : List Nat}
    (arr : Spec.Arrives h (2 + value.length) s) (may : Spec.mayConfigure s.cfs.working h.source = true)
    (writable : Spec.writable item entry = some i) (spelt : splitFields i.fields value = some ns)
    (legal : (List.zipWith FieldSpec.legal i.fields ns).all id = true)
    (consistent : (s.cfs.working.put i entry.toNat ns).consistent i entry.toNat = true) :
    exec (.configWrite h item entry value) s = .next (Spec.accepted h 0x31 (writtenAnswer i entry.toNat ns s)
      (if (stored i entry.toNat ns s).cfs.working.get i entry.toNat = s.cfs.working.get i entry.toNat then stored i entry.toNat ns s
       else ownerTakes i entry.toNat s.cfs.working (stored i entry.toNat ns s))) := by
  refine configWrite_accepts arr may ?_ rfl
  rw [serveConfigWrite_writable s writable value, spelt]
  exact writeItem_applies s legal consistent

/-- An accepted request's answer and lease leave MOC, BMU, PWS, CFS and all of RCU but the lease. -/
theorem accepted_frame (h : Head) (kind : Byte) (a : Answer) (s : State) :
    (Spec.accepted h kind a s).rcu = { s.rcu with lease := (Spec.leased h.source s).rcu.lease }
    ∧ (Spec.accepted h kind a s).moc = s.moc ∧ (Spec.accepted h kind a s).bmu = s.bmu
    ∧ (Spec.accepted h kind a s).pws = s.pws ∧ (Spec.accepted h kind a s).cfs = s.cfs := by
  obtain ⟨rcu, moc, bmu, _, _, _, _, pws, _, cfs⟩ := answered_frame h kind a (Spec.leased h.source s)
  have stays : (Spec.leased h.source s).moc = s.moc ∧ (Spec.leased h.source s).bmu = s.bmu
      ∧ (Spec.leased h.source s).pws = s.pws ∧ (Spec.leased h.source s).cfs = s.cfs := by
    rw [leased_eq]
    exact ⟨rfl, rfl, rfl, rfl⟩
  obtain ⟨lMoc, lBmu, lPws, lCfs⟩ := stays
  exact ⟨rcu.trans (congrArg State.rcu (leased_eq h.source s)), moc.trans lMoc, bmu.trans lBmu, pws.trans lPws, cfs.trans lCfs⟩

/-- The answer to an applied CAP_RESERVE_LEVEL is its prior value; a choice is never clamped (R179, R190). -/
theorem writtenAnswer_reserve {e : Nat} {ns : List Nat} (one : ns.length = 1) (s : State) :
    writtenAnswer .capReserveLevel e ns s = { code := .done, value := [Spec.byte s.cfs.working.capReserveLevel.val] } := by
  obtain ⟨n, rfl⟩ := List.length_eq_one_iff.mp one
  have taken : takenFields .capReserveLevel [n] = [n] := rfl
  unfold writtenAnswer
  rw [taken, decide_eq_false (not_not_intro rfl)]
  rfl

/-- A CAP_RESERVE_LEVEL above the capacitor in BRIDGE: HALT, stage 4 and SUSPENDED, with the answer and the store as of any write (R61, R89,
R160). -/
theorem reserveWrite_halts {h : Head} {e : Nat} {ns : List Nat} {s : State} (one : ns.length = 1) (stage : StageInv s) (rest : RestInv s)
    (falls : Spec.reserveFalls (stored .capReserveLevel e ns s) = true) :
    let t := Spec.accepted h 0x31 (writtenAnswer .capReserveLevel e ns s)
      (judgeComparator .capReserve (stored .capReserveLevel e ns s))
    t.cfs = { (stored .capReserveLevel e ns s).cfs with powerView := .halt }
    ∧ t.bmu.capReserve = false ∧ t.pws.reserveView = false
    ∧ t.pws.powerState = .halt ∧ t.rcu.views.powerState = .halt ∧ t.moc.powerView = .halt
    ∧ t.pws.bridgeTimer = .stopped ∧ t.pws.settleTimer = .stopped ∧ t.pws.settlePhase = .none
    ∧ t.pws.powerPart = 4 ∧ t.pws.shedStage = 4 ∧ t.moc.shedView = 4
    ∧ t.moc.motionState = .suspended ∧ t.moc.ramp = 0
    ∧ (h.source = .host → h.control.getLsbD 0 = false →
        t.hpt.out = [0x00, 0x00, h.tag, 0x00, 0x00, 0x01, Spec.byte s.cfs.working.capReserveLevel.val])
    ∧ t.rcu.targetNotch = s.rcu.targetNotch ∧ t.rcu.keys = s.rcu.keys ∧ t.rcu.holder = s.rcu.holder := by
  intro t
  have thermal : s.pws.thermalPart ≤ 4 := by have := stage.thermal; omega
  have suspends := enterHalt_suspends { stored .capReserveLevel e ns s with bmu.capReserve := false, pws.reserveView := false }
    ⟨stage.sag, thermal⟩ stage.stageMoc fun four => ⟨rest.suspended.mpr four, rest.rest (.inr four)⟩
  rw [← reserve_falls _ falls] at suspends
  obtain ⟨rcu, shown, pws, cfs, reserve, power, stageMoc, state, ramp⟩ := suspends
  obtain ⟨aRcu, aMoc, aBmu, aPws, aCfs⟩ := accepted_frame h 0x31 (writtenAnswer .capReserveLevel e ns s)
    (judgeComparator .capReserve (stored .capReserveLevel e ns s))
  rw [rcu] at aRcu
  rw [pws] at aPws
  rw [cfs] at aCfs
  rw [aRcu, aMoc, aBmu, aPws, aCfs]
  refine ⟨rfl, reserve, rfl, rfl, shown, power, rfl, rfl, rfl, rfl, rfl, stageMoc, state, ramp, fun src live => ?_, rfl, rfl, rfl⟩
  obtain ⟨_, hpt⟩ := answered_host src 0x31 (a := writtenAnswer .capReserveLevel e ns s) rfl
    (Spec.leased h.source (judgeComparator .capReserve (stored .capReserveLevel e ns s)))
  refine (congrArg Hpt.out hpt).trans ?_
  rw [live, writtenAnswer_reserve one]
  rfl

/-- Settles O26: the checks of R179 in their order, then the store and the item's owner, or HALT where the reserve falls in BRIDGE. -/
theorem configWriteSetsTheItem : Obligations.ConfigWriteSetsTheItem := by
  intro h item entry value s arr
  refine ⟨fun mayNot => ?_, fun may => ⟨fun beyond => ?_, fun status => ?_, fun low unwritable => ?_, fun i writable =>
    ⟨fun wrong => ?_, fun ns spelt => ⟨fun fails => ?_, fun legal consistent => ⟨fun stays smoke known => ?_,
      fun changed reserve falls stage rest => ?_⟩⟩⟩⟩⟩
  · cases src : h.source with
    | host => exact absurd (src ▸ mayNot : Spec.mayConfigure s.cfs.working .host = false) nofun
    | throttle id =>
      rw [src] at mayNot
      exact exec_denied (b := .configWrite item entry value) rfl arr src
        (by simp [radioDenies, Body.kind, dispatches_eq, State.cfg, mayNot])
  · refine configWrite_refuses arr may ?_ rfl
    rcases itemOfByte_cases item with ⟨_, named⟩ | ⟨rfl, _⟩ | ⟨low, _⟩
    · simp only [serveConfigWrite, named]
    · exact absurd beyond (by decide)
    · omega
  · subst status
    exact configWrite_refuses arr may rfl rfl
  · exact configWrite_refuses arr may (serveConfigWrite_unwritable s low unwritable value) rfl
  · refine configWrite_refuses arr may ?_ rfl
    rw [serveConfigWrite_writable s writable value, splitFields_wrong wrong]
    rfl
  · refine configWrite_refuses arr may ?_ rfl
    rw [serveConfigWrite_writable s writable value, spelt]
    exact writeItem_refuses s fails
  · refine (configWrite_applies arr may writable spelt legal consistent).trans
      (congrArg (fun u => Host.Outcome.next (Spec.accepted h 0x31 (writtenAnswer i entry.toNat ns s) u)) ?_)
    by_cases same : (stored i entry.toNat ns s).cfs.working.get i entry.toNat = s.cfs.working.get i entry.toNat
    · refine (if_pos same).trans (if_neg ?_).symm
      exact fun changed => of_decide_eq_true changed same
    · have changed := decide_eq_true same
      refine (if_neg same).trans (Eq.trans ?_ (if_pos changed).symm)
      exact ownerTakes_eq _ same (fun c => stays ⟨changed, c⟩) (fun hot => (smoke.stage hot).2) known
  · subst reserve
    have differs : (stored .capReserveLevel entry.toNat ns s).cfs.working.get .capReserveLevel entry.toNat
        ≠ s.cfs.working.get .capReserveLevel entry.toNat := of_decide_eq_true changed
    have applied := configWrite_applies arr may writable spelt legal consistent
    rw [if_neg differs] at applied
    exact ⟨_, applied, reserveWrite_halts (splitFields_length spelt).2 stage rest falls⟩

end Sys2Proof.Record
end

section
/-! SUPPORT. The part of the state that the shed stage, the rest of the train and the ranges of the drive and the sound turn on, and every
operation of the blocks that leaves it. -/

namespace Sys2Proof.Laws

open Sys2Proof.Machine

/-- The power state and the shed stage with its contributions, in every block that holds them (R162, R164, R166). -/
structure StageCore where
  power       : PowerState
  powerRcu    : PowerState
  powerMoc    : PowerState
  powerCfs    : PowerState
  powerPart   : Nat
  sagPart     : Nat
  thermalPart : Nat
  shedStage   : Nat
  stageRcu    : Nat
  stageMoc    : Nat
  stageSmu    : Nat
  stageLtc    : Nat
  stageSsq    : Nat

/-- The stage core of a state. -/
def stageCore (s : State) : StageCore where
  power := s.pws.powerState
  powerRcu := s.rcu.views.powerState
  powerMoc := s.moc.powerView
  powerCfs := s.cfs.powerView
  powerPart := s.pws.powerPart
  sagPart := s.pws.sagPart
  thermalPart := s.pws.thermalPart
  shedStage := s.pws.shedStage
  stageRcu := s.rcu.views.shedStage
  stageMoc := s.moc.shedView
  stageSmu := s.smu.shedView
  stageLtc := s.ltc.shedView
  stageSsq := s.ssq.shedView

/-- What the stage, the rest and the ranges turn on: the stage core, MOC, SSQ, the duty shadows of the bridges, and the duties and sound
counters that RCU shows. -/
structure SafeCore where
  stage   : StageCore
  moc     : Moc
  ssq     : Ssq
  shadows : Nat × Nat
  duties  : Nat × Nat
  counts  : Nat × Nat

/-- The safe core of a state. -/
def safeCore (s : State) : SafeCore where
  stage := stageCore s
  moc := s.moc
  ssq := s.ssq
  shadows := (s.bmu.front.dutyShadow, s.bmu.rear.dutyShadow)
  duties := (s.rcu.views.dutyF, s.rcu.views.dutyR)
  counts := (s.rcu.views.soundClips, s.rcu.views.soundUnderruns)

variable (s : State)

/-! ## Updates of components -/

@[simp] theorem safe_onBtg (f : Btg → Btg) : safeCore (onBtg f s) = safeCore s := rfl
@[simp] theorem safe_onRif (f : Rif → Rif) : safeCore (onRif f s) = safeCore s := rfl
@[simp] theorem safe_onHpt (f : Hpt → Hpt) : safeCore (onHpt f s) = safeCore s := rfl
@[simp] theorem safe_bmu_conversions (l : List Channel) : safeCore { s with bmu := { s.bmu with conversions := l } } = safeCore s := rfl
@[simp] theorem safe_reach (due : Time) : safeCore (s.reach due) = safeCore s := rfl
@[simp] theorem safe_pushNotice (n : Notice) : safeCore (pushNotice n s) = safeCore s := rfl
@[simp] theorem safe_pushCompletion (k : Kind) (tag : Byte) (c : Code) (v : Word16) :
    safeCore (pushCompletion k tag c v s) = safeCore s := rfl
@[simp] theorem safe_countRadio (f : RadioCounts → RadioCounts) : safeCore (countRadio f s) = safeCore s := rfl
@[simp] theorem safe_takeCommand (o : Output) (n : Nat) : safeCore (takeCommand o n s) = safeCore s := rfl
@[simp] theorem safe_mapWatch (o : Output) (f : Watch → Watch) : safeCore (mapWatch o f s) = safeCore s := rfl

/-- A change of RCU's own fields leaves the core. -/
theorem safe_onRcu {f : Rcu → Rcu} (h : (f s.rcu).views = s.rcu.views) : safeCore (onRcu f s) = safeCore s := by
  unfold safeCore stageCore
  simp [h]

/-- A change of LTC that leaves its shed view leaves the core. -/
theorem safe_onLtc {f : Ltc → Ltc} (h : (f s.ltc).shedView = s.ltc.shedView) : safeCore (onLtc f s) = safeCore s := by
  unfold safeCore stageCore
  simp [h]

/-- A change of SMU that leaves its shed view leaves the core. -/
theorem safe_onSmu {f : Smu → Smu} (h : (f s.smu).shedView = s.smu.shedView) : safeCore (onSmu f s) = safeCore s := by
  unfold safeCore stageCore
  simp [h]

/-- A change of BMU that leaves the duty shadows leaves the core. -/
theorem safe_onBmu {f : Bmu → Bmu} (hf : (f s.bmu).front.dutyShadow = s.bmu.front.dutyShadow)
    (hr : (f s.bmu).rear.dutyShadow = s.bmu.rear.dutyShadow) : safeCore (onBmu f s) = safeCore s := by
  unfold safeCore stageCore
  simp [hf, hr]

/-! ## Shared operations -/

@[simp] theorem safe_startConversion : safeCore (startConversion s) = safeCore s := by
  rcases startConversion_cases s with e | ⟨_, _, _, _, e⟩ <;> rw [e]
  rfl

@[simp] theorem safe_appendChannel (ch : Channel) : safeCore (appendChannel ch s) = safeCore s := by
  rcases appendChannel_cases s ch with ⟨_, e⟩ | ⟨_, e⟩ <;> rw [e]
  rw [safe_startConversion, safe_bmu_conversions]

@[simp] theorem safe_appendLight : safeCore (appendLight s) = safeCore s := by
  rw [appendLight, safe_appendChannel]
  rfl

@[simp] theorem safe_completeSlots (v : Channel → Option Int) : safeCore (completeSlots v s) = safeCore s :=
  foldl_keeps (P := fun t => safeCore t = safeCore s) (fun t _ h => (safe_pushCompletion t _ _ _ _).trans h) _ (onBmu _ s)
    (safe_onBmu s rfl rfl)

/-! ## The lights (chapter 8) -/

@[simp] theorem safe_enterRow (r : SceneRow) : safeCore (enterRow r s) = safeCore s := by
  unfold enterRow
  split <;> rfl

@[simp] theorem safe_evaluateScene : safeCore (evaluateScene s) = safeCore s := by
  unfold evaluateScene
  split
  · simp only [apply_ite safeCore, safe_enterRow, ite_self]
  · rfl

@[simp] theorem safe_endRow : safeCore (endRow s) = safeCore s := by rw [endRow, safe_enterRow, safe_pushNotice]

@[simp] theorem safe_advanceScene : safeCore (advanceScene s) = safeCore s := by
  have next (u : State) : safeCore (nextStep u) = safeCore u := by
    unfold nextStep
    dsimp only
    split
    · exact safe_endRow u
    · split
      · exact safe_endRow u
      · rfl
  unfold advanceScene
  split
  · dsimp only
    split
    · exact next _
    · rfl
  · rfl

@[simp] theorem safe_lightsTakeKeys (k : KeySet) : safeCore (lightsTakeKeys k s) = safeCore s := by
  rw [lightsTakeKeys, safe_evaluateScene]
  rfl

@[simp] theorem safe_lightsTakeMotion (n : Nat) (d : Direction) : safeCore (lightsTakeMotion n d s) = safeCore s := rfl

@[simp] theorem safe_lightsTakeFault (n : Fin 12) (st : FaultState) : safeCore (lightsTakeFault n st s) = safeCore s := rfl

@[simp] theorem safe_lightsTakeBeat : safeCore (lightsTakeBeat s) = safeCore s := rfl

@[simp] theorem safe_lightFrame : safeCore (lightFrame s) = safeCore s := by
  have flash (l : Ltc) : l.advanceFlash.shedView = l.shedView := by
    unfold Ltc.advanceFlash
    split <;> rfl
  have hands (u : State) : safeCore (handLevels u) = safeCore u :=
    foldl_keeps (P := fun t => safeCore t = safeCore u) (fun t _ h => (safe_takeCommand t _ _).trans h) allLights u rfl
  unfold lightFrame
  refine (safe_advanceScene _).trans ((safe_onLtc _ ?_).trans ?_)
  · exact flash _
  · rw [hands]
    rfl

/-! ## The smoke unit (chapter 7) -/

@[simp] theorem safe_setHeater (n : Nat) : safeCore (setHeater n s) = safeCore s := rfl

@[simp] theorem safe_setFan (n : Nat) : safeCore (setFan n s) = safeCore s := rfl

@[simp] theorem safe_fanBetween : safeCore (fanBetween s) = safeCore s := rfl

@[simp] theorem safe_disarmDry : safeCore (disarmDry s) = safeCore s := rfl

@[simp] theorem safe_setFluid (n : Nat) : safeCore (setFluid n s) = safeCore s := rfl

@[simp] theorem safe_enterSmoke (st : SmokeState) : safeCore (enterSmoke st s) = safeCore s := by
  have stops (u : State) : safeCore (stopPuff u) = safeCore u := rfl
  have shown : safeCore (publish (fun v => { v with smokeState := st }) (onSmu (fun u => { u with state := st }) s)) = safeCore s := rfl
  simp only [enterSmoke, apply_ite safeCore, safe_fanBetween, safe_setFan, stops, safe_setHeater, safe_pushNotice, shown, ite_self]

@[simp] theorem safe_smokeTakeLevel (n : Nat) : safeCore (smokeTakeLevel n s) = safeCore s := by
  have level : safeCore (onSmu (fun u => { u with levelView := n }) s) = safeCore s := rfl
  unfold smokeTakeLevel
  dsimp only
  split <;> simp only [apply_ite safeCore, safe_enterSmoke, safe_disarmDry, level, ite_self]

@[simp] theorem safe_smokeTakeFault (r : FaultRecord) : safeCore (smokeTakeFault r s) = safeCore s := by
  have views : safeCore (onSmu (fun u => { u with faultView := r.state, shortView := r.shorted }) s) = safeCore s := rfl
  simp only [smokeTakeFault, apply_ite safeCore, safe_enterSmoke, views, ite_self]

@[simp] theorem safe_smokeTakeMotion (m : MotionState) : safeCore (smokeTakeMotion m s) = safeCore s := by
  have view : safeCore (onSmu (fun u => { u with motionView := m }) s) = safeCore s := rfl
  simp only [smokeTakeMotion, apply_ite safeCore, safe_fanBetween, view, ite_self]

@[simp] theorem safe_smokeTakeBeat : safeCore (smokeTakeBeat s) = safeCore s := by
  unfold smokeTakeBeat
  split <;> rfl

@[simp] theorem safe_regulationStep (n : Nat) : safeCore (regulationStep n s) = safeCore s := by
  have view : safeCore (onSmu (fun u => { u with tView := n }) s) = safeCore s := rfl
  have arms (u : State) : safeCore (onSmu (fun x => { x with dryArmed := true }) u) = safeCore u := rfl
  have heat (u : State) : safeCore (regulateHeat u) = safeCore u := by
    simp only [regulateHeat, safe_setHeater, apply_ite safeCore, safe_enterSmoke, ite_self]
  have dry (u : State) : safeCore (regulateDry u) = safeCore u := by
    simp only [regulateDry, apply_ite safeCore, safe_enterSmoke, heat, arms, ite_self]
  have debit (u : State) : safeCore (debitFluid u) = safeCore u := by
    simp only [debitFluid, apply_ite safeCore, safe_setFluid, ite_self]
  simp only [regulationStep, apply_ite safeCore, safe_enterSmoke, dry, debit, view, ite_self]

/-! ## The bridges (4.2 to 4.4) -/

/-- A change of one bridge that leaves its duty shadow leaves the core. -/
theorem OneBridge.safe {t : Truck} {s u : State} (h : OneBridge t s u)
    (duty : (u.bmu.bridge t).dutyShadow = (s.bmu.bridge t).dutyShadow) : safeCore u = safeCore s := by
  rw [h]
  cases t
  · exact congrArg (fun n => { safeCore s with shadows := (n, s.bmu.rear.dutyShadow) }) duty
  · exact congrArg (fun n => { safeCore s with shadows := (s.bmu.front.dutyShadow, n) }) duty

/-- A bridge replaced by one of the same duty shadow leaves the core. -/
theorem safe_setBridge {t : Truck} {b : Bridge} (duty : b.dutyShadow = (s.bmu.bridge t).dutyShadow) :
    safeCore (setBridge t b s) = safeCore s :=
  (OneBridge.set s t b).safe (by rw [setBridge_bmu, bridge_setBridge, if_pos rfl, duty])

@[simp] theorem safe_cutDrive (t : Truck) : safeCore (cutDrive t s) = safeCore s :=
  (cutDrive_oneBridge s t).safe (cutDrive_bridge s t).2

@[simp] theorem safe_handMode (t : Truck) (m : BridgeMode) : safeCore (handMode t m s) = safeCore s :=
  (handMode_oneBridge s t m).safe (handMode_shadows s t m).2

@[simp] theorem safe_holdBridge (t : Truck) : safeCore (holdBridge t s) = safeCore s := by
  obtain ⟨_, _, _, duty, _⟩ := switchOff_bridge s t
  exact (safe_setBridge (switchOff t s) (b := { (switchOff t s).bmu.bridge t with heldOff := true }) rfl).trans ((switchOff_oneBridge s t).safe duty)

@[simp] theorem safe_releaseBridge (t : Truck) : safeCore (releaseBridge t s) = safeCore s := safe_setBridge s rfl

/-- A bridge keeps its duty shadow, whatever it does from a period start on (R75). -/
theorem chooseOutput_dutyShadow (b : Bridge) (g : GapState) (d : Direction) (resumes : Bool) (now : Time) :
    (b.chooseOutput g d resumes now).dutyShadow = b.dutyShadow := by
  unfold Bridge.chooseOutput
  split
  · rfl
  · split
    · rfl
    · split <;> rfl
    · unfold Bridge.drive
      dsimp only
      split <;> rfl

@[simp] theorem safe_periodStart : safeCore (periodStart s) = safeCore s := by
  refine Eq.trans ?_ ((safe_cutDrive (cutDrive .front s) .rear).trans (safe_cutDrive s .front))
  unfold periodStart safeCore stageCore
  simp only [Bridge.atPeriod, chooseOutput_dutyShadow]

/-- The end of a dead interval leaves the duty shadow (R76). -/
theorem endDead_dutyShadow (b : Bridge) (l : Leg) (side : Side) (counter : Nat) (now : Time) :
    (b.endDead l side counter now).dutyShadow = b.dutyShadow := by
  have leg (x : LegState) : (b.setLeg l x).dutyShadow = b.dutyShadow := by cases l <;> rfl
  unfold Bridge.endDead
  split
  · exact leg _
  · exact leg _
  · split
    · rfl
    · exact leg _

/-! ## The diagnosis, the power timers, the configuration and the ports -/

@[simp] theorem safe_publishSummary : safeCore (publishSummary s) = safeCore s := by
  rcases publishSummary_cases s with ⟨_, e⟩ | ⟨_, e⟩ <;> rw [e]
  rfl

@[simp] theorem safe_switchOutputOff (o : Output) : safeCore (switchOutputOff o s) = safeCore s := by
  cases o with
  | truck t => exact safe_holdBridge s t
  | _ => rfl

@[simp] theorem safe_releaseOutput (o : Output) : safeCore (releaseOutput o s) = safeCore s := by
  cases o with
  | truck t => exact safe_releaseBridge s t
  | _ => rfl

@[simp] theorem safe_setSagTimer : safeCore (setSagTimer s) = safeCore s := by
  rw [setSagTimer_eq]
  rfl

@[simp] theorem safe_beatSourceChanged (b : BeatSource) : safeCore (beatSourceChanged b s) = safeCore s := by
  simp only [beatSourceChanged, apply_ite safeCore, safe_onBtg, ite_self]

@[simp] theorem safe_setHolder (frame : Option Byte) (h : Holder) : safeCore (setHolder frame h s) = safeCore s := by
  unfold setHolder
  split <;> rfl

@[simp] theorem safe_startLease : safeCore (startLease s) = safeCore s := rfl

@[simp] theorem safe_setFailsafe (b : Bool) : safeCore (setFailsafe b s) = safeCore s := rfl

@[simp] theorem safe_frameArrives (id : Byte) : safeCore (frameArrives id s) = safeCore s := by
  unfold frameArrives
  split <;> rfl

@[simp] theorem safe_hearThrottle (id : Byte) : safeCore (hearThrottle id s) = safeCore s := by
  rcases hearThrottle_cases s id with ⟨_, e⟩ | ⟨_, e⟩ <;> rw [e]
  rw [safe_frameArrives]
  rfl

@[simp] theorem safe_hostAnswer (k : Byte) (posted : Bool) (tag : Byte) (r : Answer × State) :
    safeCore (hostAnswer k posted tag r) = safeCore r.2 := by
  simp only [hostAnswer, safe_onHpt, apply_ite safeCore, safe_pushNotice, ite_self]

@[simp] theorem safe_framingError : safeCore (framingError s) = safeCore s := rfl

@[simp] theorem safe_takeFirstByte (b : Byte) : safeCore (takeFirstByte b s) = safeCore s := by
  rcases takeFirstByte_cases s b with ⟨_, e⟩ | ⟨_, ⟨_, e⟩ | ⟨_, e⟩ | ⟨_, e⟩ | ⟨_, _, _, e⟩⟩ <;> rw [e] <;> rfl

@[simp] theorem safe_takeByte (b : Byte) : safeCore (takeByte b s) = safeCore s := by
  unfold takeByte
  split
  · split <;> rfl
  · simp only [collectByte, apply_ite safeCore, safe_onRif, ite_self]
  · rfl

@[simp] theorem safe_offerReply (r : Reply) : safeCore (offerReply r s) = safeCore s := by
  unfold offerReply
  split <;> rfl

@[simp] theorem safe_endCommit (good : Bool) : safeCore (endCommit good s) = safeCore s := by
  unfold endCommit
  cases s.cfs.origin <;> rfl

end Sys2Proof.Laws
end

section
/-! SUPPORT. The stage, the rest of the train and the ranges from one state to another, and the operations of SSQ and MOC that keep them. -/

namespace Sys2Proof.Laws

open Sys2Proof.Machine

/-! ## The invariants as facts of the core -/

/-- StageInv but for the stage being the greatest contribution: what holds while PWS forms the stage anew (R162, R164, R166). -/
structure StageCore.Told (c : StageCore) : Prop where
  part     : c.powerPart = powerPartOf c.power
  sag      : c.sagPart ≤ 3
  thermal  : c.thermalPart = 0 ∨ c.thermalPart = 2 ∨ c.thermalPart = 4
  stageRcu : c.stageRcu = c.shedStage
  stageMoc : c.stageMoc = c.shedStage
  stageSmu : c.stageSmu = c.shedStage
  stageLtc : c.stageLtc = c.shedStage
  stageSsq : c.stageSsq = c.shedStage
  powerRcu : c.powerRcu = c.power
  powerMoc : c.powerMoc = c.power
  powerCfs : c.powerCfs = c.power

theorem stageInv_iff (s : State) :
    StageInv s ↔ (stageCore s).Told
      ∧ (stageCore s).shedStage = max (stageCore s).powerPart (max (stageCore s).sagPart (stageCore s).thermalPart) :=
  ⟨fun h => ⟨⟨h.part, h.sag, h.thermal, h.stageRcu, h.stageMoc, h.stageSmu, h.stageLtc, h.stageSsq, h.powerRcu, h.powerMoc, h.powerCfs⟩,
    h.greatest⟩, fun ⟨h, greatest⟩ => ⟨h.part, h.sag, h.thermal, greatest, h.stageRcu, h.stageMoc, h.stageSmu, h.stageLtc, h.stageSsq,
    h.powerRcu, h.powerMoc, h.powerCfs⟩⟩

/-- MOC in its ranges: both regulators, C_slip and the slip count (3.1). -/
structure MotionInRange (m : Moc) : Prop where
  front     : m.front.InRange
  rear      : m.rear.InRange
  slipCap   : m.slipCap ≤ 1023
  slipCount : m.slipCount ≤ 3

theorem driveInv_iff (s : State) :
    DriveInv s ↔ MotionInRange s.moc ∧ (s.bmu.front.dutyShadow ≤ 1023 ∧ s.bmu.rear.dutyShadow ≤ 1023)
      ∧ s.rcu.views.dutyF ≤ 1023 ∧ s.rcu.views.dutyR ≤ 1023 :=
  ⟨fun h => ⟨⟨h.front, h.rear, h.slipCap, h.slipCount⟩, h.shadows, h.shown⟩,
    fun ⟨h, shadows, shown⟩ => ⟨h.front, h.rear, h.slipCap, h.slipCount, shadows, shown⟩⟩

/-- What RestInv turns on in MOC: the state, the shed view, the latch and P. -/
def restOf (m : Moc) : MotionState × Nat × Bool × Nat := (m.motionState, m.shedView, m.emergencyLatch, m.ramp)

theorem rest_of_same {s t : State} (same : restOf t.moc = restOf s.moc) (h : RestInv s) : RestInv t := by
  simp only [restOf, Prod.mk.injEq] at same
  obtain ⟨state, shed, latch, ramp⟩ := same
  exact ⟨by rw [state, shed]; exact h.suspended, by rw [state, latch, shed]; exact h.emergency, by rw [latch, shed, ramp]; exact h.rest⟩

/-- From `s` to `t` the stage core stands, and the drive and the sound stay in their ranges. -/
structure Steers (s t : State) : Prop where
  stage : stageCore t = stageCore s
  drive : DriveInv s → DriveInv t
  sound : SoundInv s → SoundInv t

/-- From `s` to `t` each of the invariants of the stage, the rest and the ranges is kept. -/
structure Keeps (s t : State) : Prop where
  stage : StageInv s → StageInv t
  rest  : RestInv s → RestInv t
  drive : DriveInv s → DriveInv t
  sound : SoundInv s → SoundInv t

theorem Steers.of_safe {s t : State} (h : safeCore t = safeCore s) : Steers s t := by
  unfold safeCore at h
  simp only [SafeCore.mk.injEq, Prod.mk.injEq] at h
  obtain ⟨stage, moc, ssq, ⟨shadowF, shadowR⟩, ⟨dutyF, dutyR⟩, clips, underruns⟩ := h
  refine ⟨stage, fun d => ?_, fun d => ?_⟩
  · rw [driveInv_iff] at *
    rw [moc, shadowF, shadowR, dutyF, dutyR]
    exact d
  · exact ⟨by rw [ssq]; exact d.buffers, by rw [ssq]; exact d.compare, by rw [ssq]; exact d.clips, by rw [ssq]; exact d.underruns,
      by rw [clips, underruns, ssq]; exact d.shown⟩

theorem Steers.refl (s : State) : Steers s s := .of_safe rfl

theorem Steers.trans {s t u : State} (h : Steers s t) (k : Steers t u) : Steers s u :=
  ⟨k.stage.trans h.stage, k.drive ∘ h.drive, k.sound ∘ h.sound⟩

/-- Every branch of a choice steers. -/
theorem Steers.ite {c : Prop} [Decidable c] {s a b : State} (ha : Steers s a) (hb : Steers s b) : Steers s (if c then a else b) := by
  split
  · exact ha
  · exact hb

theorem Steers.keeps {s t : State} (h : Steers s t) (rest : RestInv s → RestInv t) : Keeps s t where
  stage := fun i => by
    rw [stageInv_iff] at *
    rw [h.stage]
    exact i
  rest  := rest
  drive := h.drive
  sound := h.sound

/-- What steers, with the rest as it was, keeps all. -/
theorem Steers.keeps_same {s t : State} (h : Steers s t) (same : restOf t.moc = restOf s.moc) : Keeps s t := h.keeps (rest_of_same same)

theorem Keeps.of_safe {s t : State} (h : safeCore t = safeCore s) : Keeps s t :=
  (Steers.of_safe h).keeps_same (congrArg (fun c => restOf c.moc) h)

theorem Keeps.refl (s : State) : Keeps s s := .of_safe rfl

theorem Keeps.trans {s t u : State} (h : Keeps s t) (k : Keeps t u) : Keeps s u :=
  ⟨k.stage ∘ h.stage, k.rest ∘ h.rest, k.drive ∘ h.drive, k.sound ∘ h.sound⟩

/-- Every branch of a choice keeps all. -/
theorem Keeps.ite {c : Prop} [Decidable c] {s a b : State} (ha : Keeps s a) (hb : Keeps s b) : Keeps s (if c then a else b) := by
  split
  · exact ha
  · exact hb

/-- A change of MOC that leaves its views of PWS and stays in range. -/
theorem Steers.onMoc {f : Moc → Moc} {s : State} (shed : (f s.moc).shedView = s.moc.shedView)
    (power : (f s.moc).powerView = s.moc.powerView) (range : MotionInRange s.moc → MotionInRange (f s.moc)) :
    Steers s (onMoc f s) where
  stage := by
    unfold stageCore
    simp [shed, power]
  drive := fun d => by
    rw [driveInv_iff] at *
    exact ⟨range d.1, d.2⟩
  sound := fun d => ⟨d.buffers, d.compare, d.clips, d.underruns, d.shown⟩

/-- A change of one truck's control that leaves the rest of MOC. -/
theorem MotionInRange.mapTrucks {m : Moc} {f : Truck → TruckControl → TruckControl} (h : ∀ t x, x.InRange → (f t x).InRange)
    (r : MotionInRange m) : MotionInRange (m.mapTrucks f) :=
  ⟨h _ _ r.front, h _ _ r.rear, r.slipCap, r.slipCount⟩

theorem MotionInRange.mapTruck {m : Moc} {t : Truck} {f : TruckControl → TruckControl} (h : ∀ x, x.InRange → (f x).InRange)
    (r : MotionInRange m) : MotionInRange (m.mapTruck t f) := by
  cases t
  · exact ⟨h _ r.front, r.rear, r.slipCap, r.slipCount⟩
  · exact ⟨r.front, h _ r.rear, r.slipCap, r.slipCount⟩

theorem MotionInRange.truck {m : Moc} (r : MotionInRange m) (t : Truck) : (m.truck t).InRange := by
  cases t
  · exact r.front
  · exact r.rear

/-! ## Voices and their buffers (6.1) -/

/-- A voice's buffer, with the burst in flight, holds no more than 64 samples (R106). -/
def VoiceFits (v : Voice) : Prop := v.buffer.length + v.burst.getD 0 ≤ 64

/-- Every voice fits. -/
def VoicesFit (q : Ssq) : Prop := ∀ i : Fin 6, VoiceFits q.voices[i]

/-- From `q` to `r` the shed view, the output compare and the counters stand, and the voices fit. -/
structure SoundStays (q r : Ssq) : Prop where
  shed      : r.shedView = q.shedView
  compare   : r.outputCompare = q.outputCompare
  clips     : r.soundClips = q.soundClips
  underruns : r.underruns = q.underruns
  voices    : VoicesFit q → VoicesFit r

theorem SoundStays.refl (q : Ssq) : SoundStays q q := ⟨rfl, rfl, rfl, rfl, id⟩

theorem SoundStays.trans {q r x : Ssq} (h : SoundStays q r) (k : SoundStays r x) : SoundStays q x :=
  ⟨k.shed.trans h.shed, k.compare.trans h.compare, k.clips.trans h.clips, k.underruns.trans h.underruns, k.voices ∘ h.voices⟩

/-- SSQ changed with its voices in their sizes. -/
theorem Steers.onSsq {s : State} {q : Ssq} (h : SoundStays s.ssq q) : Steers s { s with ssq := q } where
  stage := by
    unfold stageCore
    simp [h.shed]
  drive := fun d => ⟨d.front, d.rear, d.slipCap, d.slipCount, d.shadows, d.shown⟩
  sound := fun d => ⟨h.voices d.buffers, h.compare.trans_le d.compare, h.clips.trans_le d.clips,
    h.underruns.trans_le d.underruns, d.shown.1.trans h.clips.symm, d.shown.2.trans h.underruns.symm⟩

/-- One voice changed. -/
theorem mapVoice_stays (q : Ssq) (i : Fin 6) {f : Voice → Voice} (h : VoiceFits q.voices[i] → VoiceFits (f q.voices[i])) :
    SoundStays q (q.mapVoice i f) := by
  refine ⟨rfl, rfl, rfl, rfl, fun fit j => ?_⟩
  by_cases same : i.val = j.val
  · rw [← Fin.ext same]
    simpa [Ssq.mapVoice] using h (fit i)
  · simpa [Ssq.mapVoice, same] using fit j

/-- A start, a jump and a silence leave an empty buffer and no burst (R104, R119). -/
theorem voiceFits_empty {v : Voice} (buffer : v.buffer = []) (burst : v.burst = none) : VoiceFits v := by
  unfold VoiceFits
  rw [buffer, burst]
  decide

theorem startClip_stays (q : Ssq) (i : Fin 6) (clip : Fin 64) (gain : Nat) (owner : Option (Fin 16)) :
    SoundStays q (q.startClip i clip gain owner) := by
  unfold Ssq.startClip
  split
  · exact mapVoice_stays q i fun _ => voiceFits_empty rfl rfl
  · exact .refl q

theorem onEdge_stays (q : Ssq) (i : Fin 16) (b : KeyBinding) : SoundStays q (q.onEdge i b) := by
  unfold Ssq.onEdge
  split
  · exact .refl q
  · split
    · exact startClip_stays q _ _ _ _
    · dsimp only
      split
      · split
        · exact mapVoice_stays q _ fun _ => voiceFits_empty rfl rfl
        · exact .refl q
      · exact startClip_stays q _ _ _ _

theorem offEdge_stays (q : Ssq) (i : Fin 16) (b : KeyBinding) : SoundStays q (q.offEdge i b) := by
  unfold Ssq.offEdge
  split
  · exact .refl q
  · dsimp only
    split
    · refine mapVoice_stays q _ fun fit => ?_
      split
      · exact fit
      · exact fit
    · exact .refl q

theorem takeKeys_stays (q : Ssq) (c : Configuration) (keys : KeySet) : SoundStays q (q.takeKeys c keys) := by
  have edge (r : Ssq) (i : Fin 16) : SoundStays r (r.bindingEdge c q.keysView keys i) := by
    unfold Ssq.bindingEdge
    dsimp only
    split
    · exact .refl r
    · split
      · exact onEdge_stays r _ _
      · split
        · exact offEdge_stays r _ _
        · exact .refl r
  have edges (l : List (Fin 16)) (r : Ssq) : SoundStays r (l.foldl (Ssq.bindingEdge c q.keysView keys) r) := by
    induction l generalizing r with
    | nil => exact .refl r
    | cons i l ih => exact (edge r i).trans (ih _)
  have view : SoundStays q { q with keysView := keys } := ⟨rfl, rfl, rfl, rfl, id⟩
  unfold Ssq.takeKeys
  dsimp only
  split
  · exact view
  · exact view.trans (edges _ _)

theorem disown_stays (q : Ssq) (i : Fin 16) : SoundStays q (q.disown i) := by
  refine ⟨rfl, rfl, rfl, rfl, fun fit n => ?_⟩
  unfold Ssq.disown
  simp only [Fin.getElem_fin, Vector.getElem_ofFn]
  split
  · split
    · exact fit n
    · exact fit n
  · exact fit n

theorem takeTrigger_stays (q : Ssq) (c : Configuration) (t : Trigger) : SoundStays q (q.takeTrigger c t) := by
  unfold Ssq.takeTrigger
  split
  · exact .refl q
  · dsimp only
    split
    · exact .refl q
    · exact startClip_stays q _ _ _ _

theorem takeBeat_stays (q : Ssq) (c : Configuration) : SoundStays q (q.takeBeat c) := by
  unfold Ssq.takeBeat
  split
  · exact .refl q
  · split
    · exact .refl q
    · exact startClip_stays q _ _ _ _

theorem takeMotion_stays (q : Ssq) (c : Configuration) (u ff speed : Nat) (fell : Bool) (brake : Nat) :
    SoundStays q (q.takeMotion c u ff speed fell brake) := by
  unfold Ssq.takeMotion
  dsimp only
  split
  · have settled : SoundStays q
        { q with effortU := u, effortFF := ff, runSpeed := speed, fell := fell, brakeView := brake, squealArmed := false } :=
      ⟨rfl, rfl, rfl, rfl, id⟩
    exact settled.trans (takeTrigger_stays _ c .squeal)
  · split <;> exact ⟨rfl, rfl, rfl, rfl, id⟩

/-! ## The motion controller's handings (chapter 3) -/

variable (s : State)

theorem raiseTrigger_steers (t : Trigger) : Steers s (raiseTrigger t s) := .onSsq (takeTrigger_stays s.ssq s.cfg t)

/-- An evaluation of the motion state steers. -/
theorem evaluateMotion_steers : Steers s (evaluateMotion s) := by
  rcases evaluateMotion_cases s with ⟨_, e⟩ | ⟨_, e⟩ <;> rw [e]
  · exact .refl s
  · refine Steers.trans (.onMoc (f := fun x => { x with motionState := s.motionStateNow }) rfl rfl
      fun r => ⟨r.front, r.rear, r.slipCap, r.slipCount⟩) (.of_safe ?_)
    rw [safe_pushNotice, safe_smokeTakeMotion]
    rfl

/-- SUSPENDED is the state of shed stage 4, and EMERGENCY that of the latch below it (R58). -/
theorem motionOf_iff (m : Moc) :
    (Spec.motionOf m = .suspended ↔ m.shedView = 4)
    ∧ (Spec.motionOf m = .emergency ↔ m.emergencyLatch = true ∧ m.shedView ≠ 4) := by
  unfold Spec.motionOf
  by_cases off : m.shedView = 4
  · simp [off]
  · by_cases latch : m.emergencyLatch = true
    · simp [off, latch]
    · rw [if_neg off, if_neg latch]
      simp only [off, latch]
      split
      · simp
      · split <;> simp

/-- An evaluated motion state is at rest where P is 0 under the latch and at shed stage 4 (R58, R59, R61). -/
theorem evaluateMotion_rest (still : s.moc.emergencyLatch = true ∨ s.moc.shedView = 4 → s.moc.ramp = 0) : RestInv (evaluateMotion s) := by
  obtain ⟨moc, _⟩ := motionBecomes_takes s (Spec.motionOf s.moc)
  obtain ⟨suspended, emergency⟩ := motionOf_iff s.moc
  rw [← evaluateMotion_eq] at moc
  exact ⟨by rw [moc]; exact suspended, by rw [moc]; exact emergency, by rw [moc]; exact still⟩

theorem evaluateMotion_keeps : Keeps s (evaluateMotion s) := (evaluateMotion_steers s).keeps fun h => evaluateMotion_rest s h.rest

theorem inRange_zero {x : TruckControl} (h : x.InRange) : TruckControl.InRange { x with integral := 0 } :=
  ⟨(by decide : (-4194304 : Int) ≤ 0 ∧ (0 : Int) ≤ 4194303), h.ceiling, h.output, h.duty⟩

theorem zeroIntegrators_steers : Steers s (zeroIntegrators s) := .onMoc rfl rfl fun r => r.mapTrucks fun _ _ => inRange_zero

theorem flipDirection_steers : Steers s (flipDirection s) := by
  have turns : Steers s (zeroIntegrators (onMoc (fun m => { m with runDirection := s.moc.directionView, reversalPending := false }) s)) :=
    Steers.trans (.onMoc rfl rfl fun r => ⟨r.front, r.rear, r.slipCap, r.slipCount⟩) (zeroIntegrators_steers _)
  have raises {u v : State} (h : safeCore v = safeCore u) : Steers u (raiseTrigger .reverse v) :=
    (Steers.of_safe h).trans (raiseTrigger_steers v .reverse)
  unfold flipDirection
  exact turns.trans (raises rfl)

theorem completeReversal_steers : Steers s (completeReversal s) := .ite (flipDirection_steers s) (.refl s)

theorem endSlip_steers : Steers s (endSlip s) := by
  rcases endSlip_cases s with ⟨_, e⟩ | ⟨t, _, e⟩ <;> rw [e]
  · exact .onMoc (f := fun m => { m with slipCount := 0 }) rfl rfl fun r => ⟨r.front, r.rear, r.slipCap, Nat.zero_le 3⟩
  · exact Steers.trans (.onMoc (f := fun m => { m with slipState := .grip, slipCount := 0, slipCap := 1023 }) rfl rfl
      fun r => ⟨r.front, r.rear, Nat.le_refl 1023, Nat.zero_le 3⟩) (.of_safe rfl)

/-- A duty in its range, handed to a bridge with its mode and to ODU (R69, R172). -/
theorem handDrive_steers (t : Truck) {duty : Nat} (range : duty ≤ 1023) : Steers s (handDrive t duty s) := by
  have shadow : Steers s (handDuty t duty s) := by
    refine ⟨rfl, fun d => ?_, fun d => ⟨d.buffers, d.compare, d.clips, d.underruns, d.shown⟩⟩
    refine ⟨d.front, d.rear, d.slipCap, d.slipCount, ?_, d.shown⟩
    cases t
    · exact ⟨range, d.shadows.2⟩
    · exact ⟨d.shadows.1, range⟩
  refine shadow.trans (.of_safe ?_)
  unfold handDrive
  rw [safe_takeCommand, safe_handMode]

/-- What is handed to a bridge and to ODU leaves MOC. -/
@[simp] theorem handDrive_moc (t : Truck) (duty : Nat) : (handDrive t duty s).moc = s.moc :=
  (handMode_oneBridge (handDuty t duty s) t (s.moc.mode t)).leaves.2.1

theorem handIdle_steers : Steers s (handIdle s) :=
  (handDrive_steers s .front (Nat.zero_le _)).trans (handDrive_steers _ .rear (Nat.zero_le _))

@[simp] theorem handIdle_moc : (handIdle s).moc = s.moc := by simp only [handIdle, handDrive_moc]

/-! ## Publications of RCU (R49, R52 to R60) -/

theorem motionTakeDriveWrite_keeps (n : Nat) (changed : Bool) : Keeps s (motionTakeDriveWrite n changed s) := by
  have writes : Steers s (onMoc (fun m => { m with notch := n, lossBrake := !changed && m.lossBrake, emergencyLatch := false }) s) :=
    .onMoc rfl rfl fun r => ⟨r.front, r.rear, r.slipCap, r.slipCount⟩
  unfold motionTakeDriveWrite
  dsimp only
  split
  · refine ((writes.trans (evaluateMotion_steers _)).trans (handIdle_steers _)).keeps fun h => ?_
    refine rest_of_same (congrArg restOf (handIdle_moc _)) (evaluateMotion_rest _ fun stands => h.rest (.inr ?_))
    simpa using stands
  · rename_i clear
    refine writes.keeps_same ?_
    simp [restOf, Bool.not_eq_true _ ▸ clear]

theorem motionTakeStop_keeps : Keeps s (motionTakeStop s) :=
  Steers.keeps_same (.onMoc rfl rfl fun r => ⟨r.front, r.rear, r.slipCap, r.slipCount⟩) rfl

theorem motionTakeBrake_keeps (n : Nat) : Keeps s (motionTakeBrake n s) :=
  Steers.keeps_same (.onMoc rfl rfl fun r => ⟨r.front, r.rear, r.slipCap, r.slipCount⟩) rfl

/-- A change of MOC besides its views of PWS, its regulators, its slip and its rest. -/
theorem Keeps.onMoc {f : Moc → Moc} {s : State} (rest : restOf (f s.moc) = restOf s.moc) (power : (f s.moc).powerView = s.moc.powerView)
    (front : (f s.moc).front = s.moc.front) (rear : (f s.moc).rear = s.moc.rear)
    (slipCap : (f s.moc).slipCap = s.moc.slipCap) (slipCount : (f s.moc).slipCount = s.moc.slipCount) : Keeps s (onMoc f s) :=
  Steers.keeps_same (.onMoc (congrArg (·.2.1) rest) power fun r =>
    ⟨front ▸ r.front, rear ▸ r.rear, slipCap ▸ r.slipCap, slipCount ▸ r.slipCount⟩) rest

theorem flipDirection_keeps : Keeps s (flipDirection s) := by
  refine (flipDirection_steers s).keeps_same ?_
  unfold flipDirection
  rfl

theorem completeReversal_keeps : Keeps s (completeReversal s) := .ite (flipDirection_keeps s) (.refl s)

theorem endSlip_keeps : Keeps s (endSlip s) := (endSlip_steers s).keeps_same (by rw [endSlip_moc]; rfl)

theorem motionTakeDirection_keeps (d : Direction) : Keeps s (motionTakeDirection d s) := by
  have view : Keeps s (onMoc (fun m => { m with directionView := d, lossBrake := false }) s) := .onMoc rfl rfl rfl rfl rfl rfl
  have pends (b : Bool) (u : State) : Keeps u (evaluateMotion (onMoc (fun m => { m with reversalPending := b }) u)) :=
    Keeps.trans (.onMoc rfl rfl rfl rfl rfl rfl) (evaluateMotion_keeps _)
  unfold motionTakeDirection
  exact view.trans (.ite (.refl _) (.ite (.ite (.refl _) (flipDirection_keeps _)) (.ite (.refl _)
    (.ite (.ite (pends false _) (.refl _)) (pends true _)))))

/-- A mode handed to both bridges. -/
theorem bothModes_keeps (mode : BridgeMode) : Keeps s (handMode .rear mode (handMode .front mode s)) :=
  .of_safe (by rw [safe_handMode, safe_handMode])

/-- HALT_NOW leaves the latch set with P at 0 (R59). -/
theorem motionHalt_keeps : Keeps s (motionHalt s) := by
  have halts : Steers s (onMoc (fun m => { m with notch := 0, emergencyLatch := true, ramp := 0 }) s) :=
    .onMoc rfl rfl fun r => ⟨r.front, r.rear, r.slipCap, r.slipCount⟩
  have markers (u : State) : Steers u (onMoc (fun m => { m with lossBrake := false, coastHold := false }) u) :=
    .onMoc rfl rfl fun r => ⟨r.front, r.rear, r.slipCap, r.slipCount⟩
  have brakes (u : State) : Steers u (handMode .rear .shortBrake (handMode .front .shortBrake u)) :=
    .of_safe (by rw [safe_handMode, safe_handMode])
  unfold motionHalt
  dsimp only
  refine Steers.keeps (halts.trans (Steers.trans ?_ (evaluateMotion_steers _))) fun _ => ?_
  · refine Steers.trans (.ite (.refl _) (completeReversal_steers _)) ((markers _).trans ((zeroIntegrators_steers _).trans
      ((endSlip_steers _).trans (.ite (.refl _) (brakes _)))))
  · have moc := (motionHalt_halts s).moc
    have same : (motionHalt s).moc.shedView = s.moc.shedView := by rw [moc]
    refine ⟨?_, ?_, fun _ => by exact congrArg Moc.ramp moc⟩
    · refine (iff_of_eq (congrArg (fun m : Moc => m.motionState = .suspended ↔ m.shedView = 4) moc)).mpr ?_
      by_cases off : s.moc.shedView = 4 <;> simp [off]
    · refine (iff_of_eq (congrArg (fun m : Moc => m.motionState = .emergency ↔ m.emergencyLatch = true ∧ m.shedView ≠ 4) moc)).mpr ?_
      by_cases off : s.moc.shedView = 4 <;> simp [off]

/-- The COAST loss action leaves P at 0 (R53). -/
theorem motionTakeLoss_keeps (a : LossAction) : Keeps s (motionTakeLoss a s) := by
  have notch : Keeps s (onMoc (fun m => { m with notch := 0 }) s) := .onMoc rfl rfl rfl rfl rfl rfl
  cases a with
  | ramp => exact notch
  | brake => exact notch.trans (.onMoc (f := fun m => { m with lossBrake := true }) rfl rfl rfl rfl rfl rfl)
  | coast =>
    have stops (u : State) : Keeps u (onMoc (fun m => { m with ramp := 0, lossBrake := false, coastHold := true }) u) :=
      Steers.keeps (.onMoc rfl rfl fun r => ⟨r.front, r.rear, r.slipCap, r.slipCount⟩)
        fun h => ⟨h.suspended, h.emergency, fun _ => rfl⟩
    have turns (u : State) : Keeps u (evaluateMotion (completeReversal u)) := (completeReversal_keeps u).trans (evaluateMotion_keeps _)
    unfold motionTakeLoss motionCoast
    dsimp only
    exact notch.trans ((stops _).trans (Keeps.trans (.ite (turns _) (.refl _)) ((endSlip_keeps _).trans
      (.ite (.refl _) (bothModes_keeps _ _)))))

/-! ## Publications of ODU and CFS (R50, R63, R65, R68) -/

theorem motionTakeFault_keeps (t : Truck) (st : FaultState) : Keeps s (motionTakeFault t st s) := by
  have regulator (x : TruckControl) (r : x.InRange) : (x.takeFault st).InRange := by
    refine ⟨?_, r.ceiling, r.output, r.duty⟩
    unfold TruckControl.takeFault
    dsimp only
    split
    · decide
    · exact r.integral
  have view : Keeps s (onMoc (·.mapTruck t (·.takeFault st)) s) :=
    Steers.keeps_same (.onMoc (by cases t <;> rfl) (by cases t <;> rfl) fun r => r.mapTruck regulator) (by cases t <;> rfl)
  exact view.trans (.ite (endSlip_keeps _) (.refl _))

theorem motionTakeSettings_keeps : Keeps s (motionTakeSettings s) := .onMoc rfl rfl rfl rfl rfl rfl

/-! ## The control step (R48) -/

/-- The ramp moves only where MOC does not stand, and MOC's view of the stage and the latch stand (R51, R58). -/
theorem stageMomentum_moc :
    (stageMomentum s).moc.shedView = s.moc.shedView ∧ (stageMomentum s).moc.emergencyLatch = s.moc.emergencyLatch
    ∧ (s.moc.stands = true → (stageMomentum s).moc.ramp = 0) := by
  have turned (u : State) : (completeReversal u).moc.shedView = u.moc.shedView
      ∧ (completeReversal u).moc.emergencyLatch = u.moc.emergencyLatch := by
    rw [(completeReversal_takes u).1]
    split <;> exact ⟨rfl, rfl⟩
  unfold stageMomentum
  split
  · exact ⟨rfl, rfl, fun _ => rfl⟩
  · rename_i moves
    dsimp only
    split
    · exact ⟨rfl, rfl, fun stands => absurd stands moves⟩
    · split
      · exact ⟨(turned _).1, (turned _).2, fun stands => absurd stands moves⟩
      · exact ⟨rfl, rfl, fun stands => absurd stands moves⟩

theorem stageMomentum_steers : Steers s (stageMomentum s) := by
  unfold stageMomentum
  dsimp only
  refine .ite (.onMoc rfl rfl fun r => ⟨r.front, r.rear, r.slipCap, r.slipCount⟩) ?_
  refine Steers.trans (.onMoc rfl rfl fun r => ⟨r.front, r.rear, r.slipCap, r.slipCount⟩)
    (.ite (raiseTrigger_steers _ _) (.ite ((raiseTrigger_steers _ _).trans (completeReversal_steers _)) (.refl _)))

/-- Momentum and the state after it (R51, R58): MOC stands with P at 0, or moves with neither latch nor suspension. -/
theorem momentum_keeps : Keeps s (evaluateMotion (stageMomentum s)) := by
  refine ((stageMomentum_steers s).trans (evaluateMotion_steers _)).keeps fun h => evaluateMotion_rest _ fun stands => ?_
  obtain ⟨shed, latch, still⟩ := stageMomentum_moc s
  refine still ?_
  rw [shed, latch] at stands
  by_cases off : s.moc.shedView = 4
  · simp [Moc.stands, h.suspended.mpr off]
  · simp [Moc.stands, h.emergency.mpr ⟨stands.resolve_right off, off⟩]

theorem clampInt_range {x low high : Int} (order : low ≤ high) : low ≤ clampInt x low high ∧ clampInt x low high ≤ high := by
  unfold clampInt
  split
  · omega
  · split <;> omega

/-- A regulator gives J and u in their ranges (R64). -/
theorem regulate_range (c : Configuration) (pint ff emf : Nat) {j : Int} (range : -4194304 ≤ j ∧ j ≤ 4194303) :
    (-4194304 ≤ (regulate c pint ff emf j).1 ∧ (regulate c pint ff emf j).1 ≤ 4194303) ∧ (regulate c pint ff emf j).2 ≤ 1023 := by
  have output (u : Int) : (clampInt u 0 1023).toNat ≤ 1023 := by
    have := clampInt_range (x := u) (low := 0) (high := 1023) (by decide)
    omega
  unfold regulate
  dsimp only
  split
  · exact ⟨range, output _⟩
  · exact ⟨clampInt_range (by decide), output _⟩

theorem regulated_inRange (c : Configuration) (pint ff : Nat) (stands : Bool) {x : TruckControl} (r : x.InRange) :
    (x.regulated c pint ff stands).InRange := by
  unfold TruckControl.regulated
  split
  · exact ⟨(inRange_zero r).integral, r.ceiling, Nat.zero_le _, r.duty⟩
  · obtain ⟨integral, output⟩ := regulate_range c pint ff x.emf r.integral
    exact ⟨integral, r.ceiling, output, r.duty⟩

theorem nextCeiling_le {l : Nat} (range : l ≤ 1023) (current limit : Nat) : nextCeiling l current limit ≤ 1023 := by
  unfold nextCeiling
  split <;> omega

/-- The regulators and the limiter (R64 to R66). -/
theorem regulation_keeps : Keeps s (stageLimiter (stageRegulation s)) := by
  have regulates : Keeps s (stageRegulation s) := by
    unfold stageRegulation
    dsimp only
    refine Steers.keeps_same (.onMoc rfl rfl fun r => ?_) rfl
    have trucks := r.mapTrucks (f := fun _ x => x.regulated s.cfg (s.moc.ramp / 16) (feedforwardOf (s.moc.ramp / 16) s.cfg.kff) s.moc.stands)
      fun _ _ => regulated_inRange _ _ _ _
    exact ⟨trucks.front, trucks.rear, r.slipCap, r.slipCount⟩
  exact regulates.trans (Steers.keeps_same (.onMoc rfl rfl fun r => r.mapTrucks
    fun _ x h => ⟨h.integral, nextCeiling_le h.ceiling _ _, h.output, h.duty⟩) rfl)

/-- Slip moves C_slip to an output of a regulator, and counts to 3 (R67, R68). -/
theorem stageSlip_keeps : Keeps s (stageSlip s) := by
  have counts {n : Nat} (few : n ≤ 3) (u : State) : Keeps u (onMoc (fun m => { m with slipCount := n }) u) :=
    Steers.keeps_same (.onMoc rfl rfl fun r => ⟨r.front, r.rear, r.slipCap, few⟩) rfl
  have next (u : State) (few : ¬4 ≤ u.moc.slipCount + 1) : Keeps u (onMoc (fun m => { m with slipCount := m.slipCount + 1 }) u) :=
    Steers.keeps_same (.onMoc rfl rfl fun r => ⟨r.front, r.rear, r.slipCap, by dsimp only; omega⟩) rfl
  have caps (t : Truck) (u : State) : Keeps u (onMoc (fun m => { m with slipCap := (m.truck t).output }) u) :=
    Steers.keeps_same (.onMoc rfl rfl fun r => ⟨r.front, r.rear, (r.truck t).output, r.slipCount⟩) rfl
  have starts : Keeps s (startSlip s) := by
    unfold startSlip
    dsimp only
    generalize (if s.moc.rear.emf < s.moc.front.emf then Truck.front else .rear) = t
    have slips : Keeps s (onMoc (fun m => { m with slipState := .slip t, slipCount := 0, slipCap := (m.truck (otherTruck t)).output }) s) :=
      Steers.keeps_same (.onMoc rfl rfl fun r => ⟨r.front, r.rear, (r.truck _).output, Nat.zero_le 3⟩) rfl
    exact slips.trans (((raiseTrigger_steers _ .slip).keeps_same rfl).trans (.of_safe rfl))
  unfold stageSlip
  refine .ite ?_ (endSlip_keeps s)
  split
  · refine .ite (counts (by decide) s) ?_
    split
    · exact starts
    · exact next s (by assumption)
  · refine Keeps.trans (caps _ s) (.ite (counts (by decide) _) ?_)
    split
    · exact endSlip_keeps _
    · exact next _ (by assumption)

/-- An applied duty lies in its range, as C_shed does (R69). -/
theorem appliedDuty_le (t : Truck) : s.appliedDuty t ≤ 1023 := by
  have cap : shedCap s.moc.shedView ≤ 1023 := by
    unfold shedCap
    split
    · decide
    · split <;> decide
  unfold State.appliedDuty
  dsimp only
  split
  · decide
  · split <;> split <;> omega

theorem stageDuty_keeps : Keeps s (stageDuty s) := by
  have drives (t : Truck) (u : State) : Keeps u (driveTruck t u) := by
    have forms : Keeps u (onMoc (·.mapTruck t fun x => { x with duty := u.appliedDuty t }) u) :=
      Steers.keeps_same (.onMoc (by cases t <;> rfl) (by cases t <;> rfl)
        fun r => r.mapTruck fun x h => ⟨h.integral, h.ceiling, h.output, appliedDuty_le u t⟩) (by cases t <;> rfl)
    exact forms.trans ((handDrive_steers _ t (appliedDuty_le u t)).keeps_same (congrArg restOf (handDrive_moc _ t _)))
  exact (drives .front s).trans (drives .rear _)

theorem stagePublication_keeps : Keeps s (stagePublication s) := by
  have shows : Keeps s (publish s.moc.published s) :=
    ⟨fun h => ⟨h.part, h.sag, h.thermal, h.greatest, h.stageRcu, h.stageMoc, h.stageSmu, h.stageLtc, h.stageSsq, h.powerRcu, h.powerMoc,
      h.powerCfs⟩, rest_of_same rfl, fun d => ⟨d.front, d.rear, d.slipCap, d.slipCount, d.shadows, d.front.duty, d.rear.duty⟩,
      fun d => ⟨d.buffers, d.compare, d.clips, d.underruns, d.shown⟩⟩
  unfold stagePublication
  dsimp only
  exact shows.trans (Keeps.trans ((Steers.onSsq (takeMotion_stays _ _ _ _ _ _ _)).keeps_same rfl)
    (.of_safe (by rw [safe_smokeTakeMotion, safe_lightsTakeMotion])))

theorem controlStep_keeps (g : GapSample) : Keeps s (controlStep g s) := by
  have sample (u : State) : Keeps u (stageSample g u) := Steers.keeps_same (.onMoc rfl rfl fun r =>
    ⟨⟨r.front.integral, r.front.ceiling, r.front.output, r.front.duty⟩, ⟨r.rear.integral, r.rear.ceiling, r.rear.output, r.rear.duty⟩,
      r.slipCap, r.slipCount⟩) rfl
  unfold controlStep
  exact (motionTakeSettings_keeps s).trans ((sample _).trans ((momentum_keeps _).trans ((regulation_keeps _).trans
    ((stageSlip_keeps _).trans ((stageDuty_keeps _).trans (stagePublication_keeps _))))))

end Sys2Proof.Laws
end

section
/-! SUPPORT. How the shed stage is formed and taken, and the operations of PWS: each keeps the stage, the rest and the ranges. -/

namespace Sys2Proof.Laws

open Sys2Proof.Machine

variable (s : State)

/-! ## The consumers of a shed stage (R61, R62, R119, R125, R147) -/

/-- From `s` to `t` the stage core moves by `f`, and the drive and the sound stay in their ranges. -/
structure Shifts (f : StageCore → StageCore) (s t : State) : Prop where
  stage : stageCore t = f (stageCore s)
  drive : DriveInv s → DriveInv t
  sound : SoundInv s → SoundInv t

/-- A move of the stage core alone. -/
theorem Shifts.of_core {f : StageCore → StageCore} {s t : State} (h : safeCore t = { safeCore s with stage := f (stageCore s) }) :
    Shifts f s t := by
  simp only [safeCore, SafeCore.mk.injEq, Prod.mk.injEq] at h
  obtain ⟨stage, moc, ssq, ⟨shadowF, shadowR⟩, ⟨dutyF, dutyR⟩, clips, underruns⟩ := h
  refine ⟨stage, fun d => ?_, fun d => ?_⟩
  · rw [driveInv_iff] at *
    rw [moc, shadowF, shadowR, dutyF, dutyR]
    exact d
  · exact ⟨by rw [ssq]; exact d.buffers, by rw [ssq]; exact d.compare, by rw [ssq]; exact d.clips, by rw [ssq]; exact d.underruns,
      by rw [clips, underruns, ssq]; exact d.shown⟩

theorem Shifts.trans {f g : StageCore → StageCore} {s t u : State} (h : Shifts f s t) (k : Shifts g t u) : Shifts (fun c => g (f c)) s u :=
  ⟨k.stage.trans (congrArg g h.stage), k.drive ∘ h.drive, k.sound ∘ h.sound⟩

/-- What steers after a move of the core leaves the core as it moved. -/
theorem Shifts.steers {f : StageCore → StageCore} {s t u : State} (h : Shifts f s t) (k : Steers t u) : Shifts f s u :=
  ⟨k.stage.trans h.stage, k.drive ∘ h.drive, k.sound ∘ h.sound⟩

/-- A shed stage of 4 silences the voices and sets the output compare to its middle (R119). -/
theorem soundTakeShed_shifts (n : Nat) : Shifts (fun c => { c with stageSsq := n }) s { s with ssq := s.ssq.takeShed n } := by
  refine ⟨?_, fun d => ⟨d.front, d.rear, d.slipCap, d.slipCount, d.shadows, d.shown⟩, fun d => ?_⟩
  · unfold stageCore Ssq.takeShed
    dsimp only
    split <;> rfl
  · unfold Ssq.takeShed
    split
    · refine ⟨fun i => ?_, (by decide : 512 ≤ 1023), d.clips, d.underruns, d.shown⟩
      simp only [Fin.getElem_fin, Vector.getElem_ofFn]
      exact voiceFits_empty (v := (s.ssq.voices[i.val]).silence) rfl rfl
    · exact ⟨d.buffers, d.compare, d.clips, d.underruns, d.shown⟩

/-- Suspension is a move of MOC's view of the stage to 4 (R61). -/
theorem suspendMotion_shifts : Shifts (fun c => { c with stageMoc := 4 }) s (suspendMotion s) := by
  have stops : Shifts (fun c => { c with stageMoc := 4 }) s (onMoc (fun m => { m with shedView := 4, ramp := 0, lossBrake := false }) s) :=
    ⟨rfl, fun d => ⟨d.front, d.rear, d.slipCap, d.slipCount, d.shadows, d.shown⟩,
      fun d => ⟨d.buffers, d.compare, d.clips, d.underruns, d.shown⟩⟩
  have coasts (u : State) : Steers u (handMode .rear .coast (handMode .front .coast u)) :=
    .of_safe (by rw [safe_handMode, safe_handMode])
  unfold suspendMotion
  exact stops.steers ((zeroIntegrators_steers _).trans ((evaluateMotion_steers _).trans ((coasts _).trans (endSlip_steers _))))

/-- The end of suspension is a move of MOC's view of the stage to the new one (R62). -/
theorem resumeMotion_shifts (n : Nat) : Shifts (fun c => { c with stageMoc := n }) s (resumeMotion n s) := by
  have seeds : Shifts (fun c => { c with stageMoc := n }) s (onMoc (fun m => { m with shedView := n, ramp := s.rampSeed }) s) :=
    ⟨rfl, fun d => ⟨d.front, d.rear, d.slipCap, d.slipCount, d.shadows, d.shown⟩,
      fun d => ⟨d.buffers, d.compare, d.clips, d.underruns, d.shown⟩⟩
  have pends (b : Bool) (u : State) : Steers u (onMoc (fun m => { m with reversalPending := b }) u) :=
    .onMoc rfl rfl fun r => ⟨r.front, r.rear, r.slipCap, r.slipCount⟩
  unfold resumeMotion
  dsimp only
  exact seeds.steers (Steers.trans (.ite (pends false _) (.ite (pends true _) (flipDirection_steers _)))
    ((evaluateMotion_steers _).trans (handIdle_steers _)))

theorem motionTakeShed_shifts (n : Nat) : Shifts (fun c => { c with stageMoc := n }) s (motionTakeShed n s) := by
  rcases motionTakeShed_cases n s with ⟨e, off, rfl⟩ | ⟨e, _⟩ | ⟨e, _, rfl⟩ | ⟨e, _⟩ <;> rw [e]
  · refine ⟨?_, id, id⟩
    rw [← off]
    rfl
  · exact resumeMotion_shifts s n
  · exact suspendMotion_shifts s
  · have view : Shifts (fun c => { c with stageMoc := n }) s (onMoc (fun m => { m with shedView := n }) s) :=
      ⟨rfl, fun d => ⟨d.front, d.rear, d.slipCap, d.slipCount, d.shadows, d.shown⟩,
        fun d => ⟨d.buffers, d.compare, d.clips, d.underruns, d.shown⟩⟩
    exact view.steers (evaluateMotion_steers _)

/-- An evaluated motion state is at rest where the state before it stood still. -/
theorem evaluateMotion_rest_of {state : MotionState} {shed ramp : Nat} {latch : Bool} (same : restOf s.moc = (state, shed, latch, ramp))
    (still : latch = true ∨ shed = 4 → ramp = 0) : RestInv (evaluateMotion s) := by
  simp only [restOf, Prod.mk.injEq] at same
  obtain ⟨-, rfl, rfl, rfl⟩ := same
  exact evaluateMotion_rest s still

/-- What follows the seed of P in the end of suspension leaves the view, the latch and P (R62). -/
theorem resumeMotion_rest (n : Nat) (on : n ≠ 4) (off : s.moc.shedView = 4) (h : RestInv s) : RestInv (resumeMotion n s) := by
  have still : s.moc.emergencyLatch = true ∨ n = 4 → s.rampSeed = 0 := fun stands => by
    rw [State.rampSeed, if_pos (stands.resolve_right on)]
    exact h.rest (.inr off)
  unfold resumeMotion
  dsimp only
  refine rest_of_same (congrArg restOf (handIdle_moc _)) (evaluateMotion_rest_of _ (state := s.moc.motionState) ?_ still)
  split
  · rfl
  · split <;> rfl

theorem motionTakeShed_rest (n : Nat) (h : RestInv s) : RestInv (motionTakeShed n s) := by
  rcases motionTakeShed_cases n s with ⟨e, _⟩ | ⟨e, off, on⟩ | ⟨e, _⟩ | ⟨e, on, lower⟩ <;> rw [e]
  · exact h
  · exact resumeMotion_rest s n on off h
  · obtain moc := suspendMotion_moc s
    exact ⟨by rw [moc]; exact iff_of_true rfl rfl, by rw [moc]; exact iff_of_false nofun fun stands => stands.2 rfl,
      fun _ => by rw [moc]; rfl⟩
  · exact evaluateMotion_rest _ fun stands => h.rest (.inl (stands.resolve_right lower))

theorem smokeTakeShed_core (n : Nat) :
    safeCore (smokeTakeShed n s) = { safeCore s with stage := { stageCore s with stageSmu := n } } := by
  have view : safeCore (onSmu (fun u => { u with shedView := n }) s) = { safeCore s with stage := { stageCore s with stageSmu := n } } := rfl
  simp only [smokeTakeShed, apply_ite safeCore, safe_enterSmoke, safe_setHeater, view, ite_self]

theorem lightsTakeShed_core (n : Nat) :
    safeCore (onLtc (·.takeShed n) s) = { safeCore s with stage := { stageCore s with stageLtc := n } } := by
  have view : (s.ltc.takeShed n).shedView = n := by
    unfold Ltc.takeShed
    dsimp only
    split <;> rfl
  unfold safeCore stageCore
  simp [view]

/-- Every consumer takes the stage (R164). -/
theorem consumeStage_shifts (n : Nat) :
    Shifts (fun c => { c with stageMoc := n, stageSmu := n, stageLtc := n, stageSsq := n }) s (consumeStage n s)
    ∧ (RestInv s → RestInv (consumeStage n s)) := by
  have smoke (u : State) : Shifts (fun c => { c with stageSmu := n }) u (smokeTakeShed n u) := .of_core (smokeTakeShed_core u n)
  have lights (u : State) : Shifts (fun c => { c with stageLtc := n }) u (onLtc (·.takeShed n) u) := .of_core (lightsTakeShed_core u n)
  refine ⟨(soundTakeShed_shifts s n).trans ((motionTakeShed_shifts _ n).trans ((smoke _).trans (lights _))), fun h => ?_⟩
  have moved := motionTakeShed_rest { s with ssq := s.ssq.takeShed n } n (rest_of_same (s := s) rfl h)
  refine rest_of_same (s := motionTakeShed n { s with ssq := s.ssq.takeShed n }) ?_ moved
  exact congrArg (fun c : SafeCore => restOf c.moc) (smokeTakeShed_core (motionTakeShed n { s with ssq := s.ssq.takeShed n }) n)

/-! ## The stage is formed (R164) -/

/-- The stage formed from what PWS has told all blocks is the greatest contribution, and every block holds it. -/
theorem formStage_told (h : (stageCore s).Told) : StageInv (formStage s) := by
  unfold formStage
  dsimp only
  split
  · rename_i same
    exact (stageInv_iff s).mpr ⟨h, same.symm⟩
  · generalize hu : (pushNotice (.shedStage s.pws.stageNow) (publish (fun v => { v with shedStage := s.pws.stageNow })
      (onPws (fun p => { p with shedStage := s.pws.stageNow }) s)) : State) = u
    have told : stageCore u = { stageCore s with shedStage := s.pws.stageNow, stageRcu := s.pws.stageNow } := by
      rw [← hu]
      rfl
    have taken := (consumeStage_shifts u s.pws.stageNow).1.stage
    rw [told] at taken
    rw [stageInv_iff, taken]
    exact ⟨⟨h.part, h.sag, h.thermal, rfl, rfl, rfl, rfl, rfl, h.powerRcu, h.powerMoc, h.powerCfs⟩, rfl⟩

theorem formStage_ranges :
    (RestInv s → RestInv (formStage s)) ∧ (DriveInv s → DriveInv (formStage s)) ∧ (SoundInv s → SoundInv (formStage s)) := by
  unfold formStage
  dsimp only
  split
  · exact ⟨id, id, id⟩
  · obtain ⟨taken, rest⟩ := consumeStage_shifts (pushNotice (.shedStage s.pws.stageNow) (publish (fun v => { v with shedStage := s.pws.stageNow })
      (onPws (fun p => { p with shedStage := s.pws.stageNow }) s))) s.pws.stageNow
    exact ⟨fun h => rest (rest_of_same (s := s) rfl h), fun d => taken.drive ⟨d.front, d.rear, d.slipCap, d.slipCount, d.shadows, d.shown⟩,
      fun d => taken.sound ⟨d.buffers, d.compare, d.clips, d.underruns, d.shown⟩⟩

/-- A move of the stage core that PWS tells all blocks, and the stage formed after it. -/
theorem Keeps.form {f : StageCore → StageCore} {s u : State} (moves : Shifts f s u) (same : restOf u.moc = restOf s.moc)
    (told : (stageCore s).Told → (f (stageCore s)).Told) : Keeps s (formStage u) := by
  obtain ⟨rest, drive, sound⟩ := formStage_ranges u
  refine ⟨fun h => formStage_told u ?_, rest ∘ rest_of_same same, drive ∘ moves.drive, sound ∘ moves.sound⟩
  rw [moves.stage]
  exact told ((stageInv_iff s).mp h).1

/-! ## The contributions and the power states (R160 to R162, R165, R167) -/

theorem enterPower_keeps (p : PowerState) : Keeps s (enterPower p s) := by
  have sag (u : State) : safeCore (if p = .run then setSagTimer u else u) = safeCore u := by
    simp only [apply_ite safeCore, safe_setSagTimer, ite_self]
  unfold enterPower
  dsimp only
  refine Keeps.form (f := fun c => { c with power := p, powerRcu := p, powerMoc := p, powerCfs := p, powerPart := powerPartOf p })
    (Shifts.steers ?_ (.of_safe (sag _))) (congrArg (fun c : SafeCore => restOf c.moc) (sag _))
    fun h => ⟨rfl, h.sag, h.thermal, h.stageRcu, h.stageMoc, h.stageSmu, h.stageLtc, h.stageSsq, rfl, rfl, rfl⟩
  exact ⟨rfl, fun d => ⟨d.front, d.rear, d.slipCap, d.slipCount, d.shadows, d.shown⟩,
    fun d => ⟨d.buffers, d.compare, d.clips, d.underruns, d.shown⟩⟩

/-- PWS enters a power state after a change of its timers. -/
theorem enterPower_after {u : State} (p : PowerState) (h : safeCore u = safeCore s) : Keeps s (enterPower p u) :=
  (Keeps.of_safe h).trans (enterPower_keeps u p)

theorem enterHalt_keeps : Keeps s (enterHalt s) := enterPower_after s _ rfl

theorem enterRun_keeps : Keeps s (enterRun s) := enterPower_after s _ rfl

theorem enterBridge_keeps : Keeps s (enterBridge s) := enterPower_after s _ rfl

theorem enterSettle_keeps : Keeps s (enterSettle s) := enterPower_after s _ (by split <;> rfl)

theorem trackLost_keeps : Keeps s (trackLost s) := by
  unfold trackLost
  split
  · exact .ite (enterBridge_keeps s) (enterHalt_keeps s)
  · exact enterHalt_keeps s
  all_goals exact .refl s

theorem trackPresent_keeps : Keeps s (trackPresent s) := by
  unfold trackPresent
  split
  · exact enterRun_keeps s
  · exact enterSettle_keeps s
  all_goals exact .refl s

theorem qualifyTrack_keeps : Keeps s (qualifyTrack s) :=
  Keeps.trans (t := onPws (fun p => { p with qualification := .stopped, trackPresent := p.towardPresent }) s) (.of_safe rfl)
    (.ite (.refl _) (.ite (trackPresent_keeps _) (trackLost_keeps _)))

/-- The sag contribution stays within 3 (R165). -/
theorem stepSag_keeps : Keeps s (stepSag s) := by
  unfold stepSag
  dsimp only
  refine Keeps.form (f := fun c => { c with sagPart := if s.pws.sagRaise then countUp c.sagPart 3 else c.sagPart - 1 }) (.of_core ?_) rfl
    fun h => ⟨h.part, ?_, h.thermal, h.stageRcu, h.stageMoc, h.stageSmu, h.stageLtc, h.stageSsq, h.powerRcu, h.powerMoc, h.powerCfs⟩
  · rw [safe_setSagTimer]
    rfl
  · have sag := h.sag
    dsimp only
    split
    · exact Nat.min_le_right _ _
    · omega

theorem powerTakeComparator_keeps (c : Comparator) (high : Bool) : Keeps s (powerTakeComparator c high s) := by
  cases c with
  | trackPresent => exact .of_safe rfl
  | trackSag =>
    refine .of_safe ?_
    simp only [powerTakeComparator, powerTakeSag, apply_ite safeCore, safe_setSagTimer]
    exact ite_self _
  | capReserve => exact Keeps.trans (t := onPws (fun p => { p with reserveView := high }) s) (.of_safe rfl) (.ite (enterHalt_keeps _) (.refl _))
  | capResume =>
    refine .of_safe ?_
    simp only [powerTakeComparator, powerTakeResume, startDelay]
    split
    · split <;> rfl
    · rfl

theorem judgeComparator_keeps (c : Comparator) : Keeps s (judgeComparator c s) := by
  have output (high : Bool) (u : State) : Keeps u (onBmu (·.setOutput c high) u) :=
    .of_safe (safe_onBmu u (by cases c <;> rfl) (by cases c <;> rfl))
  exact .ite (.refl s) ((output _ s).trans (powerTakeComparator_keeps _ c _))

/-- The thermal contribution is 0, 2 or 4 (R167). -/
theorem thermalPartOf_mem (held : Nat) (t : Int) (warning : Nat) :
    thermalPartOf held t warning = 0 ∨ thermalPartOf held t warning = 2 ∨ thermalPartOf held t warning = 4 := by
  unfold thermalPartOf
  split
  · split
    · simp
    · split <;> simp
  · split
    · split
      · simp
      · split <;> simp
    · split
      · simp
      · split <;> simp

theorem powerTakeDie_keeps (t : Int) : Keeps s (powerTakeDie t s) := by
  unfold powerTakeDie
  dsimp only
  exact Keeps.form (f := fun c => { c with thermalPart := thermalPartOf c.thermalPart t s.cfg.thermalWarning }) (.of_core rfl) rfl
    fun h => ⟨h.part, h.sag, thermalPartOf_mem _ _ _, h.stageRcu, h.stageMoc, h.stageSmu, h.stageLtc, h.stageSsq, h.powerRcu, h.powerMoc,
      h.powerCfs⟩

theorem endLoad_keeps : Keeps s (endLoad s) :=
  Keeps.trans (t := pushNotice (.started (s.pws.storeReport.getD false) (s.pws.soundReport.getD false)) s) (.of_safe rfl)
    (.ite (enterSettle_keeps _) (enterHalt_keeps _))

end Sys2Proof.Laws
end

section
/-! SUPPORT. The operations of the sound, the diagnosis, the measurements, the store and the ports: each keeps the stage, the rest and the
ranges. -/

namespace Sys2Proof.Laws

open Sys2Proof.Machine

variable (s : State)

/-- What runs after a move of the core. -/
theorem Keeps.after {s u t : State} (h : safeCore u = safeCore s) (k : Keeps u t) : Keeps s t := (Keeps.of_safe h).trans k

/-- What leaves the core as it stands. -/
theorem Keeps.then {s t u : State} (k : Keeps s t) (h : safeCore u = safeCore t) : Keeps s u := k.trans (.of_safe h)

/-- A run over a list keeps what each of its steps keeps. -/
theorem Keeps.foldl {α : Type} {f : State → α → State} (h : ∀ u a, Keeps u (f u a)) (l : List α) (s : State) : Keeps s (l.foldl f s) :=
  foldl_keeps (P := Keeps s) (fun u a k => k.trans (h u a)) l s (.refl s)

/-! ## The sound (chapter 6) -/

/-- SSQ changed with its voices in their sizes keeps all. -/
theorem Keeps.onSsq {s : State} {q : Ssq} (h : SoundStays s.ssq q) : Keeps s { s with ssq := q } := (Steers.onSsq h).keeps_same rfl

/-- A read transfer that ends leaves the voices (R100, R107). -/
theorem endTransfer_stays (q : Ssq) : SoundStays q { q with transfer := none } := ⟨rfl, rfl, rfl, rfl, id⟩

theorem takeHeader_stays (q : Ssq) (c : Configuration) (bytes : List Byte) : SoundStays q (q.takeHeader c bytes) := by
  have table (clips : Vector (Option Descriptor) 64) (fault : Bool) :
      SoundStays q { q with transfer := none, clips := clips, soundFault := fault } := ⟨rfl, rfl, rfl, rfl, id⟩
  unfold Ssq.takeHeader
  by_cases good : headerGood bytes = true
  · rw [if_pos good]
    exact table _ _
  · rw [if_neg good]
    exact table _ _

/-- A boundary's decision leaves the buffer and the burst (R105). -/
theorem continuation_fits (v : Voice) (d : Descriptor) (held : Bool) (fit : VoiceFits v) : VoiceFits (v.continuation d held) := by
  unfold Voice.continuation
  split
  · split
    · split <;> exact fit
    · exact fit
  · exact fit

/-- A burst in flight becomes as many samples of the buffer (R107). -/
theorem burstLands_stays (q : Ssq) (c : Configuration) (samples : List Byte) : SoundStays q (q.burstLands c samples) := by
  unfold Ssq.burstLands
  split
  · exact .refl q
  · exact .refl q
  · rename_i i _ _ _
    dsimp only
    split
    · exact endTransfer_stays q
    · rename_i n burst
      refine (endTransfer_stays q).trans (mapVoice_stays { q with transfer := none } i fun fit => ?_)
      have landed : VoiceFits { q.voices[i] with
          buffer := (q.voices[i]).buffer ++ clockedIn samples n, fetchPos := (q.voices[i]).fetchPos + n, burst := none, awaiting := false } := by
        have inFlight : (q.voices[i]).burst = some n := burst
        have size : (q.voices[i]).buffer.length + ((q.voices[i]).burst.getD 0) ≤ 64 := fit
        rw [inFlight] at size
        simpa [VoiceFits, clockedIn] using size
      split
      · exact continuation_fits _ _ _ landed
      · exact landed

/-- A voice that runs out of samples holds no more than before (R108). -/
theorem ranOut_fits (v : Voice) (fit : VoiceFits v) : VoiceFits v.ranOut := by
  unfold Voice.ranOut
  split
  · exact fit
  · split
    · exact voiceFits_empty rfl rfl
    · exact fit
  · exact fit

/-- A sample yielded leaves the buffer or shortens it (R108). -/
theorem sample_fits (v : Voice) (fit : VoiceFits v) : VoiceFits v.sample.2.1 := by
  unfold Voice.sample
  split
  · exact fit
  · split
    · exact fit
    · split
      · rename_i b rest buffer
        have shorter : VoiceFits { v with buffer := rest } := by
          simp only [VoiceFits, buffer, List.length_cons] at fit ⊢
          omega
        dsimp only
        split
        · exact ranOut_fits _ shorter
        · exact shorter
      · split
        · exact fit
        · exact ranOut_fits v fit
        · exact ranOut_fits v fit

/-- A burst of at most 32 samples starts for a voice of at most 32 (R106). -/
theorem startBurst_stays (q : Ssq) : SoundStays q q.startBurst := by
  unfold Ssq.startBurst
  split
  · exact .refl q
  · split
    · exact .refl q
    · rename_i i found
      dsimp only
      have eligible := List.find?_some found
      simp only [Voice.eligible, Bool.and_eq_true, decide_eq_true_eq] at eligible
      have starts (n : Nat) (few : n ≤ 32) : SoundStays q (q.mapVoice i fun v => { v with burst := some n }) :=
        mapVoice_stays q i fun _ => by
          have := eligible.2
          simp only [VoiceFits, Option.getD_some]
          omega
      obtain ⟨_, _, _, _, voices⟩ := starts _ (Nat.min_le_left 32
        ((q.voices[i]).boundary (q.descriptorOf q.voices[i]) - (q.voices[i]).fetchPos))
      exact ⟨rfl, rfl, rfl, rfl, voices⟩

/-- One audio sample and its publication (R108, R118). -/
theorem execAudioSample_keeps (timer : Timer) :
    Keeps s (publishSound { s with ssq := { s.ssq.audioSample with sampleTimer := timer } }) := by
  have stage : s.ssq.audioSample.shedView = s.ssq.shedView := by
    unfold Ssq.audioSample
    dsimp only
    split
    · rfl
    · exact (startBurst_stays _).shed
  refine ⟨fun h => ?_, rest_of_same rfl, fun d => ⟨d.front, d.rear, d.slipCap, d.slipCount, d.shadows, d.shown⟩, fun d => ?_⟩
  · exact ⟨h.part, h.sag, h.thermal, h.greatest, h.stageRcu, h.stageMoc, h.stageSmu, h.stageLtc, stage.trans h.stageSsq, h.powerRcu,
      h.powerMoc, h.powerCfs⟩
  · unfold Ssq.audioSample
    dsimp only
    split
    · exact ⟨d.buffers, d.compare, d.clips, d.underruns, rfl, rfl⟩
    · have level (y : Int) : (clampInt y (-512) 511 + 512).toNat ≤ 1023 := by
        have := clampInt_range (x := y) (low := -512) (high := 511) (by decide)
        omega
      have count {b : Prop} [Decidable b] : (if b then countUp s.ssq.soundClips 65535 else s.ssq.soundClips) ≤ 65535 := by
        split
        · exact Nat.min_le_right _ _
        · exact d.clips
      generalize hq : ({ s.ssq with
        voices := _, underruns := _, soundClips := _, outputCompare := _ } : Ssq) = q
      have sampled : SoundStays q q.startBurst := startBurst_stays q
      have fits : VoicesFit q := fun i => by
        rw [← hq]
        simpa using sample_fits _ (d.buffers i)
      exact ⟨sampled.voices fits, by rw [sampled.compare, ← hq]; exact level _, by rw [sampled.clips, ← hq]; exact count,
        by rw [sampled.underruns, ← hq]; exact Nat.min_le_right _ _, rfl, rfl⟩

/-- PLAY queues a clip, or starts it on an empty buffer (R116, R117). -/
theorem servePlay_keeps (voice clip : Byte) (gain : Word16) (timing : Byte) : Keeps s (servePlay voice clip gain timing s).2 := by
  unfold servePlay
  dsimp only
  split
  · exact .refl s
  · split
    · split
      · exact .refl s
      · split
        · exact .refl s
        · split
          · exact .onSsq (mapVoice_stays _ _ id)
          · exact .onSsq (mapVoice_stays _ _ fun _ => voiceFits_empty rfl rfl)
    · exact .refl s

/-- One beat (R95). -/
theorem emitBeat_keeps : Keeps s (emitBeat s) := by
  have beats (u : State) : Keeps u (lightsTakeBeat (smokeTakeBeat { u with ssq := u.ssq.takeBeat u.cfg })) :=
    (Keeps.onSsq (takeBeat_stays _ _)).then (by rw [safe_lightsTakeBeat, safe_smokeTakeBeat])
  exact Keeps.after (u := publishBeats (onBtg (·.countBeat) s)) rfl (beats _)

theorem beatSample_keeps (g : GapSample) : Keeps s (beatSample g s) := by
  have emits (f : Btg → Btg) (u : State) : Keeps u (emitBeat (onBtg f u)) := .after (safe_onBtg u f) (emitBeat_keeps _)
  have counts (f : Btg → Btg) (u : State) : Keeps u (onBtg f u) := .of_safe (safe_onBtg u f)
  unfold beatSample
  dsimp only
  exact (counts _ s).trans (.ite (.ite (emits _ _) (.refl _)) (.ite (emits _ _) (counts _ _)))

/-! ## The diagnosis (chapter 10) -/

/-- A record reaches the owner of its output (R169). -/
theorem consumeRecord_keeps (o : Output) (r : FaultRecord) : Keeps s (consumeRecord o r s) := by
  cases o with
  | truck t => exact (motionTakeFault_keeps s t r.state).then (safe_onBtg _ _)
  | heater => exact .of_safe (safe_smokeTakeFault s r)
  | fan => exact .refl s
  | light n => exact .of_safe (safe_lightsTakeFault s n r.state)

theorem publishRecord_keeps (o : Output) : Keeps s (publishRecord o s) :=
  Keeps.after (u := publish (fun v => { v with faults := v.faults.set (outputIndex o) (s.odu.watch o).record }) s) rfl
    (consumeRecord_keeps _ o _)

theorem publishFault_keeps (o : Output) : Keeps s (publishFault o s) := (publishRecord_keeps s o).then (safe_publishSummary _)

/-- An output's watch changed, and its record published. -/
theorem publishFault_after {u : State} (o : Output) (h : safeCore u = safeCore s) : Keeps s (publishFault o u) :=
  .after h (publishFault_keeps u o)

theorem takeTrip_keeps (o : Output) : Keeps s (takeTrip o s) :=
  (publishFault_after s o (by rw [safe_mapWatch, safe_switchOutputOff])).then (safe_pushNotice _ _)

theorem takeMeasurement_keeps (o : Output) (current : Nat) : Keeps s (takeMeasurement o current s) := by
  have watches (f : Watch → Watch) : Keeps s (mapWatch o f s) := .of_safe (safe_mapWatch s o f)
  unfold takeMeasurement
  dsimp only
  exact .ite (.refl s) (.ite (.ite (publishFault_after s o (safe_mapWatch s o _)) (.refl s))
    (.ite (.ite (watches _) (.refl s)) (watches _)))

theorem clearOutput_keeps (o : Output) : Keeps s (clearOutput o s) := by
  have released : safeCore (if s.heldOff o then releaseOutput o s else s) = safeCore s := by
    simp only [apply_ite safeCore, safe_releaseOutput, ite_self]
  unfold clearOutput
  dsimp only
  exact .after ((safe_mapWatch _ o _).trans released) (publishRecord_keeps _ o)

theorem serveClearFaults_keeps (mask : OutputSet) : Keeps s (serveClearFaults mask s).2 :=
  (Keeps.foldl (fun u o => clearOutput_keeps u o) (outputsOf mask) s).then (safe_publishSummary _)

/-! ## The measurements (chapter 4) -/

theorem publishSample_keeps : Keeps s (publishSample s) := by
  have clears (f : Bmu → Bmu) (hf : (f s.bmu).front.dutyShadow = s.bmu.front.dutyShadow) (hr : (f s.bmu).rear.dutyShadow = s.bmu.rear.dutyShadow) :
      Keeps s (onBmu f s) := .of_safe (safe_onBmu s hf hr)
  have samples (l : List GapSample) (u : State) : Keeps u (onMoc (fun m => { m with samples := l }) u) := .onMoc rfl rfl rfl rfl rfl rfl
  unfold publishSample
  dsimp only
  exact (clears _ rfl rfl).trans ((samples _ _).trans (.after (safe_onBtg _ _) ((takeMeasurement_keeps _ _ _).trans
    ((takeMeasurement_keeps _ _ _).then (safe_completeSlots _ _)))))

theorem consumeResult_keeps (ch : Channel) (v : Int) : Keeps s (consumeResult ch v s) := by
  cases ch with
  | heaterI => exact takeMeasurement_keeps s _ _
  | fanI => exact takeMeasurement_keeps s _ _
  | lightI n => exact takeMeasurement_keeps s _ _
  | dieT => exact powerTakeDie_keeps s v
  | _ => exact .of_safe rfl

theorem endConversion_keeps (ch : Channel) (v : Int) : Keeps s (endConversion ch v s) := by
  unfold endConversion
  dsimp only
  exact .after (safe_onBmu s rfl rfl) ((consumeResult_keeps _ ch _).then (by rw [safe_startConversion, safe_completeSlots]))

/-! ## The store (chapter 11) -/

/-- A binding taken from its voices leaves their sizes (R120). -/
theorem ownerTakes_keeps (i : Item) (e : Nat) (old : Configuration) : Keeps s (ownerTakes i e old s) := by
  have smoke {t : State} (h : safeCore t = safeCore s) : Keeps s t := .of_safe h
  cases i with
  | ki => exact (zeroIntegrators_steers s).keeps_same rfl
  | trackPresentLevel => exact judgeComparator_keeps s _
  | trackSagLevel => exact judgeComparator_keeps s _
  | capReserveLevel => exact judgeComparator_keeps s _
  | capResumeLevel => exact judgeComparator_keeps s _
  | beatSource => exact smoke (safe_beatSourceChanged s _)
  | keyBindings => exact .onSsq (disown_stays _ _)
  | smokeTemps => exact smoke (by simp only [ownerTakes, smokeTempsChanged, apply_ite safeCore, safe_disarmDry, ite_self])
  | fluidCapacity => exact smoke (by simp only [ownerTakes, capacityChanged, apply_ite safeCore, safe_setFluid, ite_self])
  | fanPuffLevel => exact smoke (by simp only [ownerTakes, fanPuffChanged, apply_ite safeCore, safe_setFan, ite_self])
  | fanBetweenLevel => exact smoke (by simp only [ownerTakes, fanLevelChanged, apply_ite safeCore, safe_fanBetween, ite_self])
  | fanIdleLevel => exact smoke (by simp only [ownerTakes, fanLevelChanged, apply_ite safeCore, safe_fanBetween, ite_self])
  | sceneKey => exact smoke (safe_evaluateScene s)
  | _ => exact .refl s

theorem applyConfig_keeps (i : Item) (e : Nat) (ns : List Nat) : Keeps s (applyConfig i e ns s) := by
  unfold applyConfig
  dsimp only
  exact .after (u := onCfs (fun c => { c with working := s.cfg.put i e ns, dirty := true, writtenDuring := c.writtenDuring || c.writing }) s)
    rfl (.ite (.refl _) (ownerTakes_keeps _ i e _))

theorem serveConfigWrite_keeps (item entry : Byte) (value : List Byte) : Keeps s (serveConfigWrite item entry value s).2 := by
  have writes (i : Item) (e : Nat) (ns : List Nat) : Keeps s (writeItem i e ns s).2 := by
    unfold writeItem
    split
    · exact .refl s
    · split
      · exact .refl s
      · exact applyConfig_keeps s i e _
  unfold serveConfigWrite
  split
  · exact .refl s
  · split
    · exact .refl s
    · split
      · exact .refl s
      · split
        · exact .refl s
        · exact writes _ _ _

theorem serveCommit_keeps (src : Source) (posted : Bool) (tag : Byte) : Keeps s (serveCommit src posted tag s).2 := by
  unfold serveCommit
  split
  · exact .refl s
  · split
    · exact .refl s
    · split
      · exact .refl s
      · cases src <;> exact .of_safe rfl

/-! ## The fields of the record (chapter 1) -/

theorem setKeys_keeps (k : KeySet) : Keeps s (setKeys k s) := by
  have takes (u : State) : Keeps u (lightsTakeKeys k { u with ssq := u.ssq.takeKeys u.cfg k }) :=
    (Keeps.onSsq (takeKeys_stays _ _ _)).then (safe_lightsTakeKeys _ _)
  exact .ite (.refl s) (.after (u := onRcu (fun r => { r with keys := k }) s) rfl (takes _))

theorem setNumeric_keeps (f : Field) (n : Nat) : Keeps s (setNumeric f n s) := by
  cases f with
  | targetNotch => exact .after (u := onRcu (fun r => { r with targetNotch := n }) s) rfl (motionTakeDriveWrite_keeps _ _ _)
  | brake => exact .ite (.refl s) (.after (u := onRcu (fun r => { r with brake := n }) s) rfl (motionTakeBrake_keeps _ _))
  | smokeLevel => exact .ite (.refl s) (.of_safe (safe_smokeTakeLevel (onRcu (fun r => { r with smokeLevel := n }) s) n))
  | volume =>
    exact .ite (.refl s) (.after (u := onRcu (fun r => { r with volume := n }) s) rfl
      (.onSsq (q := { s.ssq with volumeView := n }) ⟨rfl, rfl, rfl, rfl, id⟩))
  | _ => exact .refl s

theorem setDirection_keeps (d : Direction) : Keeps s (setDirection d s) :=
  .ite (.refl s) (.after (u := onRcu (fun r => { r with direction := d }) s) rfl (motionTakeDirection_keeps _ d))

theorem writeField_keeps (f : Field) (v : Word32) : Keeps s (writeField f v s).2 := by
  have numeric (g : Field) (top n : Nat) : Keeps s (writeNumeric g top n s).2 := setNumeric_keeps s g _
  cases f with
  | direction =>
    simp only [writeField, writeDirection]
    split
    · exact .refl s
    · exact setDirection_keeps s _
  | keys => exact setKeys_keeps s v
  | restarted =>
    simp only [writeField, writeRestarted]
    split
    · exact .of_safe rfl
    · exact .refl s
  | _ => exact numeric _ _ _

/-- A request on a field is refused, or changes it (R7). -/
theorem guardField_keeps (src : Source) (field : Byte) (defined : Field → Bool) {k : Field → Answer × State} (h : ∀ f, Keeps s (k f).2) :
    Keeps s (guardField src field defined s k).2 := by
  rcases guardField_cases s src field defined k with ⟨_, e⟩ | ⟨f, _, _, e⟩ <;> rw [e]
  · exact .refl s
  · exact h f

theorem serveRelease_keeps (src : Source) (choice : Byte) : Keeps s (serveRelease src choice s).2 := by
  have stops : Keeps s (stopNotch s) := .ite (.refl s) (.after (u := onRcu (fun r => { r with targetNotch := 0 }) s) rfl (motionTakeStop_keeps _))
  have frees (u : State) : Keeps u (setHolder (frameOf src) .none (onRcu (fun r => { r with lease := .stopped }) u)) :=
    .of_safe ((safe_setHolder _ _ _).trans rfl)
  unfold serveRelease
  split
  · exact .refl s
  · split
    · exact .refl s
    · exact Keeps.trans (.ite stops (.refl s)) (frees _)

/-! ## Requests (1.4) -/

theorem serveOwner_keeps (src : Source) (posted : Bool) (tag : Byte) (b : Body) : Keeps s (serveOwner src posted tag b s).2 := by
  have still {t : State} (h : safeCore t = safeCore s) : Keeps s t := .of_safe h
  cases b with
  | read f sel =>
    simp only [serveOwner, serveRead]
    split
    · exact .refl s
    · split
      · exact .refl s
      · split <;> exact .refl s
  | write f v =>
    rw [serveOwner, serveWrite_eq]
    exact guardField_keeps s _ _ _ fun f => writeField_keeps s f v
  | add f imm => exact guardField_keeps s _ _ _ fun f => setNumeric_keeps s f _
  | keys f m st => exact guardField_keeps s _ _ _ fun _ => setKeys_keeps s _
  | flip f m => exact guardField_keeps s _ _ _ fun _ => setKeys_keeps s _
  | swap f v =>
    simp only [serveOwner, serveSwap]
    split
    · exact .refl s
    · exact guardField_keeps s _ _ _ fun f => setNumeric_keeps s f _
  | claim e n =>
    simp only [serveOwner, serveClaim]
    split
    · exact .refl s
    · split
      · exact .refl s
      · split
        · exact still (by rw [takeClaim, safe_setHolder, safe_setFailsafe, safe_startLease])
        · exact .refl s
  | release c => exact serveRelease_keeps s src c
  | haltNow => exact .after (u := onRcu (fun r => { r with targetNotch := 0 }) s) rfl (motionHalt_keeps _)
  | measure ch =>
    simp only [serveOwner, serveMeasure]
    split
    · exact .refl s
    · split
      · exact .refl s
      · exact still rfl
  | play v c g t => exact servePlay_keeps s v c g t
  | refill a =>
    refine still ?_
    simp only [serveOwner, serveRefill, apply_ite safeCore, safe_enterSmoke, safe_disarmDry, safe_setFluid, ite_self]
  | sceneWrite r st d codes =>
    have sets (r : SceneRow) (n : Nat) (x : SceneStep) (l : Ltc) : (l.setStep r n x).shedView = l.shedView := by cases r <;> rfl
    have latches (r : SceneRow) (l : Ltc) : (l.latchStep r 0).shedView = l.shedView := rfl
    simp only [serveOwner, serveSceneWrite]
    split
    · exact .refl s
    · split
      · exact .refl s
      · refine still ?_
        dsimp only
        split
        · exact (safe_onLtc _ (latches _ _)).trans (safe_onLtc _ (sets _ _ _ _))
        · exact safe_onLtc _ (sets _ _ _ _)
  | clearFaults m => exact serveClearFaults_keeps s m
  | configRead i e =>
    simp only [serveOwner, serveConfigRead]
    split
    · exact .refl s
    · split
      · exact .refl s
      · split <;> exact .refl s
  | configWrite i e v => exact serveConfigWrite_keeps s i e v
  | commit => exact serveCommit_keeps s src posted tag

theorem serve_keeps (src : Source) (posted : Bool) (tag : Byte) (b : Body) : Keeps s (serve src posted tag b s).2 := by
  refine (serveOwner_keeps s src posted tag b).then ?_
  simp only [serve, refreshLease, apply_ite safeCore, safe_startLease, ite_self]

theorem hostRequest_keeps (h : Head) (b : Body) : Keeps s (hostRequest h b s) := by
  have served : Keeps s (hostServe h b s).2 := by
    unfold hostServe
    split
    · exact .refl s
    · split
      · exact .refl s
      · split
        · exact .refl s
        · exact serve_keeps s _ _ _ _
  exact .ite (.refl s) (.ite (.of_safe (safe_framingError s)) (served.then (safe_hostAnswer _ _ _ _)))

theorem radioRequest_keeps (id : Byte) (h : Head) (b : Body) : Keeps s (radioRequest id h b s) := by
  have served (u : State) : Keeps u (radioServe id h.posted h.tag b.kind (handOn h b) u).2 := by
    rcases radioServe_cases u id h.posted h.tag b.kind (handOn h b) with ⟨_, e⟩ | ⟨_, _, e⟩ <;> rw [e]
    · exact .refl u
    · exact serve_keeps u _ _ _ _
  unfold radioRequest
  exact .ite (.refl s) (.after (safe_hearThrottle s id) ((served _).then rfl))

theorem takeRequest_keeps (h : Head) (b : Body) : Keeps s (takeRequest h b s) := by
  unfold takeRequest
  split
  · exact hostRequest_keeps s h b
  · exact radioRequest_keeps s _ h b

/-! ## Frames (2.4) -/

theorem radioRun_keeps (id : Byte) (consist : Option Configuration) (l : List RawRecord) : Keeps s (radioRun id consist l s).2 := by
  induction l generalizing s with
  | nil => exact .refl s
  | cons r rs ih =>
    have first : Keeps s (radioRecord id consist r s).2 := by
      rcases radioRecord_cases s id consist r with ⟨_, e⟩ | ⟨_, _, e⟩ <;> rw [e]
      · exact .refl s
      · exact serve_keeps s _ _ _ _
    exact first.trans (ih _)

theorem continueFrame_keeps (run : FrameRun) : Keeps s (continueFrame run s) := by
  have runs (l : List RawRecord) : Keeps s (radioRun run.thr run.consist l { s with frameBreaks := s.frameBreaks.tail }).2 :=
    .after (u := { s with frameBreaks := s.frameBreaks.tail }) rfl (radioRun_keeps _ _ _ l)
  rcases continueFrame_cases run s with ⟨_, e⟩ | ⟨_, e⟩ <;> rw [e]
  · have answers (r : FrameRun) (u : State) : safeCore (answerFrame r u) = safeCore u := by
      simp only [answerFrame, apply_ite safeCore, safe_offerReply, ite_self]
    exact (runs _).then (answers _ _)
  · exact (runs _).then (safe_onRif _ _)

theorem takeFrame_keeps : Keeps s (takeFrame s) := by
  have accepts (p : Frame) (t : Time) (l : List RawRecord) (a : Addressing) (u : State) : Keeps u (acceptFrame p t l a u) :=
    .after (u := frameArrives p.thr (onRif (·.hear p.thr p.seq t) u)) (by rw [safe_frameArrives, safe_onRif]) (continueFrame_keeps _ _)
  have handles (f : CompletedFrame) (u : State) : Keeps u (handleFrame f u) := by
    unfold handleFrame
    split
    case h_7 => exact accepts _ _ _ _ u
    all_goals exact .of_safe (safe_countRadio u _)
  unfold takeFrame
  split
  · exact .after (safe_onRif s _) (continueFrame_keeps _ _)
  · exact .refl s
  · exact .after (safe_onRif s _) (handles _ _)

theorem expireLease_keeps : Keeps s (expireLease s) := by
  have loses : Keeps s (motionTakeLoss s.cfg.lossAction (onRcu (fun r => { r with targetNotch := 0, lease := .stopped }) s)) :=
    .after (safe_onRcu s rfl) (motionTakeLoss_keeps _ _)
  unfold expireLease
  dsimp only
  exact loses.then (by rw [safe_setHolder, safe_pushNotice, safe_setFailsafe])

end Sys2Proof.Laws
end

section
/-! SUPPORT. Every command keeps the stage, the rest and the ranges. -/

namespace Sys2Proof.Laws

open Sys2Proof.Machine

variable (s : State)

/-! ## Reset and its release (R156, R157) -/

/-- Device reset sets all that the stage, the rest and the ranges turn on. -/
theorem deviceReset_keeps : Keeps s (deviceReset s) where
  stage := fun _ => ⟨rfl, Nat.zero_le 3, .inl rfl, rfl, rfl, rfl, rfl, rfl, rfl, rfl, rfl, rfl⟩
  rest  := fun _ => ⟨iff_of_true rfl rfl, iff_of_false nofun fun latched => latched.2 rfl, fun _ => rfl⟩
  drive := fun _ => by
    have truck : TruckControl.InRange {} := by constructor <;> decide
    exact ⟨truck, truck, Nat.le_refl 1023, Nat.zero_le 3, ⟨Nat.zero_le _, Nat.zero_le _⟩, Nat.zero_le _, Nat.zero_le _⟩
  sound := fun _ => by
    have silent : ∀ i : Fin 6, (State.reset.ssq.voices[i]).buffer.length + ((State.reset.ssq.voices[i]).burst.getD 0) ≤ 64 := by decide
    exact ⟨silent, (by decide : State.reset.ssq.outputCompare ≤ 1023), Nat.zero_le _, Nat.zero_le _, rfl, rfl⟩

theorem release_keeps (trackV capV : Nat) : Keeps s (release trackV capV s) := by
  have load (u : State) : Keeps u (loadConfiguration u) := by
    unfold loadConfiguration
    generalize u.cfs.image.good = good
    exact .of_safe rfl
  have record (u : State) : Keeps u (initRecord u) := by
    have takes (v : State) (k : KeySet) (n : Nat) : Keeps v { v with ssq := { v.ssq with keysView := k, volumeView := n } } :=
      .onSsq ⟨rfl, rfl, rfl, rfl, id⟩
    unfold initRecord
    dsimp only
    exact .after (safe_onRcu u rfl) ((takes _ _ _).then ((safe_onLtc _ rfl)))
  have schedule (u : State) : Keeps u (startSchedule u) := .of_safe ((safe_appendChannel _ _).trans (safe_onBmu _ rfl rfl))
  have report (u : State) : Keeps u (firstReport u) := .of_safe rfl
  have beats (u : State) : Keeps u (startBeats u) := .of_safe rfl
  have smoke (u : State) : Keeps u (startSmoke u) := .of_safe rfl
  have lights (u : State) : Keeps u (startLights u) := .of_safe ((safe_onLtc _ rfl).trans (safe_evaluateScene u))
  have sound (u : State) : Keeps u (startSound u) := .onSsq ⟨rfl, rfl, rfl, rfl, id⟩
  have pins : Keeps s (onBmu (fun m => { m with trackPin := trackV, capPin := capV }) { s with inReset := false }) := .of_safe rfl
  unfold release
  exact pins.trans ((load _).trans ((record _).trans ((schedule _).trans ((report _).trans ((motionTakeSettings_keeps _).trans
    ((beats _).trans ((smoke _).trans ((lights _).trans (sound _)))))))))

/-! ## The commands -/

theorem released_keeps {s t : State} {f : State → State} (h : whenReleased f s = .next t) (hf : Keeps s (f s)) : Keeps s t :=
  whenReleased_keeps (P := Keeps s) (fun _ => hf) h (.refl s)

theorem expiry_keeps (timer : Timer) {f : State → State} (hf : ∀ u, Keeps u (f u)) : Keeps s (onExpiry timer f s) := by
  rcases onExpiry_cases s timer f with ⟨_, e⟩ | ⟨due, _, e⟩ <;> rw [e]
  · exact .refl s
  · exact .after (safe_reach s due) (hf _)

@[simp] theorem safe_undefinedRecord (r : UndefinedRecord) : safeCore (undefinedRecord r s) = safeCore s := by
  simp only [undefinedRecord, apply_ite safeCore, safe_framingError, safe_hostAnswer, ite_self]

@[simp] theorem safe_gapOnLink : safeCore (gapOnLink s) = safeCore s := by
  simp only [gapOnLink, apply_ite safeCore, safe_countRadio, safe_onRif, ite_self]

/-- Every command keeps the stage, the rest and the ranges. -/
theorem exec_keeps {c : Instr} {s t : State} (h : exec c s = .next t) : Keeps s t := by
  have still {u v : State} (e : safeCore v = safeCore u) : Keeps u v := .of_safe e
  cases hr : requestOf c with
  | some x =>
    rw [exec_request hr] at h
    exact released_keeps h (takeRequest_keeps s x.1 x.2)
  | none =>
    cases c with
    | resetnLow => cases h; exact deviceReset_keeps s
    | logicSupplyFail => cases h; exact deviceReset_keeps s
    | resetRelease trackV capV => cases h; exact .ite (release_keeps s trackV capV) (.refl s)
    | clipHeaderRead bytes =>
      refine released_keeps h (.ite ?_ (.refl s))
      exact (Keeps.onSsq (takeHeader_stays s.ssq s.cfg bytes)).then rfl
    | loadEnd => exact released_keeps h (.ite (endLoad_keeps s) (.refl s))
    | commitEnd good => exact released_keeps h (.ite (still (safe_endCommit s good)) (.refl s))
    | hostSelectFall =>
      cases h
      exact .ite (.of_safe rfl) (.ite (.refl s) (.of_safe rfl))
    | hostSelectRise =>
      cases h
      exact .ite (.of_safe rfl) (.of_safe rfl)
    | transactionFramingError cause =>
      dsimp only [exec, execTransactionFramingError] at h
      refine released_keeps h (still ?_)
      cases cause <;> simp only [apply_ite safeCore, safe_takeFirstByte, safe_framingError, ite_self]
    | notice => exact released_keeps h (still (safe_takeFirstByte s _))
    | status => exact released_keeps h (still (safe_takeFirstByte s _))
    | radioByte b => exact released_keeps h (still (safe_takeByte s b))
    | interByteTimerExpiry => exact released_keeps h (expiry_keeps s _ fun u => still (safe_gapOnLink u))
    | radioFrame => exact released_keeps h (takeFrame_keeps s)
    | replySent => exact released_keeps h (.ite (still (safe_onRif s _)) (.refl s))
    | throttleEntryAgeing id =>
      refine released_keeps h (still ?_)
      unfold ageEntry
      split
      · rfl
      · split <;> rfl
    | leaseExpiry => exact released_keeps h (expiry_keeps s _ expireLease_keeps)
    | controlStep =>
      dsimp only [exec, execControlStep] at h
      refine released_keeps h ?_
      split
      · exact .refl s
      · exact Keeps.trans (.onMoc rfl rfl rfl rfl rfl rfl) (controlStep_keeps _ _)
    | pwmPeriodStart => exact released_keeps h (.ite (.after (safe_reach s _) (still (safe_periodStart _))) (.refl s))
    | pwmCompareMatch t charge =>
      refine released_keeps h (.ite (still ((safe_setBridge (s.reach _) ?_).trans (safe_reach s _))) (.refl s))
      split <;> rfl
    | deadIntervalEnd t leg =>
      dsimp only [exec, execDeadIntervalEnd] at h
      refine released_keeps h ?_
      split
      · exact still ((safe_setBridge _ (endDead_dutyShadow _ _ _ _ _)).trans (safe_reach s _))
      · exact .refl s
      · exact .refl s
    | controlPeriodExpiry =>
      refine released_keeps h (expiry_keeps s _ fun u => still ?_)
      rw [safe_appendChannel, safe_appendChannel]
      exact safe_onBmu u rfl rfl
    | gapSettleExpiry f r => exact released_keeps h (expiry_keeps s _ fun u => still rfl)
    | gapConversionEnd => exact released_keeps h (expiry_keeps s _ publishSample_keeps)
    | conversionEnd value =>
      dsimp only [exec, execConversionEnd] at h
      refine released_keeps h ?_
      split
      · exact .refl s
      · exact .after (safe_reach s _) (endConversion_keeps _ _ _)
    | dieTimerExpiry => exact released_keeps h (expiry_keeps s _ fun u => still ((safe_appendChannel _ _).trans rfl))
    | supervisionComparatorChange k v =>
      dsimp only [exec, execSupervisionComparatorChange] at h
      exact released_keeps h (.after (safe_onBmu s (by cases k <;> rfl) (by cases k <;> rfl)) (judgeComparator_keeps _ k))
    | shortComparatorTrip o current => exact released_keeps h (.ite (takeTrip_keeps s o) (.refl s))
    | retryTimerExpiry o =>
      exact released_keeps h (expiry_keeps s _ fun u => publishFault_after u o (by rw [safe_releaseOutput, safe_mapWatch]))
    | probationTimerExpiry o => exact released_keeps h (expiry_keeps s _ fun u => publishFault_after u o (safe_mapWatch u o _))
    | openTimerExpiry o =>
      exact released_keeps h (expiry_keeps s _ fun u => (publishFault_after u o (safe_mapWatch u o _)).then (safe_pushNotice _ _))
    | beatSample =>
      dsimp only [exec, execBeatSample] at h
      refine released_keeps h ?_
      split
      · exact .refl s
      · exact .after (safe_onBtg s _) (beatSample_keeps _ _)
    | sensorEdge => exact released_keeps h (.ite (still (safe_onBtg s _)) (.refl s))
    | audioSample => exact released_keeps h (expiry_keeps s _ fun u => execAudioSample_keeps u _)
    | burstLands samples =>
      dsimp only [exec, execBurstLands] at h
      exact released_keeps h (.onSsq (burstLands_stays s.ssq s.cfg samples))
    | smokeTick =>
      exact released_keeps h (expiry_keeps s _ fun u => still (by rw [safe_appendChannel, safe_appendChannel, safe_appendChannel]; rfl))
    | regulationStep =>
      dsimp only [exec, execRegulationStep] at h
      refine released_keeps h ?_
      split
      · exact .refl s
      · exact still ((safe_regulationStep _ _).trans (safe_onSmu s rfl))
    | puffTimerExpiry => exact released_keeps h (expiry_keeps s _ fun u => still rfl)
    | heaterPwmPeriodStart => exact released_keeps h (still rfl)
    | fanPwmPeriodStart => exact released_keeps h (still rfl)
    | lightPwmPeriodStart n => exact released_keeps h (still rfl)
    | lightFrame =>
      exact released_keeps h (expiry_keeps s _ fun u => still (by rw [safe_appendLight, safe_lightFrame]; rfl))
    | trackQualificationExpiry => exact released_keeps h (expiry_keeps s _ qualifyTrack_keeps)
    | bridgeLimitExpiry => exact released_keeps h (expiry_keeps s _ enterHalt_keeps)
    | settleTimerExpiry => exact released_keeps h (expiry_keeps s _ enterRun_keeps)
    | sagTimerExpiry => exact released_keeps h (expiry_keeps s _ stepSag_keeps)
    | requestKindByte r =>
      refine released_keeps h (.ite ?_ (.refl s))
      cases r with
      | none => exact still (safe_takeFirstByte s _)
      | some r => exact .ite (still (safe_takeFirstByte s _)) (still ((safe_undefinedRecord _ r).trans (safe_takeFirstByte s _)))
    | heaterPwmCompare => exact released_keeps h (still rfl)
    | fanPwmCompare => exact released_keeps h (still rfl)
    | lightPwmCompare n => exact released_keeps h (still rfl)
    | _ => cases hr

/-- Every step keeps the stage, the rest and the ranges. -/
theorem step_keeps {s t : State} (h : step s = .next t) : Keeps s t := by
  unfold step at h
  split at h
  · cases h
    exact .of_safe rfl
  · rename_i rest _
    exact Keeps.after (u := { s with pending := rest }) rfl (exec_keeps h)

end Sys2Proof.Laws
end

section
/-! STATEMENTS. The invariants of the stage, the rest and the ranges. -/

namespace Sys2Proof.Record

open Sys2Proof.Machine Sys2Proof.Laws

/-- Settles O55: PWS forms the stage from what it has told all blocks, and MOC evaluates its state with P at 0 wherever it must rest. -/
theorem stepsKeepTheStage : Obligations.StepsKeepTheStage :=
  fun _ _ stage rest h => ⟨(step_keeps h).stage stage, (step_keeps h).rest rest⟩

/-- Settles O59: every command leaves the drive and the sound in their ranges. -/
theorem stepsKeepTheRanges : Obligations.StepsKeepTheRanges :=
  fun _ _ drive sound h => ⟨(step_keeps h).drive drive, (step_keeps h).sound sound⟩

end Sys2Proof.Record
end

section
/-! SUPPORT. One control step of the ramp value and of a ceiling, and many of them (R51, R52, R66). -/

namespace Sys2Proof.Laws

open Sys2Proof.Machine

/-! ## The ramp value (R51) -/

/-- Below its target P rises by ACCEL to at most the target, or at once where ACCEL is 0. -/
theorem moveRamp_rises {p target : Nat} (accel decel brake : Nat) (loss : Bool) (low : p < target) :
    moveRamp p target accel decel brake loss = if accel = 0 then target else min (p + accel) target := if_pos low

/-- From its target on P falls by 255 under a loss brake, to the target at least (R52). -/
theorem moveRamp_lossBrake {p target : Nat} (accel decel brake : Nat) (high : target ≤ p) :
    moveRamp p target accel decel brake true = max (p - 255) target := by
  unfold moveRamp
  rw [if_neg (by omega), if_pos rfl]
  split <;> omega

/-- From its target on P falls by DECEL with the brake, to the target at least, or at once where DECEL is 0. -/
theorem moveRamp_falls {p target : Nat} (accel decel brake : Nat) (high : target ≤ p) :
    moveRamp p target accel decel brake false = if decel = 0 then target else max (p - brakedDecel decel brake) target := by
  unfold moveRamp
  rw [if_neg (by omega), if_neg Bool.false_ne_true]
  split
  · rfl
  · split <;> omega

/-- P stays between its value and its target. -/
theorem moveRamp_between (p target accel decel brake : Nat) (loss : Bool) :
    (p ≤ target → p ≤ moveRamp p target accel decel brake loss ∧ moveRamp p target accel decel brake loss ≤ target)
    ∧ (target ≤ p → target ≤ moveRamp p target accel decel brake loss ∧ moveRamp p target accel decel brake loss ≤ p) := by
  have down (high : target ≤ p) : target ≤ moveRamp p target accel decel brake loss ∧ moveRamp p target accel decel brake loss ≤ p := by
    cases loss with
    | true =>
      rw [moveRamp_lossBrake accel decel brake high]
      omega
    | false =>
      rw [moveRamp_falls accel decel brake high]
      split <;> omega
  refine ⟨fun low => ?_, down⟩
  rcases Nat.lt_or_eq_of_le low with less | same
  · rw [moveRamp_rises accel decel brake loss less]
    split <;> omega
  · have := down (Nat.le_of_eq same.symm)
    omega

/-- Under a loss brake P falls by 255 in each control step until it is 0 (R52). -/
theorem lossBrake_iterate (accel decel brake p n : Nat) : (fun q => moveRamp q 0 accel decel brake true)^[n] p = p - 255 * n := by
  induction n with
  | zero => rfl
  | succ n ih =>
    rw [Function.iterate_succ_apply', ih, moveRamp_lossBrake accel decel brake (Nat.zero_le _)]
    omega

/-! ## The ceiling (R66) -/

/-- An excess cuts the ceiling by an eighth and one. -/
theorem nextCeiling_cut {current limit : Nat} (excess : limit < current) (l : Nat) : nextCeiling l current limit = l - l / 8 - 1 :=
  if_pos excess

/-- Without an excess the ceiling recovers by 8, to 1023. -/
theorem nextCeiling_recovers {current limit : Nat} (fits : current ≤ limit) (l : Nat) : nextCeiling l current limit = min 1023 (l + 8) :=
  if_neg (by omega)

/-- A higher ceiling stays the higher one through every number of cuts, and forty take the highest to 0. -/
theorem cut_iterate {l : Nat} (range : l ≤ 1023) : (fun x => x - x / 8 - 1)^[40] l = 0 := by
  have rises : Monotone fun x : Nat => x - x / 8 - 1 := fun a b le => by
    dsimp only
    omega
  have highest : (fun x : Nat => x - x / 8 - 1)^[40] 1023 = 0 := by decide
  have := rises.iterate 40 range
  omega

theorem recovery_iterate (l n : Nat) : (fun x => min 1023 (x + 8))^[n] (min 1023 l) = min 1023 (l + 8 * n) := by
  induction n with
  | zero => rfl
  | succ n ih =>
    rw [Function.iterate_succ_apply', ih]
    omega

end Sys2Proof.Laws
end

section
/-! STATEMENTS. The ramp value and the ceiling over the control steps. -/

namespace Sys2Proof.Record

open Sys2Proof.Machine Sys2Proof.Laws

/-- Settles O38: one step by its direction, and many by the closed form of their iterate. -/
theorem rampAndCeilingKeepTheirRanges : Obligations.RampAndCeilingKeepTheirRanges := by
  refine ⟨fun p target accel decel brake loss => ?_, fun p accel decel brake range => ?_, fun l limit current range => ⟨?_, ?_, ?_, ?_⟩⟩
  · obtain ⟨up, down⟩ := moveRamp_between p target accel decel brake loss
    refine ⟨up, down, fun low moves => ?_, fun high moves calm => ?_⟩
    · rw [moveRamp_rises accel decel brake loss low, if_neg (by omega)]
      omega
    · subst calm
      rw [moveRamp_falls accel decel brake high.le, if_neg (by omega)]
      unfold brakedDecel
      split <;> omega
  · rw [lossBrake_iterate]
    omega
  · exact nextCeiling_le range current limit
  · intro excess above
    rw [nextCeiling_cut excess]
    omega
  · intro excess
    simp only [nextCeiling_cut excess]
    exact cut_iterate range
  · intro fits
    simp only [nextCeiling_recovers fits]
    have all := recovery_iterate l 128
    rw [Nat.min_eq_right range] at all
    omega

end Sys2Proof.Record
end

section
/-! SUPPORT. What a motion state is to SMU, and what a duty handed to a bridge is to it and to ODU (R58, R60, R69, R133, R172). -/

namespace Sys2Proof.Laws

open Sys2Proof.Machine

variable (s : State)

/-! ## A motion state as SMU takes it (R58, R133) -/

/-- From `s` to `u` nothing but the fan, ODU's view of it and SMU's view of the motion state may have moved. -/
structure FanOnly (s u : State) : Prop where
  frame : u = { s with smu := u.smu, odu := u.odu }
  smu   : u.smu = { s.smu with motionView := u.smu.motionView, fan := u.smu.fan, fanPwm := u.smu.fanPwm }
  watch : ∀ o, o ≠ .fan → u.odu.watch o = s.odu.watch o

theorem FanOnly.refl : FanOnly s s := ⟨rfl, rfl, fun _ _ => rfl⟩

theorem FanOnly.trans {s u v : State} (h : FanOnly s u) (k : FanOnly u v) : FanOnly s v where
  frame := by rw [k.frame, h.frame]
  smu   := by rw [k.smu, h.smu]
  watch := fun o other => (k.watch o other).trans (h.watch o other)

/-- A command that ODU takes is the output's own matter (R172, R173). -/
theorem takeCommand_watch (o x : Output) (n : Nat) :
    (takeCommand o n s).odu.watch x = if x = o then
        { s.odu.watch o with command := n, openTimer := if n < openCommandLevel o then .stopped else (s.odu.watch o).openTimer }
      else s.odu.watch x := by
  unfold takeCommand
  simp only [watch_setWatch, eq_comm (a := o)]

theorem setFan_fanOnly (n : Nat) : FanOnly s (setFan n s) :=
  ⟨rfl, rfl, fun o other => (takeCommand_watch _ .fan o n).trans (if_neg other)⟩

/-- SMU takes a motion state with its fan alone, where that follows it. -/
theorem smokeTakeMotion_fanOnly (m : MotionState) : FanOnly s (smokeTakeMotion m s) ∧ (smokeTakeMotion m s).smu.motionView = m := by
  have view : FanOnly s (onSmu (fun u => { u with motionView := m }) s) := ⟨rfl, rfl, fun _ _ => rfl⟩
  unfold smokeTakeMotion
  dsimp only
  split
  · exact ⟨view.trans (setFan_fanOnly _ _), rfl⟩
  · exact ⟨view, rfl⟩

/-- RCU and the port with a motion state that MOC has evaluated: a change is published and noticed (R58). -/
def motionShown (m : MotionState) (s : State) : State :=
  { s with
    moc.motionState := m
    rcu.views.motionState := if m = s.moc.motionState then s.rcu.views.motionState else m
    hpt := if m = s.moc.motionState then s.hpt else s.hpt.push (.motionState m) }

/-- The motion state becomes one that is shown, and the fan may follow it. -/
theorem motionBecomes_fanOnly (m : MotionState) : FanOnly (motionShown m s) (Spec.motionBecomes m s) := by
  unfold Spec.motionBecomes motionShown
  by_cases same : m = s.moc.motionState
  · simp only [same, if_true]
    exact .refl s
  · obtain ⟨⟨frame, smu, watch⟩, _⟩ := smokeTakeMotion_fanOnly { s with moc.motionState := m, rcu.views.motionState := m } m
    simp only [same, if_false]
    refine ⟨?_, smu, watch⟩
    rw [frame]
    rfl

/-! ## A duty handed to a bridge and to ODU (R69, R172) -/

/-- A truck's bridge and ODU have gone from `s` to `u` by a duty and a mode handed to them. -/
structure Hands (t : Truck) (duty : Nat) (mode : BridgeMode) (s u : State) : Prop where
  frame   : u = { s with bmu := u.bmu, odu := u.odu, freeIndex := u.freeIndex }
  bmu     : u.bmu = s.bmu.setBridge t (u.bmu.bridge t)
  shadows : (u.bmu.bridge t).dutyShadow = duty ∧ (u.bmu.bridge t).modeShadow = mode
  watch   : ∀ o, u.odu.watch o = if o = .truck t then
              { s.odu.watch (.truck t) with
                command := duty, openTimer := if duty < 256 then .stopped else (s.odu.watch (.truck t)).openTimer }
            else s.odu.watch o

theorem Hands.other {t x : Truck} {duty : Nat} {mode : BridgeMode} {s u : State} (h : Hands t duty mode s u) (other : x ≠ t) :
    u.bmu.bridge x = s.bmu.bridge x := by
  rw [h.bmu, bridge_setBridge, if_neg (Ne.symm other)]

theorem handDrive_hands (t : Truck) (duty : Nat) : Hands t duty (s.moc.mode t) s (handDrive t duty s) := by
  have one : OneBridge t s (handMode t (s.moc.mode t) (handDuty t duty s)) :=
    (OneBridge.set s t { s.bmu.bridge t with dutyShadow := duty }).trans (handMode_oneBridge _ t _)
  obtain ⟨mode, kept⟩ := handMode_shadows (handDuty t duty s) t (s.moc.mode t)
  have frame : handDrive t duty s = { s with
      bmu := (handDrive t duty s).bmu, odu := (handDrive t duty s).odu, freeIndex := (handDrive t duty s).freeIndex } := by
    unfold handDrive
    rw [one]
    rfl
  refine ⟨frame, ?_, ⟨?_, mode⟩, fun o => ?_⟩
  · exact congrArg State.bmu one
  · refine kept.trans ?_
    rw [handDuty, setBridge_bmu, bridge_setBridge, if_pos rfl]
  · refine (takeCommand_watch _ _ o duty).trans ?_
    rw [one]
    rfl

/-- The mode of MOC in its evaluated state (R58, R69). -/
theorem mode_of_evaluated {m : Moc} (evaluated : m.motionState = Spec.motionOf m) (t : Truck) : m.mode t = Spec.mode m (m.truck t) := by
  obtain ⟨suspended, emergency⟩ := motionOf_iff m
  unfold Moc.mode Spec.mode Moc.held
  rw [evaluated]
  cases (m.truck t).faultView with
  | ok =>
    by_cases off : m.shedView = 4
    · rw [if_neg nofun, if_pos (suspended.mpr off), if_neg (not_not_intro rfl), if_pos off]
    · rw [if_neg nofun, if_neg fun e => off (suspended.mp e), if_neg (not_not_intro rfl), if_neg off]
      by_cases latch : m.emergencyLatch = true
      · rw [if_pos (emergency.mpr ⟨latch, off⟩), if_pos latch]
      · rw [if_neg fun e => latch (emergency.mp e).1, if_neg latch]
  | shortWait => rfl
  | latched => rfl

/-- Both bridges, and ODU, take duty 0 and their modes between two control steps (R60, R62). -/
theorem handIdle_hands :
    handIdle s = { s with bmu := (handIdle s).bmu, odu := (handIdle s).odu, freeIndex := (handIdle s).freeIndex }
    ∧ (∀ x : Truck, ((handIdle s).bmu.bridge x).dutyShadow = 0 ∧ ((handIdle s).bmu.bridge x).modeShadow = s.moc.mode x)
    ∧ (∀ x : Truck, (handIdle s).odu.watch (.truck x) = { s.odu.watch (.truck x) with command := 0, openTimer := .stopped })
    ∧ (handIdle s).bmu.polarityShadow = s.bmu.polarityShadow := by
  have front := handDrive_hands s .front 0
  have rear := handDrive_hands (handDrive .front 0 s) .rear 0
  have idle : handIdle s = handDrive .rear 0 (handDrive .front 0 s) := rfl
  rw [← idle] at rear
  refine ⟨?_, fun x => ?_, fun x => ?_, ?_⟩
  · rw [rear.frame, front.frame]
  · cases x with
    | front =>
      rw [rear.other (x := .front) nofun]
      exact front.shadows
    | rear =>
      rw [handDrive_moc] at rear
      exact rear.shadows
  · cases x with
    | front => rw [rear.watch, if_neg nofun, front.watch, if_pos rfl, if_pos (by decide)]
    | rear => rw [rear.watch, if_pos rfl, if_pos (by decide), front.watch, if_neg nofun]
  · rw [rear.bmu, front.bmu]
    rfl

/-- From `s` to `t` the motion state is evaluated, and both bridges and ODU take duty 0 and the modes it gives (R58, R60, R62, R69). -/
structure Idles (s t : State) : Prop where
  frame   : t = { s with
              moc := t.moc, rcu := t.rcu, bmu := t.bmu, smu := t.smu, odu := t.odu, hpt := t.hpt, freeIndex := t.freeIndex }
  moc     : t.moc = { s.moc with motionState := Spec.motionOf s.moc }
  rcu     : t.rcu = { s.rcu with views := { s.rcu.views with
              motionState := if Spec.motionOf s.moc = s.moc.motionState then s.rcu.views.motionState else Spec.motionOf s.moc } }
  hpt     : t.hpt = if Spec.motionOf s.moc = s.moc.motionState then s.hpt else s.hpt.push (.motionState (Spec.motionOf s.moc))
  smu     : t.smu = { s.smu with motionView := t.smu.motionView, fan := t.smu.fan, fanPwm := t.smu.fanPwm }
  shadows : ∀ x, (t.bmu.bridge x).dutyShadow = 0 ∧ (t.bmu.bridge x).modeShadow = Spec.mode s.moc (s.moc.truck x)
  watch   : ∀ x, t.odu.watch (.truck x) = { s.odu.watch (.truck x) with command := 0, openTimer := .stopped }
  turn    : t.bmu.polarityShadow = s.bmu.polarityShadow

theorem handIdle_idles : Idles s (handIdle (evaluateMotion s)) := by
  obtain ⟨evaluated, _, _⟩ := motionBecomes_takes s (Spec.motionOf s.moc)
  have fan := motionBecomes_fanOnly s (Spec.motionOf s.moc)
  rw [← evaluateMotion_eq] at evaluated fan
  obtain ⟨frame, shadows, watch, turn⟩ := handIdle_hands (evaluateMotion s)
  have mode (x : Truck) : (evaluateMotion s).moc.mode x = Spec.mode s.moc (s.moc.truck x) := by
    rw [evaluated, mode_of_evaluated rfl]
    cases x <;> rfl
  refine ⟨?_, ?_, ?_, ?_, ?_, fun x => ⟨(shadows x).1, (shadows x).2.trans (mode x)⟩, fun x => ?_, ?_⟩
  · rw [frame, fan.frame]
    rfl
  · rw [handIdle_moc, evaluated]
  · rw [frame, fan.frame]
    rfl
  · rw [frame, fan.frame]
    rfl
  · rw [frame, fan.smu]
    rfl
  · rw [watch, fan.watch (.truck x) nofun]
    rfl
  · rw [turn, fan.frame]
    rfl

/-- Under the latch a drive write evaluates the state with the latch cleared, and hands duty 0 (R60). -/
theorem motionTakeDriveWrite_latched (n : Nat) (changed : Bool) (latch : s.moc.emergencyLatch = true) :
    Idles (onMoc (fun m => { m with notch := n, lossBrake := !changed && m.lossBrake, emergencyLatch := false }) s)
      (motionTakeDriveWrite n changed s) := by
  rw [show motionTakeDriveWrite n changed s = handIdle (evaluateMotion (onMoc (fun m => { m with
    notch := n, lossBrake := !changed && m.lossBrake, emergencyLatch := false }) s)) from if_pos latch]
  exact handIdle_idles _

end Sys2Proof.Laws
end

section
/-! STATEMENTS. A drive write of TARGET_NOTCH under the emergency latch (R58, R60). -/

namespace Sys2Proof.Record

open Sys2Proof.Machine Sys2Proof.Laws

/-- What an accepted request leaves besides the lease and its answer. -/
theorem accepted_blocks (h : Head) (kind : Byte) (a : Answer) (s : State) :
    (Spec.accepted h kind a s).ssq = s.ssq ∧ (Spec.accepted h kind a s).ltc = s.ltc ∧ (Spec.accepted h kind a s).btg = s.btg
    ∧ (Spec.accepted h kind a s).odu = s.odu := by
  obtain ⟨_, _, _, btg, ssq, _, ltc, _, odu, _⟩ := answered_frame h kind a (Spec.leased h.source s)
  have stays : (Spec.leased h.source s).ssq = s.ssq ∧ (Spec.leased h.source s).ltc = s.ltc ∧ (Spec.leased h.source s).btg = s.btg
      ∧ (Spec.leased h.source s).odu = s.odu := by
    rw [leased_eq]
    exact ⟨rfl, rfl, rfl, rfl⟩
  obtain ⟨lSsq, lLtc, lBtg, lOdu⟩ := stays
  exact ⟨ssq.trans lSsq, ltc.trans lLtc, btg.trans lBtg, odu.trans lOdu⟩

/-- Settles O9: the latch is cleared, the state evaluated, and both bridges are handed their mode with duty 0. -/
theorem notchEndsEmergency : Obligations.NotchEndsEmergency := by
  intro c s x hx field arr holds rest latch
  rw [setting_serves (f := .targetNotch) hx (by rw [field]; rfl) rfl (fun _ => holds) arr]
  refine ⟨_, rfl, ?_⟩
  intro m
  have writes := motionTakeDriveWrite_latched (onRcu (fun r => { r with targetNotch := x.new }) s) x.new
    (decide (x.new ≠ s.rcu.targetNotch)) latch
  have written : { s.moc with
      notch := x.new, lossBrake := !decide (x.new ≠ s.rcu.targetNotch) && s.moc.lossBrake, emergencyLatch := false } = m := by
    simp only [m, decide_not, Bool.not_not, Bool.and_comm]
  have set : setNumeric .targetNotch x.new s = motionTakeDriveWrite x.new (decide (x.new ≠ s.rcu.targetNotch))
      (onRcu (fun r => { r with targetNotch := x.new }) s) := rfl
  rw [← set] at writes
  generalize setNumeric .targetNotch x.new s = t at writes
  obtain ⟨frame, moc, rcu, _, _, shadows, watch, _⟩ := writes
  obtain ⟨aRcu, aMoc, aBmu, aPws, aCfs⟩ := accepted_frame x.head x.kind { code := .done, flags := x.flags, value := be1 (s.numeric .targetNotch) } t
  obtain ⟨aSsq, aLtc, aBtg, aOdu⟩ := accepted_blocks x.head x.kind { code := .done, flags := x.flags, value := be1 (s.numeric .targetNotch) } t
  simp only [onMoc_moc, onRcu_moc, written] at moc rcu shadows
  rw [aRcu, aMoc, aBmu, aPws, aCfs, aSsq, aLtc, aBtg, aOdu, moc, rcu]
  refine ⟨rfl, rfl, rfl, rfl, ?_, rfl, fun b => ⟨(shadows b).1, (shadows b).2.trans ?_, ?_, ?_, ?_⟩, ?_⟩
  · rfl
  · cases b <;> rfl
  · rw [watch]
  · rw [watch]
  · rw [watch]
    rfl
  · rw [frame]
    exact ⟨rfl, rfl, rfl, rfl, rfl⟩

end Sys2Proof.Record
end

section
/-! SUPPORT. A move of the shed stage, block by block: MOC, the bridges and ODU, SSQ, LTC and SMU (R61, R62, R119, R125, R147, R164). -/

namespace Sys2Proof.Laws

open Sys2Proof.Machine

variable (s : State)

/-! ## The end of suspension (R62) -/

/-- The truck whose back-EMF and effort MOC takes (R63). -/
theorem beatTruck_eq (m : Moc) : m.truck m.beatTruck = Spec.beatTruck m m.beatSource := by
  have held (x : FaultState) : x.holdsOff = true ↔ x ≠ .ok := by cases x <;> decide
  unfold Moc.beatTruck Spec.beatTruck Moc.held
  cases m.beatSource <;> simp only [held, Moc.truck, otherTruck] <;> by_cases f : m.front.faultView = .ok <;>
    by_cases r : m.rear.faultView = .ok <;> simp [f, r]

theorem rampSeed_eq : s.rampSeed = Spec.seed s.moc := by
  unfold State.rampSeed Spec.seed
  rw [beatTruck_eq]
  rfl

/-- RUN_DIRECTION flips as suspension ends: the direction differs, and P is seeded with 0 (R62). -/
def turnsOnResume (m : Moc) : Bool := decide (m.directionView ≠ m.runDirection) && decide (Spec.seed m = 0)

/-- MOC and what it publishes as the end of suspension leaves them, but for the state, the bridges and ODU (R62). -/
def resettled (n : Nat) (s : State) : State :=
  if turnsOnResume s.moc then
    { s with
      moc.shedView := n, moc.ramp := Spec.seed s.moc
      moc.runDirection := s.moc.directionView, moc.reversalPending := false, moc.front.integral := 0, moc.rear.integral := 0
      rcu.views.runDirection := s.moc.directionView, ltc.runDirection := s.moc.directionView
      bmu.polarityShadow := s.moc.directionView, ssq := Spec.triggered 2 s.cfs.working s.ssq }
  else
    { s with
      moc.shedView := n, moc.ramp := Spec.seed s.moc
      moc.reversalPending := decide (s.moc.directionView ≠ s.moc.runDirection) }

theorem resumeMotion_eq (n : Nat) : resumeMotion n s = handIdle (evaluateMotion (resettled n s)) := by
  unfold resumeMotion
  dsimp only
  congr 2
  rw [flipDirection_eq, rampSeed_eq]
  unfold resettled turnsOnResume
  by_cases same : s.moc.directionView = s.moc.runDirection
  · simp [same, onMoc]
  · by_cases still : Spec.seed s.moc = 0
    · simp [same, still, onMoc, Spec.runDirectionBecomes]
    · simp [same, still, onMoc, Nat.pos_of_ne_zero still]

/-- MOC as the end of suspension leaves it. -/
theorem resettled_moc (n : Nat) :
    (resettled n s).moc = { Spec.resumed s.moc n with motionState := s.moc.motionState }
    ∧ { (resettled n s).moc with motionState := Spec.motionOf (resettled n s).moc } = Spec.resumed s.moc n
    ∧ decide ((Spec.resumed s.moc n).runDirection ≠ s.moc.runDirection) = turnsOnResume s.moc := by
  unfold resettled turnsOnResume Spec.resumed
  by_cases same : s.moc.directionView = s.moc.runDirection
  · simp [same]
  · by_cases still : Spec.seed s.moc = 0
    · simp [same, still]
    · simp [same, still]

/-! ## Suspension (R61) -/

/-- SMU's state, its level, its tank and its element stand, and CFS stands. -/
def SmokeAsWas (s v : State) : Prop :=
  v.smu = { s.smu with motionView := v.smu.motionView, fan := v.smu.fan, fanPwm := v.smu.fanPwm } ∧ v.cfs = s.cfs

/-- What suspension leaves, and what RCU shows of it. -/
theorem suspendMotion_leaves (moves : s.moc.motionState ≠ .suspended) :
    (suspendMotion s).ssq = s.ssq ∧ (suspendMotion s).ltc = s.ltc ∧ SmokeAsWas s (suspendMotion s)
    ∧ (suspendMotion s).rcu.views.motionState = .suspended ∧ (suspendMotion s).rcu.views.shedStage = s.rcu.views.shedStage := by
  have fan := motionBecomes_fanOnly (stilled s) .suspended
  have bridges (u : State) : handMode .rear .coast (handMode .front .coast u) = { u with
      bmu := (handMode .rear .coast (handMode .front .coast u)).bmu
      freeIndex := (handMode .rear .coast (handMode .front .coast u)).freeIndex } := by
    have front := handMode_oneBridge u .front .coast
    have rear := handMode_oneBridge (handMode .front .coast u) .rear .coast
    rw [rear, front]
  have slip (u : State) : (endSlip u).ssq = u.ssq ∧ (endSlip u).ltc = u.ltc ∧ (endSlip u).smu = u.smu ∧ (endSlip u).cfs = u.cfs
      ∧ (endSlip u).rcu.views.motionState = u.rcu.views.motionState ∧ (endSlip u).rcu.views.shedStage = u.rcu.views.shedStage := by
    rcases endSlip_cases u with ⟨_, e⟩ | ⟨_, _, e⟩ <;> rw [e] <;> exact ⟨rfl, rfl, rfl, rfl, rfl, rfl⟩
  obtain ⟨ssq, ltc, smu, cfs, shown, stage⟩ := slip (handMode .rear .coast (handMode .front .coast (Spec.motionBecomes .suspended (stilled s))))
  rw [← suspendMotion_eq, bridges] at ssq ltc smu cfs shown stage
  refine ⟨ssq.trans ?_, ltc.trans ?_, ⟨?_, cfs.trans ?_⟩, shown.trans ?_, stage.trans ?_⟩
  · rw [fan.frame]
    rfl
  · rw [fan.frame]
    rfl
  · rw [smu, fan.smu]
    rfl
  · rw [fan.frame]
    rfl
  · rw [fan.frame]
    exact if_neg (Ne.symm moves)
  · rw [fan.frame]
    rfl

theorem suspendMotion_suspended : (suspendMotion s).moc = Spec.suspended s.moc := suspendMotion_moc s

/-- A bridge that no mode acts on is off (R72, R77, R78). -/
theorem off_where_waits (inv : BridgeInv s) {x : Truck} (waits : actsOn s.bmu x = false) : (s.bmu.bridge x).isOff := by
  have both (off : s.bmu.front.isOff ∧ s.bmu.rear.isOff) : (s.bmu.bridge x).isOff := by
    cases x
    · exact off.1
    · exact off.2
  have why : s.bmu.running = false ∨ (s.bmu.bridge x).heldOff = true ∨ s.bmu.gap.keepsOff = true := by
    simp only [actsOn, Bool.and_eq_false_iff, Bool.not_eq_false'] at waits
    rcases waits with (still | held) | gap
    · exact .inl still
    · exact .inr (.inl held)
    · exact .inr (.inr gap)
  rcases why with still | held | gap
  · exact both (inv.stopped still)
  · cases x
    · exact inv.heldF held
    · exact inv.heldR held
  · exact both (inv.gap gap)

/-- Suspension hands both bridges COAST, and leaves them off (R61, R76). -/
theorem suspendMotion_coasts (x : Truck) :
    ((suspendMotion s).bmu.bridge x).modeShadow = .coast
    ∧ ((actsOn s.bmu x = false → (s.bmu.bridge x).isOff) → ((suspendMotion s).bmu.bridge x).isOff) := by
  obtain ⟨_, stands, _⟩ := motionBecomes_takes (stilled s) .suspended
  obtain ⟨u, bridge, acts, handed⟩ := bothModes_bridge (Spec.motionBecomes .suspended (stilled s)) .coast x
  have bmu : (Spec.motionBecomes .suspended (stilled s)).bmu = s.bmu := stands
  rw [suspendMotion_eq, endSlip_bmu, handed]
  rw [bmu] at bridge acts
  refine ⟨(handMode_shadows u x .coast).1, fun off => ?_⟩
  cases does : actsOn u.bmu x with
  | true => exact handMode_coasts u does
  | false =>
    rw [handMode_waits u does, bridge]
    exact off (acts ▸ does)

/-! ## SSQ, LTC and SMU (R119, R125, R147) -/

theorem soundTakeShed_below {n : Nat} (below : n ≠ 4) (q : Ssq) : q.takeShed n = { q with shedView := n } := by
  unfold Ssq.takeShed
  rw [if_neg fun off => below off.1]

theorem soundTakeShed_off {q : Ssq} (on : q.shedView < 4) :
    q.takeShed 4 = { q with shedView := 4, outputCompare := 512, voices := q.voices.map Spec.silenced } := by
  have silent : (Vector.ofFn fun n : Fin 6 => (q.voices[n]).silence) = q.voices.map Spec.silenced := by
    ext n h
    simp [Voice.silence, Spec.silenced]
  unfold Ssq.takeShed
  rw [if_pos ⟨rfl, on⟩, ← silent]

theorem lightsTakeShed_below {n : Nat} (below : n ≠ 4) (l : Ltc) : l.takeShed n = { l with shedView := n } := by
  unfold Ltc.takeShed
  dsimp only
  rw [if_neg fun off => below off.1]

theorem lightsTakeShed_off {l : Ltc} (on : l.shedView < 4) :
    l.takeShed 4 = { l with shedView := 4, lights := l.lights.map fun x => { x with level := 0, pwm.isOn := false } } := by
  have dark : (Vector.ofFn fun n : Fin 12 => { l.lights[n] with level := 0, pwm := (l.lights[n]).pwm.command 0 })
      = l.lights.map fun x => { x with level := 0, pwm.isOn := false } := by
    ext n h : 1
    simp [Pwm.command, Pwm.off]
  unfold Ltc.takeShed
  dsimp only
  rw [if_pos ⟨rfl, on⟩, ← dark]
  rfl

/-- SMU takes a stage: HELD as it comes to 2 from a state that heats, out of HELD as it falls below, and else the cap of stage 1 (R125). -/
theorem smokeTakeShed_eq (n : Nat) :
    smokeTakeShed n s =
      if 2 ≤ n then (if s.smu.state.heats then enterSmoke .held { s with smu.shedView := n } else { s with smu.shedView := n })
      else if 2 ≤ s.smu.shedView then
        if s.smu.state = .held then enterSmoke { s with smu.shedView := n }.calledSmoke { s with smu.shedView := n }
        else { s with smu.shedView := n }
      else if n = 1 ∧ s.smu.shedView = 0 ∧ 127 < s.smu.heater then setHeater 127 { s with smu.shedView := n }
      else { s with smu.shedView := n } := rfl

/-- With fluid and a level, below stage 2, the state called for heats (R123). -/
theorem calledSmoke_heats (wet : 0 < s.smu.fluid) (level : 1 ≤ s.smu.levelView) (top : s.smu.levelView ≤ 3) (low : s.smu.shedView < 2) :
    s.calledSmoke = if s.smu.tView + 15 < Spec.targetAt s.cfs.working s.smu.levelView then .warming else .regulating := by
  unfold State.calledSmoke State.smokeTarget
  rw [smokeTarget_getD s.cfg top (show s.smu.levelView ≠ 0 by omega), if_neg (show ¬s.smu.fluid = 0 by omega),
    if_neg (show ¬s.smu.levelView = 0 by omega), if_neg (show ¬2 ≤ s.smu.shedView by omega)]
  rfl

/-- The smoke state under a move of the stage (R125). -/
theorem smokeTakeShed_state (n : Nat) :
    (2 ≤ n → s.smu.state.heats = true →
      (smokeTakeShed n s).smu.state = .held ∧ (smokeTakeShed n s).smu.heater = 0 ∧ (smokeTakeShed n s).smu.fan = 0)
    ∧ (s.smu.shedView < 2 ∨ s.smu.state ≠ .held → n < 2 ∨ s.smu.state.heats = false → (smokeTakeShed n s).smu.state = s.smu.state)
    ∧ (2 ≤ s.smu.shedView → n < 2 → s.smu.state = .held → 1 ≤ s.smu.levelView → s.smu.levelView ≤ 3 → 0 < s.smu.fluid →
      (smokeTakeShed n s).smu.state
        = if s.smu.tView + 15 < Spec.targetAt s.cfs.working s.smu.levelView then .warming else .regulating) := by
  rw [smokeTakeShed_eq]
  refine ⟨fun high heats => ?_, fun held low => ?_, fun high low held level top wet => ?_⟩
  · have moves : SmokeState.held ≠ s.smu.state := fun same => by
      rw [← same] at heats
      cases heats
    rw [if_pos high, if_pos heats]
    obtain ⟨state, _, heater, fan, _⟩ := enterSmoke_enters (s := { s with smu.shedView := n }) moves
    exact ⟨state, heater, fan⟩
  · by_cases high : 2 ≤ n
    · have cold : s.smu.state.heats = false := low.resolve_left (by omega)
      rw [if_pos high, if_neg (by rw [cold]; exact Bool.false_ne_true)]
    · by_cases old : 2 ≤ s.smu.shedView
      · rw [if_neg high, if_pos old, if_neg (held.resolve_left (by omega))]
      · rw [if_neg high, if_neg old]
        split <;> rfl
  · have called := calledSmoke_heats { s with smu.shedView := n } wet level top low
    have moves : { s with smu.shedView := n }.calledSmoke ≠ s.smu.state := by
      rw [called, held]
      split <;> exact nofun
    rw [if_neg (show ¬2 ≤ n by omega), if_pos high, if_pos held, (enterSmoke_enters (s := { s with smu.shedView := n }) moves).1, called]

/-- A transition of the smoke state hands ODU the heater's and the fan's commands alone. -/
theorem enterSmoke_watch (st : SmokeState) {o : Output} (heater : o ≠ .heater) (fan : o ≠ .fan) :
    (enterSmoke st s).odu.watch o = s.odu.watch o := by
  have heats (n : Nat) (u : State) : (setHeater n u).odu.watch o = u.odu.watch o := (takeCommand_watch _ _ o n).trans (if_neg heater)
  have fans (n : Nat) (u : State) : (setFan n u).odu.watch o = u.odu.watch o := (takeCommand_watch _ _ o n).trans (if_neg fan)
  unfold enterSmoke
  split
  · rfl
  · dsimp only [fanBetween, stopPuff]
    split <;> split <;> simp only [fans, heats, onSmu_odu, pushNotice_odu, publish_odu]

theorem smokeTakeShed_watch (n : Nat) {o : Output} (heater : o ≠ .heater) (fan : o ≠ .fan) :
    (smokeTakeShed n s).odu.watch o = s.odu.watch o := by
  rw [smokeTakeShed_eq]
  split
  · split
    · exact enterSmoke_watch _ _ heater fan
    · rfl
  · split
    · split
      · exact enterSmoke_watch _ _ heater fan
      · rfl
    · split
      · exact (takeCommand_watch _ _ o 127).trans (if_neg heater)
      · rfl

end Sys2Proof.Laws
end

section
/-! SUPPORT. The shed stage formed anew, as every block takes it (R164). -/

namespace Sys2Proof.Laws

open Sys2Proof.Machine

variable {s u : State}

/-- PWS has moved from `s` to `u`, with the power state told to RCU, MOC and CFS and notices pushed, and the stage not yet formed. -/
structure PowerOnly (s u : State) : Prop where
  moc   : u.moc = { s.moc with powerView := u.moc.powerView }
  views : u.rcu.views = { s.rcu.views with powerState := u.rcu.views.powerState }
  cfg   : u.cfs.working = s.cfs.working
  stage : u.pws.shedStage = s.pws.shedStage
  bmu   : u.bmu = s.bmu
  ssq   : u.ssq = s.ssq
  smu   : u.smu = s.smu
  ltc   : u.ltc = s.ltc
  odu   : u.odu = s.odu

/-- RCU, the port and SSQ as they hold a new stage before MOC takes it (R164; log entry 18). -/
def stageTold (n : Nat) (u : State) : State :=
  { u with
    pws.shedStage := n, rcu.views.shedStage := n, hpt := u.hpt.push (.shedStage n), ssq := u.ssq.takeShed n }

/-- The stage formed anew is the stage held, or reaches every block. -/
theorem formStage_eq (u : State) :
    u.pws.stageNow = u.pws.shedStage ∧ formStage u = u
    ∨ u.pws.stageNow ≠ u.pws.shedStage
      ∧ formStage u = onLtc (·.takeShed u.pws.stageNow)
          (smokeTakeShed u.pws.stageNow (motionTakeShed u.pws.stageNow (stageTold u.pws.stageNow u))) := formStage_cases u

/-- MOC's taking of a stage leaves SMU's state, its tank and its element, and the power supervisor. -/
theorem motionTakeShed_leaves (n : Nat) (w : State) (rest : RestInv w) :
    SmokeAsWas w (motionTakeShed n w) ∧ (motionTakeShed n w).pws = w.pws ∧ (motionTakeShed n w).now = w.now
    ∧ (motionTakeShed n w).rcu.views.shedStage = w.rcu.views.shedStage := by
  rcases motionTakeShed_cases n w with ⟨e, _⟩ | ⟨e, _⟩ | ⟨e, on, _⟩ | ⟨e, _⟩ <;> rw [e]
  · exact ⟨⟨rfl, rfl⟩, rfl, rfl, rfl⟩
  · have idles := handIdle_idles (resettled n w)
    rw [resumeMotion_eq]
    generalize handIdle (evaluateMotion (resettled n w)) = t at idles
    obtain ⟨frame, _, rcu, _, smu, _, _, _⟩ := idles
    have same : (resettled n w).smu = w.smu ∧ (resettled n w).cfs = w.cfs ∧ (resettled n w).pws = w.pws
        ∧ (resettled n w).now = w.now ∧ (resettled n w).rcu.views.shedStage = w.rcu.views.shedStage := by
      unfold resettled
      split <;> exact ⟨rfl, rfl, rfl, rfl, rfl⟩
    obtain ⟨sSmu, sCfs, sPws, sNow, sStage⟩ := same
    refine ⟨⟨?_, ?_⟩, ?_, ?_, ?_⟩
    · rw [smu, sSmu]
    · rw [frame]
      exact sCfs
    · rw [frame]
      exact sPws
    · rw [frame]
      exact sNow
    · rw [rcu]
      exact sStage
  · obtain ⟨_, _, smoke, _, stage⟩ := suspendMotion_leaves w fun suspended => on (rest.suspended.mp suspended)
    exact ⟨smoke, (suspendMotion_turns w).pws, (suspendMotion_turns w).now, stage⟩
  · have fan := motionBecomes_fanOnly (onMoc (fun m => { m with shedView := n }) w) (Spec.motionOf (onMoc (fun m => { m with shedView := n }) w).moc)
    rw [evaluateMotion_eq]
    refine ⟨⟨?_, ?_⟩, ?_, ?_, ?_⟩
    · rw [fan.smu]
      rfl
    · rw [fan.frame]
      rfl
    · rw [fan.frame]
      rfl
    · rw [fan.frame]
      rfl
    · rw [fan.frame]
      rfl

/-- The stage formed anew, in the blocks that take it after MOC. -/
structure Formed (n : Nat) (v t : State) : Prop where
  moc   : t.moc = v.moc
  bmu   : t.bmu = v.bmu
  ssq   : t.ssq = v.ssq
  ltc   : t.ltc = v.ltc.takeShed n
  smu   : t.smu = (smokeTakeShed n v).smu
  views : t.rcu.views = { v.rcu.views with smokeState := t.rcu.views.smokeState }
  truck : ∀ x : Truck, t.odu.watch (.truck x) = v.odu.watch (.truck x)
  pws   : t.pws = v.pws
  cfs   : t.cfs = v.cfs
  now   : t.now = v.now

theorem formed (n : Nat) (v : State) : Formed n v (onLtc (·.takeShed n) (smokeTakeShed n v)) := by
  obtain ⟨⟨moc, bmu, ltc, _, pws, cfs, ssq, now⟩, rcu, _, _⟩ := smokeTakeShed_stays v n
  exact ⟨moc, bmu, ssq, congrArg (·.takeShed n) ltc, rfl, congrArg Rcu.views rcu, fun x => smokeTakeShed_watch v n nofun nofun, pws, cfs, now⟩

/-- Between two stages below 4 MOC evaluates its state (R58). -/
theorem motionTakeShed_below {n : Nat} {w : State} (on : w.moc.shedView ≠ 4) (below : n ≠ 4) :
    let m := { w.moc with shedView := n }
    (motionTakeShed n w).moc = { m with motionState := Spec.motionOf m }
    ∧ (motionTakeShed n w).rcu.views.motionState = (if Spec.motionOf m = w.moc.motionState then w.rcu.views.motionState else Spec.motionOf m)
    ∧ (motionTakeShed n w).bmu = w.bmu ∧ (motionTakeShed n w).ssq = w.ssq ∧ (motionTakeShed n w).ltc = w.ltc := by
  intro m
  have fan := motionBecomes_fanOnly (onMoc (fun m => { m with shedView := n }) w) (Spec.motionOf m)
  have taken : motionTakeShed n w = Spec.motionBecomes (Spec.motionOf m) (onMoc (fun m => { m with shedView := n }) w) := by
    rw [show motionTakeShed n w = evaluateMotion (onMoc (fun m => { m with shedView := n }) w) from (if_neg on).trans (if_neg below),
      evaluateMotion_eq]
    rfl
  rw [taken, fan.frame]
  exact ⟨rfl, rfl, rfl, rfl, rfl⟩

/-- What the end of suspension publishes of a flip, before the state is evaluated (R57, R62). -/
theorem resettled_blocks (n : Nat) (w : State) :
    (resettled n w).rcu.views.runDirection = (if turnsOnResume w.moc then w.moc.directionView else w.rcu.views.runDirection)
    ∧ (resettled n w).bmu.polarityShadow = (if turnsOnResume w.moc then w.moc.directionView else w.bmu.polarityShadow)
    ∧ (resettled n w).ssq = (if turnsOnResume w.moc then Spec.triggered 2 w.cfs.working w.ssq else w.ssq)
    ∧ (resettled n w).ltc = { w.ltc with runDirection := if turnsOnResume w.moc then w.moc.directionView else w.ltc.runDirection }
    ∧ (resettled n w).odu = w.odu ∧ (resettled n w).moc.motionState = w.moc.motionState ∧ (resettled n w).moc.shedView = n := by
  unfold resettled
  cases turnsOnResume w.moc <;> exact ⟨rfl, rfl, rfl, rfl, rfl, rfl, rfl⟩

/-- The end of suspension (R62). -/
theorem motionTakeShed_resumes {n : Nat} {w : State} (off : w.moc.shedView = 4) (below : n ≠ 4) (still : w.moc.motionState = .suspended) :
    let v := motionTakeShed n w
    let m := Spec.resumed w.moc n
    let flips := turnsOnResume w.moc
    v.moc = m ∧ v.rcu.views.motionState = m.motionState
    ∧ v.rcu.views.runDirection = (if flips then m.runDirection else w.rcu.views.runDirection)
    ∧ v.bmu.polarityShadow = (if flips then m.runDirection else w.bmu.polarityShadow)
    ∧ (∀ x : Truck, (v.bmu.bridge x).dutyShadow = 0 ∧ (v.bmu.bridge x).modeShadow = Spec.mode m (m.truck x))
    ∧ (∀ x : Truck, v.odu.watch (.truck x) = { w.odu.watch (.truck x) with command := 0, openTimer := .stopped })
    ∧ v.ssq = (if flips then Spec.triggered 2 w.cfs.working w.ssq else w.ssq)
    ∧ v.ltc = { w.ltc with runDirection := if flips then m.runDirection else w.ltc.runDirection } := by
  intro v m flips
  obtain ⟨frame, moc, rcu, _, _, shadows, watch, turn⟩ := handIdle_idles (resettled n w)
  have taken : v = handIdle (evaluateMotion (resettled n w)) := by
    rw [← resumeMotion_eq]
    exact (if_pos off).trans (if_neg below)
  rw [← taken] at frame moc rcu shadows watch turn
  obtain ⟨_, evaluated, _⟩ := resettled_moc w n
  obtain ⟨run, polarity, ssq, ltc, odu, state, stage⟩ := resettled_blocks n w
  have moves : Spec.motionOf (resettled n w).moc ≠ (resettled n w).moc.motionState := fun same => by
    have suspended := (motionOf_iff (resettled n w).moc).1.mp (same.trans (state.trans still))
    exact below (stage.symm.trans suspended)
  have flipped (a : Direction) :
      (if turnsOnResume w.moc then m.runDirection else a) = if turnsOnResume w.moc then w.moc.directionView else a := by
    have turned : m.runDirection = if turnsOnResume w.moc then w.moc.directionView else w.moc.runDirection := rfl
    rw [turned]
    split <;> rfl
  refine ⟨moc.trans evaluated, ?_, ?_, ?_, fun x => ⟨(shadows x).1, (shadows x).2.trans ?_⟩, fun x => ?_, ?_, ?_⟩
  · rw [rcu, if_neg moves]
    exact congrArg Moc.motionState evaluated
  · rw [rcu, flipped]
    exact run
  · rw [turn, flipped]
    exact polarity
  · rw [show m = _ from evaluated.symm]
    cases x <;> rfl
  · rw [watch, odu]
  · rw [frame]
    exact ssq
  · rw [frame, flipped]
    exact ltc

/-- Suspension (R61). -/
theorem motionTakeShed_off {w : State} (on : w.moc.shedView ≠ 4) (runs : w.moc.motionState ≠ .suspended) :
    let v := motionTakeShed 4 w
    v.moc = Spec.suspended w.moc ∧ v.rcu.views.motionState = .suspended ∧ (∀ x : Truck, (v.bmu.bridge x).modeShadow = .coast)
    ∧ (∀ x : Truck, (actsOn w.bmu x = false → (w.bmu.bridge x).isOff) → (v.bmu.bridge x).isOff) ∧ v.ssq = w.ssq ∧ v.ltc = w.ltc := by
  intro v
  have taken : v = suspendMotion w := (if_neg on).trans (if_pos rfl)
  obtain ⟨ssq, ltc, _, shown, _⟩ := suspendMotion_leaves w runs
  rw [taken]
  exact ⟨suspendMotion_suspended w, shown, fun x => (suspendMotion_coasts w x).1, fun x => (suspendMotion_coasts w x).2, ssq, ltc⟩

/-- The stage formed as it was held reaches every block as it stands. -/
theorem stageReaches_held (h : PowerOnly s u) (inv : StageInv s) : Spec.stageReaches s u := by
  unfold Spec.stageReaches
  intro old new m
  have same : new = old := h.stage
  have moc : u.moc = m := h.moc
  have ssq : u.ssq = { s.ssq with shedView := new } := by
    rw [h.ssq, same]
    exact congrArg (fun n => { s.ssq with shedView := n }) inv.stageSsq
  have ltc : u.ltc = { s.ltc with shedView := new } := by
    rw [h.ltc, same]
    exact congrArg (fun n => { s.ltc with shedView := n }) inv.stageLtc
  refine ⟨?_, ?_, ?_, ?_, fun _ _ => ⟨(if_pos same).symm ▸ moc, ?_, h.bmu, ssq, ltc⟩, fun _ _ => ⟨moc, h.bmu, h.ssq, h.ltc⟩,
    fun _ _ => by omega, fun _ _ => by omega, fun _ _ => by omega, fun _ _ => congrArg Smu.state h.smu, fun _ _ => by omega⟩
  · rw [same, h.views]
    exact inv.stageRcu
  · rw [ssq]
  · rw [same, h.smu]
    exact inv.stageSmu
  · rw [ltc]
  · rw [h.views, if_pos (congrArg Moc.motionState h.moc)]

/-- A stage that changed reaches every block through MOC and the blocks after it (R58, R61, R62, R119, R125, R147). -/
theorem stageReaches_changed {n : Nat} {t : State} (h : PowerOnly s u) (inv : StageInv s) (rest : RestInv s) (changed : n ≠ s.pws.shedStage)
    (form : Formed n (motionTakeShed n (stageTold n u)) t) : Spec.stageReaches s t := by
  have calm : RestInv (stageTold n u) := by
    refine rest_of_same (s := s) ?_ rest
    exact (congrArg restOf h.moc :)
  have shed : (stageTold n u).moc.shedView = s.pws.shedStage := (congrArg Moc.shedView h.moc :).trans inv.stageMoc
  have run : u.moc.runDirection = s.moc.runDirection := (congrArg Moc.runDirection h.moc :)
  have state : u.moc.motionState = s.moc.motionState := (congrArg Moc.motionState h.moc :)
  have shownState : u.rcu.views.motionState = s.rcu.views.motionState := (congrArg Views.motionState h.views :)
  have shownRun : u.rcu.views.runDirection = s.rcu.views.runDirection := (congrArg Views.runDirection h.views :)
  obtain ⟨⟨smu, cfs⟩, pws, _, stage⟩ := motionTakeShed_leaves n (stageTold n u) calm
  have power : t.moc.powerView = u.moc.powerView := by
    rw [form.moc]
    exact congrArg StageCore.powerMoc (motionTakeShed_shifts (stageTold n u) n).stage
  have sound : t.ssq.shedView = n := by
    rw [form.ssq]
    exact (congrArg StageCore.stageSsq (motionTakeShed_shifts (stageTold n u) n).stage).trans (by
      unfold stageCore stageTold Ssq.takeShed
      dsimp only
      split <;> rfl)
  have tank : (motionTakeShed n (stageTold n u)).smu.state = s.smu.state
      ∧ (motionTakeShed n (stageTold n u)).smu.shedView = s.pws.shedStage
      ∧ (motionTakeShed n (stageTold n u)).smu.levelView = s.smu.levelView
      ∧ (motionTakeShed n (stageTold n u)).smu.fluid = s.smu.fluid ∧ (motionTakeShed n (stageTold n u)).smu.tView = s.smu.tView
      ∧ (motionTakeShed n (stageTold n u)).cfs.working = s.cfs.working := by
    have kept : (stageTold n u).smu = s.smu := h.smu
    rw [smu, cfs, kept]
    exact ⟨rfl, inv.stageSmu, rfl, rfl, rfl, h.cfg⟩
  obtain ⟨smoke, stageSmoke, level, fluid, element, config⟩ := tank
  obtain ⟨holds, stays, leaves⟩ := smokeTakeShed_state (motionTakeShed n (stageTold n u)) n
  rw [smoke, stageSmoke] at stays leaves
  rw [smoke] at holds
  rw [level, fluid, element, config] at leaves
  have heats : (s.smu.state = .warming ∨ s.smu.state = .regulating ↔ s.smu.state.heats = true)
      ∧ (s.smu.state ≠ .warming ∧ s.smu.state ≠ .regulating ↔ s.smu.state.heats = false) := by
    cases s.smu.state <;> decide
  unfold Spec.stageReaches
  intro old new m
  have toM : m = u.moc := by
    rw [h.moc, ← power]
  have toN : new = n := (congrArg Pws.shedStage (form.pws.trans pws) :)
  clear_value m
  subst toM
  rw [toN, form.smu]
  refine ⟨?_, sound, ?_, ?_, fun on low => ?_, fun off same => absurd (same.trans off.symm) changed, fun off low => ?_, fun on same => ?_,
    fun _ high warm => holds high (heats.1.mp warm), fun held cold => stays held (cold.imp id heats.2.mp), leaves⟩
  · rw [form.views]
    exact stage
  · exact congrArg (fun c => c.stage.stageSmu) (smokeTakeShed_core (motionTakeShed n (stageTold n u)) n)
  · rw [form.ltc]
    exact congrArg (fun c => c.stage.stageLtc) (lightsTakeShed_core (motionTakeShed n (stageTold n u)) n)
  · obtain ⟨moc, shown, bmu, ssq, ltc⟩ := motionTakeShed_below (n := n) (w := stageTold n u) (by rw [shed]; omega) (by omega)
    rw [form.moc, form.views, form.bmu, form.ssq, form.ltc, bmu, ssq, ltc, lightsTakeShed_below (by omega)]
    refine ⟨?_, ?_, h.bmu, ?_, congrArg (fun l => { l with shedView := n }) h.ltc⟩
    · rw [if_neg changed]
      exact moc
    · rw [moc]
      exact shown.trans (by rw [← state, ← shownState]; rfl)
    · exact (soundTakeShed_below (by omega) u.ssq).trans (congrArg (fun q => { q with shedView := n }) h.ssq)
  · have heard : (stageTold n u).ssq = { s.ssq with shedView := n } :=
      (soundTakeShed_below (by omega) u.ssq).trans (congrArg (fun q => { q with shedView := n }) h.ssq)
    obtain ⟨moc, shown, turn, polarity, shadows, watch, ssq, ltc⟩ := motionTakeShed_resumes (n := n) (w := stageTold n u) (by rw [shed]; exact off)
      (by omega) (by rw [show (stageTold n u).moc.motionState = s.moc.motionState from state]; exact rest.suspended.mpr (inv.stageMoc.trans off))
    obtain ⟨_, _, flips⟩ := resettled_moc (stageTold n u) n
    rw [show (stageTold n u).moc = u.moc from rfl] at *
    intro after flip q
    have toFlip : flip = turnsOnResume u.moc := by
      rw [← flips, run]
    clear_value flip
    subst toFlip
    rw [form.moc, form.views, form.bmu, form.ssq, form.ltc, lightsTakeShed_below (by omega), moc]
    refine ⟨rfl, shown, ?_, ?_, (shadows .front).1, (shadows .rear).1, (shadows .front).2, (shadows .rear).2, fun x => ?_, ?_, ?_⟩
    · rw [← shownRun]
      exact turn
    · rw [← h.bmu]
      exact polarity
    · rw [form.truck, watch, ← h.odu]
      rfl
    · rw [ssq, heard, ← h.cfg]
      rfl
    · rw [ltc, ← h.ltc]
      rfl
  · subst same
    have on' : s.ssq.shedView < 4 ∧ s.ltc.shedView < 4 := by
      rw [inv.stageSsq, inv.stageLtc]
      exact ⟨on, on⟩
    have powered : s.moc.shedView ≠ 4 := by
      rw [inv.stageMoc]
      exact Nat.ne_of_lt on
    have heard : (stageTold 4 u).ssq = { s.ssq with shedView := 4, outputCompare := 512, voices := s.ssq.voices.map Spec.silenced } :=
      (congrArg (·.takeShed 4) h.ssq).trans (soundTakeShed_off on'.1)
    obtain ⟨moc, shown, coasts, off, ssq, ltc⟩ := motionTakeShed_off (w := stageTold 4 u) (by rw [shed]; exact Nat.ne_of_lt on)
      (by rw [show (stageTold 4 u).moc.motionState = s.moc.motionState from state]; exact fun e => powered (rest.suspended.mp e))
    have same : (stageTold 4 u).bmu = s.bmu := h.bmu
    rw [same] at off
    rw [form.moc, form.views, form.bmu, form.ssq, form.ltc, ssq, ltc, heard, show (stageTold 4 u).ltc = s.ltc from h.ltc,
      lightsTakeShed_off on'.2]
    exact ⟨moc, shown, coasts .front, coasts .rear,
      fun bridges => ⟨off .front fun waits => off_where_waits s bridges waits, off .rear fun waits => off_where_waits s bridges waits⟩, rfl, rfl⟩

/-- The shed stage formed anew reaches every block (R164). -/
theorem formStage_reaches (h : PowerOnly s u) (inv : StageInv s) (rest : RestInv s) : Spec.stageReaches s (formStage u) := by
  rcases formStage_eq u with ⟨_, e⟩ | ⟨changed, e⟩ <;> rw [e]
  · exact stageReaches_held h inv
  · rw [h.stage] at changed
    exact stageReaches_changed h inv rest changed (formed _ _)

end Sys2Proof.Laws
end

section
/-! SUPPORT. The power states as PWS enters them, and the shed stage with the contribution of each (R160 to R162, R164, R165). -/

namespace Sys2Proof.Laws

open Sys2Proof.Machine

variable (s : State)

/-- The stage formed anew is PWS's own only change, and takes no time (R164). -/
theorem formStage_pws (rest : RestInv s) :
    (formStage s).pws = { s.pws with shedStage := s.pws.stageNow } ∧ (formStage s).now = s.now := by
  rcases formStage_eq s with ⟨held, e⟩ | ⟨_, e⟩ <;> rw [e]
  · rw [held]
    exact ⟨rfl, rfl⟩
  · have form := formed s.pws.stageNow (motionTakeShed s.pws.stageNow (stageTold s.pws.stageNow s))
    obtain ⟨_, pws, now, _⟩ := motionTakeShed_leaves s.pws.stageNow (stageTold s.pws.stageNow s) (rest_of_same (s := s) rfl rest)
    rw [form.pws, form.now, pws, now]
    exact ⟨rfl, rfl⟩

/-- The power state told to RCU, MOC and CFS, with its contribution, its notice and the sag timing that it sets, before the stage is formed
(R162, R165). -/
def powerTold (p : PowerState) (s : State) : State :=
  { s with
    pws.powerState := p, pws.powerPart := powerPartOf p
    pws.sagTimer := if p = .run then (Spec.sagTimer s.pws.sagView s.pws.sagPart s.now s.pws.sagRaise).1 else .stopped
    pws.sagRaise := if p = .run then (Spec.sagTimer s.pws.sagView s.pws.sagPart s.now s.pws.sagRaise).2 else s.pws.sagRaise
    rcu.views.powerState := p, moc.powerView := p, cfs.powerView := p, hpt := s.hpt.push (.powerState p) }

theorem enterPower_eq (p : PowerState) : enterPower p s = formStage (powerTold p s) := by
  unfold enterPower powerTold
  dsimp only
  by_cases run : p = .run
  · rw [if_pos run, if_pos run, if_pos run, setSagTimer_eq]
    rfl
  · rw [if_neg run, if_neg run, if_neg run]
    rfl

/-- PWS as it enters a power state: the bridge limit of BRIDGE, the phase of SETTLE, and the end of both in RUN and in HALT (R160, R161). -/
def entryTimers (p : PowerState) (s : State) : Pws :=
  match p with
  | .bridge => { s.pws with bridgeTimer := .running (s.now + 1600000 * s.cfs.working.bridgeLimit) }
  | .settle =>
    if s.pws.resumeView then
      { s.pws with settlePhase := .delaying, settleTimer := .running (s.now + 160000 * s.cfs.working.settleDelay) }
    else { s.pws with settlePhase := .charging }
  | _ => { s.pws with bridgeTimer := .stopped, settleTimer := .stopped, settlePhase := .none }

/-- PWS enters a power state, as each move of 9.4 does (R160 to R162). -/
def entersPower (p : PowerState) (s : State) : State := enterPower p { s with pws := entryTimers p s }

theorem enterBridge_eq : enterBridge s = entersPower .bridge s := by
  have time : Config.ms (100 * s.cfg.bridgeLimit) = 1600000 * s.cfs.working.bridgeLimit :=
    (Nat.mul_assoc 16000 100 _).symm
  unfold enterBridge State.timer
  rw [time]
  rfl

theorem enterSettle_eq : enterSettle s = entersPower .settle s := by
  have time : Config.ms (10 * s.cfg.settleDelay) = 160000 * s.cfs.working.settleDelay :=
    (Nat.mul_assoc 16000 10 _).symm
  unfold enterSettle entersPower entryTimers startDelay State.timer
  rw [time]
  cases s.pws.resumeView <;> rfl

/-- A track event moves the power state as the table of R160 and R161 says, or leaves PWS. -/
theorem trackEvent_eq (present : Bool) :
    let p := Spec.afterTrack s.pws present
    let t := if present then trackPresent s else trackLost s
    p = s.pws.powerState ∧ t = s ∨ p ≠ s.pws.powerState ∧ p ≠ .load ∧ t = entersPower p s := by
  unfold Spec.afterTrack trackPresent trackLost
  rw [enterBridge_eq, enterSettle_eq]
  cases state : s.pws.powerState <;> cases present <;> dsimp only
  case run.false =>
    cases s.pws.reserveView
    · exact .inr ⟨nofun, nofun, rfl⟩
    · exact .inr ⟨nofun, nofun, rfl⟩
  case settle.false => exact .inr ⟨nofun, nofun, rfl⟩
  case bridge.true => exact .inr ⟨nofun, nofun, rfl⟩
  case halt.true => exact .inr ⟨nofun, nofun, rfl⟩
  all_goals exact .inl ⟨rfl, rfl⟩

/-- What PWS and the blocks hold in `t`, once PWS has entered a power state from `x`; the stage moves from that of `s`. -/
structure Enters (p : PowerState) (x s t : State) : Prop where
  pws     : t.pws = { entryTimers p x with
              powerState := p, powerPart := powerPartOf p, shedStage := t.pws.shedStage
              sagTimer := if p = .run then (Spec.sagTimer x.pws.sagView x.pws.sagPart x.now x.pws.sagRaise).1 else .stopped
              sagRaise := if p = .run then (Spec.sagTimer x.pws.sagView x.pws.sagPart x.now x.pws.sagRaise).2 else x.pws.sagRaise }
  now     : t.now = x.now
  powered : Spec.powered p t
  reaches : Spec.stageReaches s t
  halted  : p = .halt → t.moc.motionState = .suspended

/-- Where the stage and the power state stand in every block, all stand powered (R162, R164, R166). -/
theorem powered_of_stageInv {p : PowerState} {t : State} (inv : StageInv t) (state : t.pws.powerState = p) : Spec.powered p t := by
  have part : powerPartOf p = Spec.powerPart p := by cases p <;> rfl
  exact ⟨state, inv.powerRcu.trans state, inv.powerMoc.trans state, inv.powerCfs.trans state, by rw [inv.part, state, part], inv.greatest⟩

/-- The timers of an entry leave what the stage is formed from. -/
theorem safe_entryTimers (p : PowerState) : safeCore { s with pws := entryTimers p s } = safeCore s := by
  cases p with
  | settle =>
    unfold entryTimers
    cases s.pws.resumeView <;> rfl
  | _ => rfl

/-- The timers of an entry leave PWS's views. -/
theorem entryTimers_views (p : PowerState) :
    entryTimers p s = { s.pws with
      bridgeTimer := (entryTimers p s).bridgeTimer, settleTimer := (entryTimers p s).settleTimer
      settlePhase := (entryTimers p s).settlePhase } := by
  cases p with
  | settle =>
    unfold entryTimers
    cases s.pws.resumeView <;> rfl
  | _ => rfl

/-- At shed stage 4 MOC is SUSPENDED, as in HALT, whose contribution is 4 (R58, R162, R164). -/
theorem halt_suspends {t : State} (inv : StageInv t) (rest : RestInv t) (halted : t.pws.powerState = .halt) :
    t.moc.motionState = .suspended := by
  have part : t.pws.powerPart = 4 := by rw [inv.part, halted]; rfl
  have greatest := inv.greatest
  have thermal := inv.thermal
  have sag := inv.sag
  refine rest.suspended.mpr (inv.stageMoc.trans ?_)
  omega

/-- PWS enters a power state from a state that differs from `s` in the time and in PWS's own timers and views alone. -/
theorem entersPower_enters {s x : State} (p : PowerState) (h : safeCore x = safeCore s) (alone : x = { s with now := x.now, pws := x.pws })
    (inv : StageInv s) (rest : RestInv s) : Enters p x s (entersPower p x) := by
  have kept := (Keeps.of_safe h).trans ((Keeps.of_safe (safe_entryTimers x p)).trans (enterPower_keeps { x with pws := entryTimers p x } p))
  have told : PowerOnly s (powerTold p { x with pws := entryTimers p x }) := by
    have stage : (entryTimers p x).shedStage = s.pws.shedStage :=
      (congrArg (fun c => c.stage.shedStage) (safe_entryTimers x p) :).trans (congrArg (fun c => c.stage.shedStage) h)
    refine ⟨?_, ?_, ?_, stage, ?_, ?_, ?_, ?_, ?_⟩ <;> rw [alone] <;> rfl
  have moc : RestInv (powerTold p { x with pws := entryTimers p x }) := rest_of_same (s := s) (by
    refine (congrArg restOf told.moc :).trans ?_
    rfl) rest
  obtain ⟨pws, now⟩ := formStage_pws (powerTold p { x with pws := entryTimers p x }) moc
  have reaches := formStage_reaches told inv rest
  have timers : (entryTimers p x).sagView = x.pws.sagView ∧ (entryTimers p x).sagPart = x.pws.sagPart
      ∧ (entryTimers p x).sagRaise = x.pws.sagRaise := by
    rw [entryTimers_views]
    exact ⟨rfl, rfl, rfl⟩
  obtain ⟨sagView, sagPart, sagRaise⟩ := timers
  rw [← enterPower_eq] at pws now reaches
  rw [show entersPower p x = enterPower p { x with pws := entryTimers p x } from rfl]
  generalize enterPower p { x with pws := entryTimers p x } = t at *
  have state : t.pws.powerState = p := by rw [pws]; rfl
  refine ⟨?_, now, powered_of_stageInv (kept.stage inv) state, reaches, fun halt =>
    halt_suspends (kept.stage inv) (kept.rest rest) (state.trans halt)⟩
  rw [pws]
  unfold powerTold
  rw [← sagView, ← sagPart, ← sagRaise]

/-- A command on a released part has its effect. -/
theorem whenReleased_runs {f : State → State} {s : State} (released : s.inReset = false) : whenReleased f s = .next (f s) := by
  rcases whenReleased_eq s f with ⟨_, held⟩ | ⟨e, _⟩
  · rw [released] at held
    cases held
  · exact e

/-- A running timer that expires on a released part has its effect at its time. -/
theorem whenReleased_expires {f : State → State} {timer : Timer} {due : Time} {s : State} (released : s.inReset = false)
    (runs : timer = .running due) : whenReleased (fun s => onExpiry timer f s) s = .next (f (s.reach due)) := by
  rw [whenReleased_runs released, runs]
  rfl

/-- The sag contribution after an expiry of its timer (R165). -/
def steppedSag (p : Pws) : Nat := if p.sagRaise then min 3 (p.sagPart + 1) else p.sagPart - 1

/-- PWS with its sag contribution moved one step and the sag timer set again, before the stage is formed (R165). -/
def sagStepped (s : State) : State :=
  { s with
    pws.sagPart := steppedSag s.pws
    pws.sagTimer := (Spec.sagTimer s.pws.sagView (steppedSag s.pws) s.now s.pws.sagRaise).1
    pws.sagRaise := (Spec.sagTimer s.pws.sagView (steppedSag s.pws) s.now s.pws.sagRaise).2 }

theorem stepSag_eq : stepSag s = formStage (sagStepped s) := by
  have stepped : (if s.pws.sagRaise then countUp s.pws.sagPart 3 else s.pws.sagPart - 1) = steppedSag s.pws := by
    unfold countUp steppedSag
    rw [Nat.min_comm]
  unfold stepSag
  simp only [onPws, stepped, setSagTimer_eq]
  rfl

end Sys2Proof.Laws
end

section
/-! STATEMENTS. The timers of PWS (R159 to R161, R165). -/

namespace Sys2Proof.Record

open Sys2Proof.Machine Sys2Proof.Laws

/-- The qualification gives the track status, and a change of it moves the power state (R159 to R161). -/
theorem qualifyTrack_moves_power {s : State} (inv : StageInv s) (rest : RestInv s) (due : Time) :
    let t := qualifyTrack (s.reach due)
    let x := { s.reach due with pws.qualification := .stopped, pws.trackPresent := s.pws.towardPresent }
    let p := if s.pws.towardPresent != s.pws.trackPresent then Spec.afterTrack s.pws s.pws.towardPresent else s.pws.powerState
    p = s.pws.powerState ∧ t = x ∨ p ≠ s.pws.powerState ∧ Enters p x s t := by
  intro t x p
  have enters (q : PowerState) : Enters q x s (entersPower q x) := entersPower_enters q rfl rfl inv rest
  have qualified : t = if s.pws.towardPresent = s.pws.trackPresent then x
      else if s.pws.towardPresent then trackPresent x else trackLost x := rfl
  by_cases same : s.pws.towardPresent = s.pws.trackPresent
  · refine .inl ⟨?_, qualified.trans (if_pos same)⟩
    simp [p, same]
  · rw [if_neg same] at qualified
    have moved : p = Spec.afterTrack x.pws s.pws.towardPresent := by
      simp [p, same]
      rfl
    rcases trackEvent_eq x s.pws.towardPresent with ⟨stays, e⟩ | ⟨moves, _, e⟩
    · exact .inl ⟨moved.trans stays, qualified.trans e⟩
    · refine .inr ⟨fun stays => moves (moved.symm.trans stays), ?_⟩
      rw [qualified, e, moved]
      exact enters _

/-- Settles O45: each timer by the power state it enters, and by the stage that PWS forms after it. -/
theorem powerTimersMoveThePower : Obligations.PowerTimersMoveThePower := by
  intro s released inv rest
  refine ⟨fun due runs => ⟨_, whenReleased_expires released runs, ?_⟩, fun due runs => ⟨_, whenReleased_expires released runs, ?_⟩,
    fun due runs => ⟨_, whenReleased_expires released runs, ?_⟩, fun due runs => ⟨_, whenReleased_expires released runs, ?_⟩⟩
  · intro changed p
    rcases qualifyTrack_moves_power inv rest due with ⟨stays, e⟩ | ⟨moves, enters⟩
    · have same : p = s.pws.powerState := stays
      have quiet : safeCore { s.reach due with pws.qualification := .stopped, pws.trackPresent := s.pws.towardPresent } = safeCore s := rfl
      have told : PowerOnly s { s.reach due with pws.qualification := .stopped, pws.trackPresent := s.pws.towardPresent } :=
        ⟨rfl, rfl, rfl, rfl, rfl, rfl, rfl, rfl, rfl⟩
      rw [e]
      exact ⟨rfl, rfl, rfl, powered_of_stageInv ((Keeps.of_safe quiet).stage inv) same.symm, stageReaches_held told inv,
        fun _ => ⟨rfl, rfl, rfl⟩, fun moves => absurd same moves, fun moves => absurd same moves, fun moves => absurd same moves,
        fun moves => absurd same moves⟩
    · have goes : p ≠ s.pws.powerState := moves
      obtain ⟨pws, now, powered, reaches, halted⟩ : Enters p _ s (qualifyTrack (s.reach due)) := enters
      generalize qualifyTrack (s.reach due) = t at *
      clear_value p
      refine ⟨now, ?_, ?_, powered, reaches, fun stays => absurd stays goes, ?_, ?_, ?_, ?_⟩
      · rw [pws]
        exact (congrArg Pws.qualification (entryTimers_views _ p) :)
      · rw [pws]
        exact (congrArg Pws.trackPresent (entryTimers_views _ p) :)
      · rintro - rfl
        rw [pws]
        exact ⟨rfl, rfl⟩
      · rintro - rfl
        rw [pws]
        show ((if s.pws.resumeView = true then _ else _ : Pws).settlePhase = _ ∧ (_ → (if s.pws.resumeView = true then _ else _ : Pws).settleTimer = _))
        cases s.pws.resumeView
        · exact ⟨rfl, nofun⟩
        · exact ⟨rfl, fun _ => rfl⟩
      · rintro - rfl
        rw [pws]
        exact ⟨rfl, rfl, rfl, halted rfl⟩
      · rintro - rfl
        rw [pws]
        exact ⟨rfl, rfl⟩
  · have enters : Enters .halt (s.reach due) s (enterHalt (s.reach due)) := entersPower_enters .halt rfl rfl inv rest
    exact ⟨enters.now, enters.powered, by rw [enters.pws]; rfl, enters.reaches⟩
  · have enters : Enters .run (s.reach due) s (enterRun (s.reach due)) := entersPower_enters .run rfl rfl inv rest
    exact ⟨enters.now, enters.powered, by rw [enters.pws]; rfl, by rw [enters.pws]; rfl, enters.reaches⟩
  · have told : PowerOnly s (sagStepped (s.reach due)) := ⟨rfl, rfl, rfl, rfl, rfl, rfl, rfl, rfl, rfl⟩
    have kept := (Keeps.of_safe (safe_reach s due)).trans (stepSag_keeps (s.reach due))
    have reaches := formStage_reaches told inv rest
    obtain ⟨pws, now⟩ := formStage_pws (sagStepped (s.reach due)) (rest_of_same (s := s) rfl rest)
    rw [← stepSag_eq] at reaches pws now
    exact ⟨now, powered_of_stageInv (kept.stage inv) (by rw [pws]; rfl), by rw [pws]; rfl, by rw [pws]; rfl, reaches⟩

end Sys2Proof.Record
end

section
/-! SUPPORT. The stages of the control step, one equation each (R48 to R70). -/

namespace Sys2Proof.Laws

open Sys2Proof.Machine

variable (s : State)

/-! ## Momentum (R50, R51, R55) -/

/-- In its evaluated state MOC stands under the latch and at stage 4 alone (R58). -/
theorem stands_of_evaluated {m : Moc} (evaluated : m.motionState = Spec.motionOf m) : m.stands = Spec.stands m := by
  obtain ⟨suspended, emergency⟩ := motionOf_iff m
  unfold Moc.stands Spec.stands
  rw [evaluated, Bool.eq_iff_iff]
  simp only [Bool.or_eq_true, decide_eq_true_eq, suspended, emergency]
  by_cases off : m.shedView = 4 <;> simp [off]

/-- At rest MOC stands under the latch and at stage 4 alone (R58, R61). -/
theorem RestInv.stands {s : State} (rest : RestInv s) : s.moc.stands = Spec.stands s.moc := by
  unfold Moc.stands Spec.stands
  rw [Bool.eq_iff_iff]
  simp only [Bool.or_eq_true, decide_eq_true_eq, rest.suspended, rest.emergency]
  by_cases off : s.moc.shedView = 4 <;> simp [off]

/-- P after a step that MOC does not stand in is the ramp's. -/
theorem ramp_eq (curve : s.moc.curve = s.cfs.working.speedCurve) (moves : Spec.stands s.moc = false) :
    Spec.ramp s = moveRamp s.moc.ramp s.rampTarget s.cfg.accel s.cfg.decel s.moc.brakeView s.moc.lossBrake := by
  unfold Spec.ramp moveRamp State.rampTarget State.notchSpeed brakedDecel State.cfg
  rw [moves, if_neg Bool.false_ne_true, curve]

/-- SSQ after the triggers that the momentum of a control step raises (R55). -/
def momentumTriggers (s : State) (q : Nat) : Ssq :=
  if s.moc.ramp = 0 ∧ 0 < q then Spec.triggered 0 s.cfs.working s.ssq
  else if 0 < s.moc.ramp ∧ q = 0 then
    (if Spec.reverses s then Spec.triggered 2 s.cfs.working (Spec.triggered 1 s.cfs.working s.ssq) else Spec.triggered 1 s.cfs.working s.ssq)
  else s.ssq

/-- What momentum leaves: P, its markers and triggers, and the direction that a completed reversal turns to (R51, R55, R57). -/
def rampMoved (s : State) : State :=
  { s with
    moc.ramp := Spec.ramp s, moc.fell := decide (Spec.ramp s < s.moc.ramp)
    moc.coastHold := s.moc.coastHold && (decide (Spec.ramp s = 0) || Spec.stands s.moc)
    moc.lossBrake := s.moc.lossBrake && (decide (Spec.ramp s ≠ 0) || Spec.stands s.moc)
    moc.runDirection := if Spec.reverses s then s.moc.directionView else s.moc.runDirection
    moc.reversalPending := s.moc.reversalPending && !Spec.reverses s
    moc.front.integral := if Spec.reverses s then 0 else s.moc.front.integral
    moc.rear.integral := if Spec.reverses s then 0 else s.moc.rear.integral
    rcu.views.runDirection := if Spec.reverses s then s.moc.directionView else s.rcu.views.runDirection
    ltc.runDirection := if Spec.reverses s then s.moc.directionView else s.ltc.runDirection
    bmu.polarityShadow := if Spec.reverses s then s.moc.directionView else s.bmu.polarityShadow
    ssq := momentumTriggers s (Spec.ramp s) }

theorem stageMomentum_eq (rest : RestInv s) (curve : s.moc.curve = s.cfs.working.speedCurve) : stageMomentum s = rampMoved s := by
  unfold stageMomentum
  rw [RestInv.stands rest]
  cases stands : Spec.stands s.moc with
  | true =>
    have still : s.moc.ramp = 0 := by
      refine rest.rest ?_
      simp only [Spec.stands, Bool.or_eq_true, decide_eq_true_eq] at stands
      exact stands
    have ends : Spec.ramp s = 0 := by
      unfold Spec.ramp
      rw [stands]
      rfl
    have stays : Spec.reverses s = false := by
      unfold Spec.reverses
      rw [stands]
      rfl
    rw [if_pos rfl]
    simp [rampMoved, momentumTriggers, ends, stays, still, stands, onMoc]
  | false =>
    rw [if_neg Bool.false_ne_true]
    have turns : Spec.reverses s = (decide (0 < s.moc.ramp) && decide (Spec.ramp s = 0) && s.moc.reversalPending) := by
      unfold Spec.reverses
      rw [stands, Bool.not_false, Bool.true_and]
    dsimp only
    rw [← ramp_eq s curve stands, completeReversal_eq]
    simp only [raiseTrigger, takeTrigger_eq, Trigger.entry, onMoc]
    by_cases starts : s.moc.ramp = 0 ∧ 0 < Spec.ramp s
    · have stays : Spec.reverses s = false := by simp [turns, starts.1]
      simp [rampMoved, momentumTriggers, stays, stands, starts, State.cfg]
    · rw [if_neg starts]
      by_cases stops : 0 < s.moc.ramp ∧ Spec.ramp s = 0
      · have same : Spec.reverses s = s.moc.reversalPending := by simp [turns, stops]
        cases pending : s.moc.reversalPending <;>
          simp [rampMoved, momentumTriggers, same, pending, stands, stops, State.cfg, Spec.runDirectionBecomes]
      · have stays : Spec.reverses s = false := by
          rw [turns, ← Bool.decide_and, decide_eq_false stops, Bool.false_and]
        simp [rampMoved, momentumTriggers, stays, stands, starts, stops]

/-! ## The regulators and the ceilings (R64 to R66) -/

theorem floorDiv_eq {b : Int} (positive : 0 ≤ b) (a : Int) : floorDiv a b = a / b := Int.fdiv_eq_ediv_of_nonneg a positive

theorem holdsOff_iff (f : FaultState) : f.holdsOff = true ↔ f ≠ .ok := by cases f <;> decide

/-- A regulator moves J and u alone, by R64 and R65. -/
theorem regulated_eq (x : TruckControl) (c : Configuration) (pint ff : Nat) (stands : Bool) :
    x.regulated c pint ff stands =
      { x with integral := (Spec.regulated c pint ff x stands).1, output := (Spec.regulated c pint ff x stands).2 } := by
  unfold TruckControl.regulated Spec.regulated regulate candidateIntegral rawOutput
  simp only [holdsOff_iff, floorDiv_eq (show (0 : Int) ≤ 64 by decide), floorDiv_eq (show (0 : Int) ≤ 4096 by decide),
    Record.clampInt_eq (-4194304) 4194303 _ (by decide), Record.clampInt_eq 0 1023 _ (by decide)]
  by_cases off : pint = 0 ∨ stands = true ∨ x.faultView ≠ .ok
  · rw [if_pos off, if_pos off]
  · rw [if_neg off, if_neg off]

/-- What the regulators and the limiter leave (R64 to R66). -/
def regulatedBy (c : Configuration) (m : Moc) : Moc :=
  let pint := m.ramp / 16
  let ff := pint * c.kff / 4096
  { m with
    feedforward := ff
    front := { m.front with
      integral := (Spec.regulated c pint ff m.front (Spec.stands m)).1, output := (Spec.regulated c pint ff m.front (Spec.stands m)).2
      ceiling := Spec.ceiling m.front.ceiling m.front.current c.currentLimit }
    rear := { m.rear with
      integral := (Spec.regulated c pint ff m.rear (Spec.stands m)).1, output := (Spec.regulated c pint ff m.rear (Spec.stands m)).2
      ceiling := Spec.ceiling m.rear.ceiling m.rear.current c.currentLimit } }

theorem stageRegulation_eq (evaluated : s.moc.motionState = Spec.motionOf s.moc) :
    stageLimiter (stageRegulation s) = { s with moc := regulatedBy s.cfs.working s.moc } := by
  unfold stageLimiter stageRegulation
  simp only [onMoc, Moc.mapTrucks, regulated_eq, stands_of_evaluated evaluated]
  rfl

/-! ## Slip (R67, R68) -/

/-- SLIP_STATE and the slip count as a control step leaves them (R67, R68). -/
def gripOf (s : State) : SlipState × Nat := Spec.slip s.moc s.moc.ramp s.cfs.working.slipThreshold s.moc.front.emf s.moc.rear.emf

/-- The queue after the notice that a move of SLIP_STATE pushes. -/
def slipNoticed (before after : SlipState) (h : Hpt) : Hpt :=
  match before, after with
  | .grip, .slip x => h.push (.slip false x)
  | .slip x, .grip => h.push (.slip true x)
  | .grip, .grip => h
  | .slip _, .slip _ => h

/-- A state with SLIP_STATE and the slip count moved to `g`: C_slip, the trigger and the notice follow it, and RCU shows `shown`. -/
def gripped (g : SlipState × Nat) (shown : SlipState) (s : State) : State :=
  { s with
    moc.slipState := g.1, moc.slipCount := g.2
    moc.slipCap := match g.1, s.moc.slipState with
      | .slip .front, _ => s.moc.rear.output
      | .slip .rear, _ => s.moc.front.output
      | .grip, .slip _ => 1023
      | .grip, .grip => s.moc.slipCap
    ssq := if s.moc.slipState = .grip ∧ g.1 ≠ .grip then Spec.triggered 3 s.cfs.working s.ssq else s.ssq
    rcu.views.slipState := shown
    hpt := slipNoticed s.moc.slipState g.1 s.hpt }

/-- In GRIP nothing but the count moves. -/
theorem gripped_grip {s : State} (grips : s.moc.slipState = .grip) (n : Nat) :
    gripped (.grip, n) s.rcu.views.slipState s = onMoc (fun m => { m with slipCount := n }) s := by
  unfold gripped
  rw [grips]
  simp [onMoc, slipNoticed, ← grips]

/-- In a slip C_slip follows the other truck's output. -/
theorem gripped_slip {s : State} {x : Truck} (slips : s.moc.slipState = .slip x) (n : Nat) :
    gripped (.slip x, n) s.rcu.views.slipState s =
      onMoc (fun m => { m with slipCount := n }) (onMoc (fun m => { m with slipCap := (m.truck (otherTruck x)).output }) s) := by
  unfold gripped
  rw [slips]
  cases x <;> simp [onMoc, slipNoticed, ← slips, Moc.truck, otherTruck]

theorem endSlip_eq : ∃ shown, endSlip s = gripped (.grip, 0) shown s := by
  rcases endSlip_cases s with ⟨grips, e⟩ | ⟨x, slips, e⟩
  · exact ⟨_, (e.trans (gripped_grip grips 0).symm :)⟩
  · refine ⟨.grip, ?_⟩
    unfold gripped
    rw [e, slips]
    rfl

/-- A slip starts with its trigger and its notice (R67). -/
theorem startSlip_eq {s : State} (grips : s.moc.slipState = .grip) :
    ∃ shown, startSlip s = gripped (.slip (if s.moc.rear.emf < s.moc.front.emf then .front else .rear), 0) shown s := by
  unfold startSlip gripped raiseTrigger
  simp only [takeTrigger_eq]
  rw [grips]
  generalize (if s.moc.rear.emf < s.moc.front.emf then Truck.front else .rear) = x
  refine ⟨.slip x, ?_⟩
  cases x <;> rfl

theorem slipActive_iff : s.slipActive = true ↔
    ¬(s.moc.front.faultView ≠ .ok ∨ s.moc.rear.faultView ≠ .ok ∨ s.moc.ramp = 0 ∨ s.cfs.working.slipThreshold = 0) := by
  have held (f : FaultState) : (!f.holdsOff) = true ↔ f = .ok := by cases f <;> decide
  unfold State.slipActive Moc.held State.cfg
  simp only [Bool.and_eq_true, held, decide_eq_true_eq, not_or, not_not, Moc.truck, Nat.pos_iff_ne_zero, and_assoc]

/-- Slip detection in GRIP (R67). -/
theorem gripOf_grip (active : s.slipActive = true) (grips : s.moc.slipState = .grip) :
    gripOf s = if s.moc.emfDifference ≤ s.cfg.slipThreshold then (.grip, 0)
      else if s.moc.slipCount < 3 then (.grip, s.moc.slipCount + 1)
      else (.slip (if s.moc.rear.emf < s.moc.front.emf then .front else .rear), 0) := by
  unfold gripOf Spec.slip
  rw [if_neg (slipActive_iff s |>.mp active), grips]
  rfl

/-- Slip detection in a slip (R68). -/
theorem gripOf_slip (active : s.slipActive = true) {x : Truck} (slips : s.moc.slipState = .slip x) :
    gripOf s = if s.cfg.slipThreshold / 2 < s.moc.emfDifference then (.slip x, 0)
      else if s.moc.slipCount < 3 then (.slip x, s.moc.slipCount + 1)
      else (.grip, 0) := by
  unfold gripOf Spec.slip
  rw [if_neg (slipActive_iff s |>.mp active), slips]
  rfl

theorem stageSlip_eq : ∃ shown, stageSlip s = gripped (gripOf s) shown s := by
  have spent (few : ¬s.moc.slipCount < 3) : 4 ≤ s.moc.slipCount + 1 := by omega
  have left (few : s.moc.slipCount < 3) : ¬4 ≤ s.moc.slipCount + 1 := by omega
  unfold stageSlip
  by_cases active : s.slipActive = true
  · rw [if_pos active]
    cases old : s.moc.slipState with
    | grip =>
      rw [gripOf_grip s active old]
      dsimp only
      split
      · exact ⟨_, (gripped_grip old 0).symm⟩
      · by_cases few : s.moc.slipCount < 3
        · rw [if_pos few, if_neg (left few)]
          exact ⟨_, (gripped_grip old _).symm⟩
        · rw [if_neg few, if_pos (spent few)]
          exact startSlip_eq old
    | slip x =>
      rw [gripOf_slip s active old]
      dsimp only
      have counts (n : Nat) := (gripped_slip old n).symm
      by_cases high : s.cfg.slipThreshold / 2 < s.moc.emfDifference
      · rw [if_pos high]
        exact ⟨_, (if_pos high).trans (counts 0)⟩
      · rw [if_neg high]
        refine Exists.imp (fun _ e => (if_neg high).trans e) ?_
        by_cases few : s.moc.slipCount < 3
        · rw [if_pos few]
          exact ⟨_, (if_neg (left few)).trans (counts _)⟩
        · rw [if_neg few]
          refine ⟨.grip, (if_pos (spent few)).trans ?_⟩
          unfold endSlip gripped
          dsimp only [onMoc_moc]
          rw [old]
          rfl
  · have off := active
    rw [slipActive_iff, not_not] at off
    rw [if_neg active, show gripOf s = (.grip, 0) from if_pos off]
    exact endSlip_eq s

/-! ## Duty and modes (R69) -/

/-- A truck's applied duty, by MOC's evaluated state (R69). -/
theorem appliedDuty_eq (evaluated : s.moc.motionState = Spec.motionOf s.moc) (x : Truck) :
    s.appliedDuty x = Spec.duty s.moc s.cfs.working (s.moc.truck x) x := by
  unfold State.appliedDuty Spec.duty Moc.held
  simp only [Bool.or_eq_true, holdsOff_iff, stands_of_evaluated evaluated]
  rfl

/-- From `s` to `t` both duties are formed and handed on with their modes (R69, R172). -/
structure Drives (s t : State) : Prop where
  frame   : t = { s with moc := t.moc, bmu := t.bmu, odu := t.odu, freeIndex := t.freeIndex }
  moc     : t.moc = { s.moc with front.duty := s.appliedDuty .front, rear.duty := s.appliedDuty .rear }
  shadows : ∀ x, (t.bmu.bridge x).dutyShadow = s.appliedDuty x ∧ (t.bmu.bridge x).modeShadow = s.moc.mode x
  watch   : ∀ x, t.odu.watch (.truck x) = { s.odu.watch (.truck x) with
              command := s.appliedDuty x
              openTimer := if s.appliedDuty x < 256 then .stopped else (s.odu.watch (.truck x)).openTimer }

theorem driveTruck_hands (x : Truck) :
    Hands x (s.appliedDuty x) (s.moc.mode x) (onMoc (·.mapTruck x fun y => { y with duty := s.appliedDuty x }) s) (driveTruck x s)
    ∧ (driveTruck x s).moc = s.moc.mapTruck x fun y => { y with duty := s.appliedDuty x } := by
  have hands := handDrive_hands (onMoc (·.mapTruck x fun y => { y with duty := s.appliedDuty x }) s) x (s.appliedDuty x)
  rw [show (onMoc (·.mapTruck x fun y => { y with duty := s.appliedDuty x }) s).moc.mode x = s.moc.mode x by cases x <;> rfl] at hands
  exact ⟨hands, handDrive_moc _ x _⟩

theorem stageDuty_drives : Drives s (stageDuty s) := by
  obtain ⟨front, frontMoc⟩ := driveTruck_hands s .front
  obtain ⟨rear, rearMoc⟩ := driveTruck_hands (driveTruck .front s) .rear
  have duty : (driveTruck .front s).appliedDuty .rear = s.appliedDuty .rear := by
    unfold State.appliedDuty State.cfg
    rw [frontMoc, front.frame]
    rfl
  have mode : (driveTruck .front s).moc.mode .rear = s.moc.mode .rear := by
    rw [frontMoc]
    rfl
  rw [duty, mode] at rear
  rw [duty, frontMoc] at rearMoc
  unfold stageDuty
  refine ⟨?_, rearMoc, fun x => ?_, fun x => ?_⟩
  · rw [rear.frame, front.frame]
    rfl
  · cases x with
    | front =>
      rw [rear.other (x := .front) nofun]
      exact front.shadows
    | rear => exact rear.shadows
  · cases x with
    | front =>
      rw [rear.watch, if_neg nofun]
      exact (front.watch _).trans (if_pos rfl)
    | rear =>
      have kept : (driveTruck .front s).odu.watch (.truck .rear) = s.odu.watch (.truck .rear) := (front.watch _).trans (if_neg nofun)
      rw [← kept]
      exact (rear.watch _).trans (if_pos rfl)

/-! ## Publication (R70) -/

/-- SSQ takes a publication of MOC, and may squeal (R115). -/
theorem takeMotion_eq (q : Ssq) (c : Configuration) (effort ff speed : Nat) (fell : Bool) (brake : Nat) :
    q.takeMotion c effort ff speed fell brake = Spec.heardMotion c effort ff speed fell brake q := by
  unfold Ssq.takeMotion Spec.heardMotion
  simp only [takeTrigger_eq, Bool.and_eq_true, decide_eq_true_eq, Trigger.entry, and_assoc]
  split
  · rfl
  · by_cases fast : c.squealSpeed < speed <;> cases q.squealArmed <;> simp [fast]

/-- What MOC publishes, taken by RCU, SSQ and LTC (R70). -/
def motionPublished (s : State) : State :=
  { s with
    rcu.views := s.moc.published s.rcu.views
    ssq := Spec.heardMotion s.cfs.working (s.moc.truck s.moc.beatTruck).output s.moc.feedforward (s.moc.ramp / 16) s.moc.fell s.moc.brakeView s.ssq
    ltc.runSpeed := s.moc.ramp / 16, ltc.runDirection := s.moc.runDirection }

theorem stagePublication_fanOnly : FanOnly (motionPublished s) (stagePublication s)
    ∧ (stagePublication s).smu.motionView = s.moc.motionState := by
  unfold stagePublication
  simp only [takeMotion_eq]
  exact smokeTakeMotion_fanOnly (motionPublished s) s.moc.motionState

/-! ## The whole step -/

/-- The settings and the sample of a control step, taken (R48, R50, R63). -/
def sampled (g : GapSample) (rest : List GapSample) (s : State) : State :=
  { s with
    moc.samples := rest, moc.curve := s.cfs.working.speedCurve, moc.beatSource := s.cfs.working.beatSource
    moc.front.emf := g.emfF, moc.front.current := g.currentF, moc.rear.emf := g.emfR, moc.rear.current := g.currentR }

/-- MOC as a control step leaves it, but for both duties (R48 to R68). -/
def steppedMoc (g : GapSample) (rest : List GapSample) (s : State) : Moc :=
  let c := s.cfs.working
  let q := Spec.ramp s
  let pint := q / 16
  let ff := pint * c.kff / 4096
  let frontIn := { s.moc.front with emf := g.emfF, integral := if Spec.reverses s then 0 else s.moc.front.integral }
  let rearIn := { s.moc.rear with emf := g.emfR, integral := if Spec.reverses s then 0 else s.moc.rear.integral }
  let front := Spec.regulated c pint ff frontIn (Spec.stands s.moc)
  let rear := Spec.regulated c pint ff rearIn (Spec.stands s.moc)
  let grip := Spec.slip s.moc q c.slipThreshold g.emfF g.emfR
  let m := (rampMoved (sampled g rest s)).moc
  { m with
    motionState := Spec.motionOf m, feedforward := ff, slipState := grip.1, slipCount := grip.2
    slipCap := match grip.1, s.moc.slipState with
      | .slip .front, _ => rear.2
      | .slip .rear, _ => front.2
      | .grip, .slip _ => 1023
      | .grip, .grip => s.moc.slipCap
    front := { s.moc.front with
      emf := g.emfF, current := g.currentF, integral := front.1, output := front.2
      ceiling := Spec.ceiling s.moc.front.ceiling g.currentF c.currentLimit }
    rear := { s.moc.rear with
      emf := g.emfR, current := g.currentR, integral := rear.1, output := rear.2
      ceiling := Spec.ceiling s.moc.rear.ceiling g.currentR c.currentLimit } }

/-- From `s` to `v` the control step has come to its duty stage (R48 to R68). -/
structure Stepped (g : GapSample) (rest : List GapSample) (s v : State) : Prop where
  frame : v = { s with
            moc := v.moc, rcu := v.rcu, hpt := v.hpt, ssq := v.ssq, smu := v.smu, odu := v.odu, ltc := v.ltc, bmu := v.bmu }
  moc   : v.moc = steppedMoc g rest s
  rcu   : ∀ m : Moc, { v.rcu with views := m.published v.rcu.views } = { s.rcu with views := m.published s.rcu.views }
  ltc   : v.ltc = { s.ltc with runDirection := v.ltc.runDirection }
  ssq   : v.ssq = Spec.stepTriggers s (Spec.ramp s) (steppedMoc g rest s).slipState
  hpt   : v.hpt = (Spec.stepNotices s (steppedMoc g rest s).motionState (steppedMoc g rest s).slipState).hpt
  smu   : v.smu = { s.smu with motionView := v.smu.motionView, fan := v.smu.fan, fanPwm := v.smu.fanPwm }
  watch : ∀ x, v.odu.watch (.truck x) = s.odu.watch (.truck x)

theorem momentum_evaluated (g : GapSample) (rest : List GapSample) (atRest : RestInv s) :
    evaluateMotion (stageMomentum (stageSample g (motionTakeSettings (onMoc (fun m => { m with samples := rest }) s))))
      = evaluateMotion (rampMoved (sampled g rest s)) :=
  congrArg evaluateMotion (stageMomentum_eq (sampled g rest s) (rest_of_same (s := s) rfl atRest) rfl)

/-- The notices of a control step, in their order: the motion state, then the slip (R58, R67, R68). -/
theorem stepNotices_hpt (m : MotionState) (after : SlipState) :
    (Spec.stepNotices s m after).hpt
      = slipNoticed s.moc.slipState after (if m = s.moc.motionState then s.hpt else s.hpt.push (.motionState m)) := by
  unfold Spec.stepNotices slipNoticed
  by_cases same : m = s.moc.motionState
  · simp only [same, if_true]
    cases s.moc.slipState <;> cases after <;> rfl
  · simp only [same, if_false]
    cases s.moc.slipState <;> cases after <;> rfl

theorem slip_stepped (g : GapSample) (rest : List GapSample) :
    Stepped g rest s (stageSlip (stageLimiter (stageRegulation (evaluateMotion (rampMoved (sampled g rest s)))))) := by
  obtain ⟨evaluated, _, _⟩ := motionBecomes_takes (rampMoved (sampled g rest s)) (Spec.motionOf (rampMoved (sampled g rest s)).moc)
  have fan := motionBecomes_fanOnly (rampMoved (sampled g rest s)) (Spec.motionOf (rampMoved (sampled g rest s)).moc)
  rw [← evaluateMotion_eq] at evaluated fan
  generalize evaluateMotion (rampMoved (sampled g rest s)) = e at evaluated fan
  rw [stageRegulation_eq e (by rw [evaluated]; rfl)]
  obtain ⟨shown, slips⟩ := stageSlip_eq { e with moc := regulatedBy e.cfs.working e.moc }
  have cfs : e.cfs = s.cfs := by
    rw [fan.frame]
    rfl
  have moc : (stageSlip { e with moc := regulatedBy e.cfs.working e.moc }).moc = steppedMoc g rest s := by
    rw [slips, evaluated, cfs]
    rfl
  have grip : gripOf { e with moc := regulatedBy e.cfs.working e.moc } = ((steppedMoc g rest s).slipState, (steppedMoc g rest s).slipCount) := by
    rw [cfs, evaluated]
    rfl
  have old : e.moc.slipState = s.moc.slipState := by rw [evaluated]; rfl
  rw [grip] at slips
  refine ⟨?_, moc, fun m => ?_, ?_, ?_, ?_, ?_, fun x => ?_⟩
  · rw [slips, fan.frame]
    rfl
  · rw [slips, fan.frame]
    rfl
  · rw [slips, fan.frame]
    rfl
  · rw [slips, fan.frame]
    rfl
  · rw [slips, stepNotices_hpt]
    show slipNoticed e.moc.slipState _ e.hpt = _
    rw [old, fan.frame]
    rfl
  · rw [slips]
    exact fan.smu
  · rw [slips]
    exact fan.watch (.truck x) nofun

/-- MOC as a control step leaves it, with the duty of each truck (R48 to R69). -/
def drivenMoc (g : GapSample) (rest : List GapSample) (s : State) : Moc :=
  let m := steppedMoc g rest s
  { m with
    front.duty := Spec.duty m s.cfs.working m.front .front
    rear.duty := Spec.duty m s.cfs.working m.rear .rear }

/-- A control step has gone from `s` to `t`, MOC as `m` (R48). -/
structure StepEnds (m : Moc) (s t : State) : Prop where
  frame   : t = { s with
              moc := t.moc, rcu := t.rcu, bmu := t.bmu, hpt := t.hpt, ssq := t.ssq, smu := t.smu, ltc := t.ltc, odu := t.odu
              freeIndex := t.freeIndex }
  moc     : t.moc = m
  rcu     : t.rcu = { s.rcu with views := m.published s.rcu.views }
  ssq     : t.ssq = Spec.heardMotion s.cfs.working (Spec.beatTruck m m.beatSource).output m.feedforward (m.ramp / 16) m.fell m.brakeView
              (Spec.stepTriggers s (Spec.ramp s) m.slipState)
  hpt     : t.hpt = (Spec.stepNotices s m.motionState m.slipState).hpt
  ltc     : t.ltc = { s.ltc with runSpeed := m.ramp / 16, runDirection := m.runDirection }
  smu     : t.smu.motionView = m.motionState ∧ t.smu.state = s.smu.state ∧ t.smu.heater = s.smu.heater
  shadows : ∀ x, (t.bmu.bridge x).dutyShadow = (m.truck x).duty ∧ (t.bmu.bridge x).modeShadow = Spec.mode m (m.truck x)
  watch   : ∀ x, t.odu.watch (.truck x) = { s.odu.watch (.truck x) with
              command := (m.truck x).duty
              openTimer := if (m.truck x).duty < 256 then .stopped else (s.odu.watch (.truck x)).openTimer }

/-- The duty stage and the publication end the step (R69, R70). -/
theorem Stepped.ends {g : GapSample} {rest : List GapSample} {s v : State} (stepped : Stepped g rest s v) :
    StepEnds (drivenMoc g rest s) s (stagePublication (stageDuty v)) := by
  have drives := stageDuty_drives v
  generalize stageDuty v = w at drives
  obtain ⟨fan, shown⟩ := stagePublication_fanOnly w
  generalize stagePublication w = t at fan shown
  have evaluated : v.moc.motionState = Spec.motionOf v.moc := by
    rw [stepped.moc]
    rfl
  have vCfs : v.cfs = s.cfs := by rw [stepped.frame]
  have cfs : w.cfs = s.cfs := by
    rw [drives.frame]
    exact vCfs
  have duty (x : Truck) : v.appliedDuty x = ((drivenMoc g rest s).truck x).duty := by
    rw [appliedDuty_eq v evaluated, stepped.moc, vCfs]
    cases x <;> rfl
  have mode (x : Truck) : v.moc.mode x = Spec.mode (drivenMoc g rest s) ((drivenMoc g rest s).truck x) := by
    rw [mode_of_evaluated evaluated, stepped.moc]
    cases x <;> rfl
  have moc : w.moc = drivenMoc g rest s := by
    rw [drives.moc, stepped.moc, duty, duty]
    rfl
  have rcu : w.rcu = v.rcu := by rw [drives.frame]
  have ssq : w.ssq = v.ssq := by rw [drives.frame]
  have ltc : w.ltc = v.ltc := by rw [drives.frame]
  have smu : w.smu = v.smu := by rw [drives.frame]
  refine ⟨?_, ?_, ?_, ?_, ?_, ?_, ⟨?_, ?_, ?_⟩, fun x => ?_, fun x => ?_⟩
  · rw [fan.frame, motionPublished, drives.frame, stepped.frame]
  · rw [fan.frame]
    exact moc
  · rw [fan.frame, motionPublished]
    dsimp only
    rw [moc, rcu, stepped.rcu]
  · rw [fan.frame, motionPublished]
    dsimp only
    rw [cfs, ssq, stepped.ssq, beatTruck_eq, moc]
    rfl
  · rw [fan.frame]
    refine Eq.trans ?_ stepped.hpt
    rw [motionPublished, drives.frame]
  · rw [fan.frame, motionPublished]
    dsimp only
    rw [ltc, stepped.ltc, moc]
  · rw [shown, moc]
  · rw [fan.smu, motionPublished]
    dsimp only
    rw [smu, stepped.smu]
  · rw [fan.smu, motionPublished]
    dsimp only
    rw [smu, stepped.smu]
  · rw [fan.frame, ← duty, ← mode]
    exact drives.shadows x
  · rw [fan.watch (.truck x) nofun, ← duty, ← stepped.watch x]
    exact drives.watch x

end Sys2Proof.Laws
end

section
/-! STATEMENTS. The control step (R48 to R70). -/

namespace Sys2Proof.Record

open Sys2Proof.Machine Sys2Proof.Laws

/-- CONTROL_STEP on a sample ends as its stages leave it (R48). -/
theorem controlStep_ends {s : State} {g : GapSample} {rest : List GapSample} (samples : s.moc.samples = g :: rest)
    (released : s.inReset = false) (atRest : RestInv s) :
    ∃ t, exec .controlStep s = .next t ∧ StepEnds (drivenMoc g rest s) s t := by
  refine ⟨_, ?_, (slip_stepped s g rest).ends⟩
  show execControlStep s = _
  unfold execControlStep
  rw [whenReleased_runs released, samples]
  dsimp only [controlStep]
  rw [momentum_evaluated s g rest atRest]

/-- Settles O37: the stages one by one, each by its equation. -/
theorem controlStepMovesTheTrain : Obligations.ControlStepMovesTheTrain := by
  intro s g rest samples released atRest
  obtain ⟨t, runs, frame, moc, rcu, ssq, hpt, ltc, smu, shadows, watch⟩ := controlStep_ends samples released atRest
  refine ⟨t, runs, ?_⟩
  intro c q pint ff frontIn rearIn front rear grip m
  have whole : t.moc = m := by
    have m_eq : m = { steppedMoc g rest s with
      front.duty := t.moc.front.duty, rear.duty := t.moc.rear.duty, motionState := t.moc.motionState } := rfl
    rw [m_eq, moc]
    rfl
  have driven : drivenMoc g rest s = m := moc.symm.trans whole
  rw [driven] at rcu ssq hpt ltc smu shadows watch
  have duty (x : Truck) : (m.truck x).duty = (t.moc.truck x).duty := by rw [whole]
  simp only [duty] at shadows watch
  refine ⟨whole, ?_, ?_, ?_, (shadows .front).1, (shadows .rear).1, (shadows .front).2, (shadows .rear).2, fun x => ?_, ?_, ?_, rcu, ssq, hpt,
    ltc, smu.1, smu.2.1, smu.2.2, ?_⟩
  · rw [moc]
    rfl
  · rw [moc]
    rfl
  · rw [moc]
    rfl
  · rw [watch]
  · rw [watch]
    rfl
  · rw [watch]
    rfl
  · rw [frame]
    exact ⟨rfl, rfl, rfl, rfl⟩

end Sys2Proof.Record
end

section
/-! SUPPORT. A record as its consumers take it, and a measurement of an output (R65, R77, R126, R169, R172 to R174). -/

namespace Sys2Proof.Laws

open Sys2Proof.Machine

variable (s : State)

/-! ## The consumers of a record (R65, R169) -/

/-- BTG's view of a truck held off. -/
def heldBy (b : Btg) : Truck → Bool
  | .front => b.heldF
  | .rear => b.heldR

/-- A record `r` in state OK that SMU does not leave FAULT for. -/
def Quiet (o : Output) (r : FaultRecord) (s : State) : Prop :=
  r.state = .ok ∧ (o = .heater → s.smu.state = .fault → r.shorted = true)

/-- The consumers of an output's record have taken `r`, from `s` to `u` (R169). -/
structure Consumed (o : Output) (r : FaultRecord) (s u : State) : Prop where
  blocks  : u.bmu = s.bmu ∧ u.pws = s.pws ∧ u.now = s.now
  odu     : u.odu.summary = s.odu.summary ∧ u.rcu.views.faults = s.rcu.views.faults
  watches : ∀ x, (u.odu.watch x).record = (s.odu.watch x).record ∧ (u.odu.watch x).retry = (s.odu.watch x).retry
              ∧ (u.odu.watch x).probation = (s.odu.watch x).probation
              ∧ ((s.odu.watch x).openTimer = .stopped → (u.odu.watch x).openTimer = .stopped)
  command : ∀ x, x ≠ .heater → x ≠ .fan → u.odu.watch x = s.odu.watch x
  grows   : u.hpt.notices.length ≤ s.hpt.notices.length + 1
  quiet   : Quiet o r s → u.hpt = s.hpt ∧ u.odu = s.odu
  truck   : ∀ x, o = .truck x → u.moc.truck x = (s.moc.truck x).takeFault r.state ∧ heldBy u.btg x = r.state.holdsOff
  light   : ∀ n, o = .light n → u.ltc.lights[n] = { s.ltc.lights[n] with faultView := r.state }

/-- A hold-off is loud. -/
theorem Quiet.released {o : Output} {r : FaultRecord} {s : State} (h : Quiet o r s) : ¬r.state.holdsOff = true := by
  obtain ⟨ok, _⟩ := h
  rw [ok]
  exact nofun

/-- Consumers that leave ODU. -/
theorem Consumed.of_odu {o : Output} {r : FaultRecord} {s u : State} (blocks : u.bmu = s.bmu ∧ u.pws = s.pws ∧ u.now = s.now)
    (odu : u.odu = s.odu) (faults : u.rcu.views.faults = s.rcu.views.faults) (grows : u.hpt.notices.length ≤ s.hpt.notices.length + 1)
    (quiet : Quiet o r s → u.hpt = s.hpt)
    (truck : ∀ x, o = .truck x → u.moc.truck x = (s.moc.truck x).takeFault r.state ∧ heldBy u.btg x = r.state.holdsOff)
    (light : ∀ n, o = .light n → u.ltc.lights[n] = { s.ltc.lights[n] with faultView := r.state }) : Consumed o r s u where
  blocks := blocks
  odu := ⟨by rw [odu], faults⟩
  watches _ := by
    rw [odu]
    exact ⟨rfl, rfl, rfl, id⟩
  command _ _ _ := by rw [odu]
  grows := grows
  quiet q := ⟨quiet q, odu⟩
  truck := truck
  light := light

/-- MOC and BTG take a truck's record (R65, R68). -/
theorem truck_consumed (x : Truck) (r : FaultRecord) : Consumed (.truck x) r s (consumeRecord (.truck x) r s) := by
  have held (u : State) : heldBy (beatsTakeFault x r.state u).btg x = r.state.holdsOff := by cases x <;> rfl
  have takes : (s.moc.mapTruck x (·.takeFault r.state)).truck x = (s.moc.truck x).takeFault r.state :=
    (truck_mapTruck _ _ _ _).trans (if_pos rfl)
  show Consumed _ _ _ (beatsTakeFault x r.state (if r.state.holdsOff then endSlip (onMoc (·.mapTruck x (·.takeFault r.state)) s)
    else onMoc (·.mapTruck x (·.takeFault r.state)) s))
  by_cases off : r.state.holdsOff = true
  · rw [if_pos off]
    rcases endSlip_cases (onMoc (·.mapTruck x (·.takeFault r.state)) s) with ⟨_, e⟩ | ⟨t, _, e⟩ <;> rw [e]
    · refine .of_odu ⟨rfl, rfl, rfl⟩ rfl rfl (Nat.le_succ _) (fun q => absurd off q.released) ?_ nofun
      rintro y ⟨⟩
      refine ⟨Eq.trans ?_ takes, held _⟩
      cases x <;> rfl
    · refine .of_odu ⟨rfl, rfl, rfl⟩ rfl rfl (push_grows _ _) (fun q => absurd off q.released) ?_ nofun
      rintro y ⟨⟩
      refine ⟨Eq.trans ?_ takes, held _⟩
      cases x <;> rfl
  · rw [if_neg off]
    refine .of_odu ⟨rfl, rfl, rfl⟩ rfl rfl (Nat.le_succ _) (fun _ => rfl) ?_ nofun
    rintro y ⟨⟩
    exact ⟨takes, held _⟩

/-- SMU takes the heater's record, and goes to FAULT or leaves it (R126). -/
theorem heater_consumed (r : FaultRecord) : Consumed .heater r s (consumeRecord .heater r s) := by
  have enters (st : SmokeState) (loud : ¬Quiet .heater r s) :
      Consumed .heater r s (enterSmoke st (onSmu (fun u => { u with faultView := r.state, shortView := r.shorted }) s)) := by
    obtain ⟨⟨_, bmu, _, _, pws, _, _, now⟩, rcu, summary, watches⟩ := enterSmoke_stays st
      (onSmu (fun u => { u with faultView := r.state, shortView := r.shorted }) s)
    refine ⟨⟨bmu, pws, now⟩, ⟨summary, by rw [rcu]; rfl⟩, watches, fun x => enterSmoke_watch _ _, ?_, fun q => absurd q loud, nofun, nofun⟩
    by_cases same : st = s.smu.state
    · rw [enterSmoke, if_pos (by exact same)]
      exact Nat.le_succ _
    · obtain ⟨_, _, _, _, hpt⟩ := enterSmoke_enters (s := onSmu (fun u => { u with faultView := r.state, shortView := r.shorted }) s) same
      rw [hpt]
      exact push_grows _ _
  show Consumed _ _ _ (if r.state.holdsOff then _ else if s.smu.state = .fault ∧ r.shorted = false then _ else _)
  by_cases off : r.state.holdsOff = true
  · rw [if_pos off]
    exact enters _ fun q => q.released off
  · rw [if_neg off]
    by_cases leaves : s.smu.state = .fault ∧ r.shorted = false
    · rw [if_pos leaves]
      obtain ⟨fault, cleared⟩ := leaves
      refine enters _ fun ⟨_, stays⟩ => ?_
      rw [stays rfl fault] at cleared
      cases cleared
    · rw [if_neg leaves]
      exact .of_odu ⟨rfl, rfl, rfl⟩ rfl rfl (Nat.le_succ _) (fun _ => rfl) nofun nofun

theorem record_consumed (o : Output) (r : FaultRecord) : Consumed o r s (consumeRecord o r s) := by
  cases o with
  | truck x => exact truck_consumed s x r
  | heater => exact heater_consumed s r
  | fan => exact .of_odu ⟨rfl, rfl, rfl⟩ rfl rfl (Nat.le_succ _) (fun _ => rfl) nofun nofun
  | light n =>
    refine .of_odu ⟨rfl, rfl, rfl⟩ rfl rfl (Nat.le_succ _) (fun _ => rfl) nofun ?_
    rintro m ⟨⟩
    show (s.ltc.mapLight n fun x => { x with faultView := r.state }).lights[n] = _
    simp [Ltc.mapLight]

/-! ## Publication of a record, with the summary (R169) -/

/-- A publication of the record of `o` has gone from `s` to `u` (R169). -/
structure Published (o : Output) (s u : State) : Prop where
  blocks  : u.bmu = s.bmu ∧ u.pws = s.pws ∧ u.now = s.now
  faults  : u.rcu.views.faults = s.rcu.views.faults.set (outputIndex o) (s.odu.watch o).record
  summary : ∀ x, u.odu.summary.getLsbD (outputIndex x).val = ((u.odu.watch x).record.opened || (u.odu.watch x).record.shorted)
  watches : ∀ x, (u.odu.watch x).record = (s.odu.watch x).record ∧ (u.odu.watch x).retry = (s.odu.watch x).retry
              ∧ (u.odu.watch x).probation = (s.odu.watch x).probation
              ∧ ((s.odu.watch x).openTimer = .stopped → (u.odu.watch x).openTimer = .stopped)
  command : ∀ x, x ≠ .heater → x ≠ .fan → u.odu.watch x = s.odu.watch x
  grows   : u.hpt.notices.length ≤ s.hpt.notices.length + 1
  quiet   : Quiet o (s.odu.watch o).record s → u.hpt = s.hpt ∧ ∀ x, u.odu.watch x = s.odu.watch x
  truck   : ∀ x, o = .truck x → u.moc.truck x = (s.moc.truck x).takeFault (s.odu.watch o).record.state
              ∧ heldBy u.btg x = (s.odu.watch o).record.state.holdsOff
  light   : ∀ n, o = .light n → u.ltc.lights[n] = { s.ltc.lights[n] with faultView := (s.odu.watch o).record.state }

theorem publishFault_published (o : Output) : Published o s (publishFault o s) := by
  have taken := record_consumed (publish (fun v => { v with faults := v.faults.set (outputIndex o) (s.odu.watch o).record }) s) o (s.odu.watch o).record
  have shows : publishFault o s = publishSummary (consumeRecord o (s.odu.watch o).record
    (publish (fun v => { v with faults := v.faults.set (outputIndex o) (s.odu.watch o).record }) s)) := rfl
  rw [shows]
  generalize consumeRecord o (s.odu.watch o).record
    (publish (fun v => { v with faults := v.faults.set (outputIndex o) (s.odu.watch o).record }) s) = u at taken
  obtain ⟨⟨bmu, pws, now⟩, ⟨_, faults⟩, watches, command, grows, quiet, truck, light⟩ := taken
  have bits (x : Output) : u.odu.faultSet.getLsbD (outputIndex x).val = ((u.odu.watch x).record.opened || (u.odu.watch x).record.shorted) := by
    rw [faultSet_getLsbD, allOutputs_index]
  have calm (q : Quiet o (s.odu.watch o).record s) : u.hpt = s.hpt ∧ ∀ x, u.odu.watch x = s.odu.watch x := by
    obtain ⟨hpt, odu⟩ := quiet q
    exact ⟨hpt, fun x => congrArg (·.watch x) odu⟩
  rcases publishSummary_cases u with ⟨same, e⟩ | ⟨_, e⟩
  · rw [e]
    exact ⟨⟨bmu, pws, now⟩, faults, fun x => same ▸ bits x, watches, command, grows, calm, truck, light⟩
  · rw [e]
    exact ⟨⟨bmu, pws, now⟩, faults, bits, watches, command, grows, calm, truck, light⟩

/-- RCU shows the record published, and the other records as they were. -/
theorem Published.shown {o : Output} {s u : State} (h : Published o s u) (x : Output) :
    u.rcu.views.faults[outputIndex x] = if x = o then (s.odu.watch o).record else s.rcu.views.faults[outputIndex x] := by
  have place : (outputIndex o).val = (outputIndex x).val ↔ x = o := by
    rw [← Fin.ext_iff]
    exact ⟨fun e => outputIndex_injective e.symm, fun e => by rw [e]⟩
  rw [h.faults]
  simp only [Fin.getElem_fin, Vector.getElem_set, place]

/-- A publication leaves what ODU holds for the other outputs, but for the commands of the smoke unit. -/
theorem Published.othersKeep {o : Output} {s u t : State} (h : Published o u t) (others : ∀ x, x ≠ o → u.odu.watch x = s.odu.watch x) :
    Spec.othersKeep o s t := by
  intro x other
  obtain ⟨record, retry, probation, _⟩ := h.watches x
  rw [others x other] at record retry probation
  refine ⟨record, retry, probation, fun heater fan => ?_⟩
  rw [h.command x heater fan, others x other]

/-- RCU shows the record of the output published. -/
theorem Published.shows {o : Output} {s u : State} (h : Published o s u) : u.rcu.views.faults[outputIndex o] = (u.odu.watch o).record := by
  rw [h.shown, if_pos rfl, (h.watches o).1]

/-! ## A measurement of an output (R172 to R174) -/

/-- A watch that alone has moved is read back, and the others stand. -/
theorem mapWatch_watch (o : Output) (f : Watch → Watch) (s : State) :
    (mapWatch o f s).odu.watch o = f (s.odu.watch o) ∧ ∀ x, x ≠ o → (mapWatch o f s).odu.watch x = s.odu.watch x := by
  refine ⟨?_, fun x other => ?_⟩
  · rw [mapWatch_odu, watch_setWatch, if_pos rfl]
  · rw [mapWatch_odu, watch_setWatch, if_neg (Ne.symm other)]

/-- A measurement of `o` has gone from `s` to `t` (R173, R174). -/
structure Measured (o : Output) (current : Nat) (s t : State) : Prop where
  blocks  : t.bmu = s.bmu ∧ t.pws = s.pws ∧ t.now = s.now ∧ t.hpt = s.hpt
  watch   : t.odu.watch o = Spec.judged o current s.now (s.odu.watch o)
  others  : ∀ x, x ≠ o → t.odu.watch x = s.odu.watch x ∧ t.rcu.views.faults[outputIndex x] = s.rcu.views.faults[outputIndex x]
  summary : (t.odu.watch o).record = (s.odu.watch o).record ∧ t.odu.summary = s.odu.summary
              ∨ (t.odu.watch o).record.opened = false ∧ t.rcu.views.faults[outputIndex o] = (t.odu.watch o).record
                ∧ ∀ x, t.odu.summary.getLsbD (outputIndex x).val = ((t.odu.watch x).record.opened || (t.odu.watch x).record.shorted)

/-- ODU's watch of `o` alone has moved, its record standing. -/
theorem Measured.of_mapWatch {o : Output} {current : Nat} {f : Watch → Watch} {s : State} (record : (f (s.odu.watch o)).record = (s.odu.watch o).record)
    (judged : f (s.odu.watch o) = Spec.judged o current s.now (s.odu.watch o)) : Measured o current s (mapWatch o f s) := by
  obtain ⟨mine, others⟩ := mapWatch_watch o f s
  exact ⟨⟨rfl, rfl, rfl, rfl⟩, mine.trans judged, fun x other => ⟨others x other, rfl⟩, .inl ⟨by rw [mine, record], rfl⟩⟩

/-- OPEN is cleared, and the record published without a notice (R174). -/
theorem Measured.of_cleared {o : Output} {current : Nat} {s : State} (ok : (s.odu.watch o).record.state = .ok)
    (cold : o = .heater → s.smu.state ≠ .fault)
    (judged : { s.odu.watch o with record := { (s.odu.watch o).record with opened := false } } = Spec.judged o current s.now (s.odu.watch o)) :
    Measured o current s (publishFault o (mapWatch o (fun w => { w with record := { w.record with opened := false } }) s)) := by
  obtain ⟨mine, others⟩ := mapWatch_watch o (fun w => { w with record := { w.record with opened := false } }) s
  have published := publishFault_published (mapWatch o (fun w => { w with record := { w.record with opened := false } }) s) o
  generalize publishFault o (mapWatch o (fun w => { w with record := { w.record with opened := false } }) s) = t at published
  obtain ⟨hpt, kept⟩ := published.quiet ⟨by rw [mine]; exact ok, fun heater fault => absurd fault (cold heater)⟩
  obtain ⟨bmu, pws, now⟩ := published.blocks
  refine ⟨⟨bmu, pws, now, hpt⟩, ?_, fun x other => ⟨?_, ?_⟩, .inr ⟨?_, published.shows, published.summary⟩⟩
  · rw [kept, mine, judged]
  · rw [kept, others x other]
  · exact (published.shown x).trans (if_neg other)
  · rw [kept, mine]

/-- What a measurement makes of a watch, by the model's own levels (R172 to R174). -/
theorem judged_eq (o : Output) (current : Nat) (now : Time) (w : Watch) :
    Spec.judged o current now w =
      if w.record.state ≠ .ok then w
      else if w.record.opened = true then
        (if currentLow o current = false ∧ 0 < w.command then { w with record.opened := false } else w)
      else if currentLow o current = false then { w with openTimer := .stopped }
      else if openCommandLevel o ≤ w.command ∧ w.openTimer = .stopped then { w with openTimer := .running (now + Config.openTime) }
      else w := by
  cases o <;> rfl

theorem takeMeasurement_measured (o : Output) (current : Nat) (cold : o = .heater → 0 < (s.odu.watch o).command → s.smu.state ≠ .fault) :
    Measured o current s (takeMeasurement o current s) := by
  have judged := judged_eq o current s.now (s.odu.watch o)
  have stays (same : Spec.judged o current s.now (s.odu.watch o) = s.odu.watch o) : Measured o current s s :=
    ⟨⟨rfl, rfl, rfl, rfl⟩, same.symm, fun _ _ => ⟨rfl, rfl⟩, .inl ⟨rfl, rfl⟩⟩
  unfold takeMeasurement
  dsimp only
  by_cases bad : (s.odu.watch o).record.state ≠ .ok
  · rw [if_pos bad] at judged ⊢
    exact stays judged
  rw [if_neg bad] at judged ⊢
  by_cases opened : (s.odu.watch o).record.opened = true
  · rw [if_pos opened] at judged ⊢
    by_cases flows : currentLow o current = false ∧ 0 < (s.odu.watch o).command
    · rw [if_pos flows] at judged
      rw [flows.1, decide_eq_true flows.2]
      exact .of_cleared (not_not.mp bad) (fun heater => cold heater flows.2) judged.symm
    · rw [if_neg flows] at judged
      rw [if_neg (by simpa using flows)]
      exact stays judged
  · rw [if_neg opened] at judged ⊢
    cases low : currentLow o current with
    | false =>
      rw [if_pos low] at judged
      exact .of_mapWatch (f := fun w => { w with openTimer := .stopped }) rfl judged.symm
    | true =>
      rw [if_neg (by rw [low]; exact nofun)] at judged
      rw [if_pos rfl]
      by_cases starts : openCommandLevel o ≤ (s.odu.watch o).command ∧ (s.odu.watch o).openTimer = .stopped
      · rw [if_pos starts] at judged ⊢
        exact .of_mapWatch (f := fun w => { w with openTimer := s.timer Config.openTime }) rfl judged.symm
      · rw [if_neg starts] at judged ⊢
        exact stays judged

/-- What a MEASURE that completes leaves: ODU, RCU and PWS, and the queue where no MEASURE waits (R87). -/
theorem completeSlots_leaves (value : Channel → Option Int) (s : State) :
    (completeSlots value s).odu = s.odu ∧ (completeSlots value s).rcu = s.rcu ∧ (completeSlots value s).pws = s.pws
    ∧ (s.bmu.slots = [] → (completeSlots value s).hpt = s.hpt) := by
  have fold (l : List SpotSlot) (u : State) :
      (l.foldl (fun s x => pushCompletion .measure x.tag .done (BitVec.ofInt 16 ((value x.channel).getD 0)) s) u).odu = u.odu
      ∧ (l.foldl (fun s x => pushCompletion .measure x.tag .done (BitVec.ofInt 16 ((value x.channel).getD 0)) s) u).rcu = u.rcu
      ∧ (l.foldl (fun s x => pushCompletion .measure x.tag .done (BitVec.ofInt 16 ((value x.channel).getD 0)) s) u).pws = u.pws := by
    induction l generalizing u with
    | nil => exact ⟨rfl, rfl, rfl⟩
    | cons x l ih => exact ih _
  unfold completeSlots
  obtain ⟨odu, rcu, pws⟩ := fold (s.bmu.slots.filter (SpotSlot.completes value))
    (onBmu (fun m => { m with slots := (s.bmu.slots.filter fun x => !x.completes value).map (SpotSlot.passed value) }) s)
  refine ⟨odu, rcu, pws, fun none => ?_⟩
  rw [none]
  rfl

/-- The converter takes its next channel, and nothing else moves (R83). -/
theorem startConversion_bmu (s : State) : startConversion s = { s with bmu := (startConversion s).bmu } := by
  unfold startConversion
  split <;> rfl

/-- The consumer of an output's channel is ODU, in the channel's range (R172). -/
theorem consumeResult_measures {c : Channel} {o : Output} (output : Spec.outputOf c = some o) (value : Int) (s : State) :
    consumeResult c (c.clamp value) s = takeMeasurement o (Spec.measured c value).toNat s := by
  have clamp (low high : Int) (order : low ≤ high) : clampInt value low high = max low (min high value) := Record.clampInt_eq _ _ _ order
  cases c <;> cases output
  · exact congrArg (fun v : Int => takeMeasurement .heater v.toNat s) (clamp 0 2047 (by decide))
  · exact congrArg (fun v : Int => takeMeasurement .fan v.toNat s) (clamp 0 1023 (by decide))
  · exact congrArg (fun v : Int => takeMeasurement _ v.toNat s) (clamp 0 511 (by decide))

/-- The heater has no command in FAULT (R123, R126). -/
theorem heater_cold {s : State} (inv : SmokeInv s) (command : 0 < (s.odu.watch .heater).command) : s.smu.state ≠ .fault := by
  intro fault
  have off := inv.heater (by rw [fault]; rfl)
  rw [inv.commandH, off] at command
  exact absurd command (by decide)

/-- What a measurement of `o` publishes of it, where its record has changed. -/
theorem Measured.publishes {o : Output} {current : Nat} {s t : State} (h : Measured o current s t)
    (moves : (t.odu.watch o).record ≠ (s.odu.watch o).record) :
    t.rcu.views.faults[outputIndex o] = (t.odu.watch o).record
    ∧ t.odu.summary.getLsbD (outputIndex o).val = (t.odu.watch o).record.shorted := by
  rcases h.summary with ⟨same, _⟩ | ⟨opened, shown, bits⟩
  · exact absurd same moves
  · exact ⟨shown, by rw [bits, opened, Bool.false_or]⟩

/-- The trucks of a gap sample, measured one after the other (R80). -/
theorem Measured.both {front rear : Nat} {s u v : State} (hF : Measured (.truck .front) front s u) (hR : Measured (.truck .rear) rear u v) (x : Truck) :
    v.odu.watch (.truck x) = Spec.judged (.truck x) (match x with
        | .front => front
        | .rear => rear) s.now (s.odu.watch (.truck x))
    ∧ ((v.odu.watch (.truck x)).record ≠ (s.odu.watch (.truck x)).record →
        v.rcu.views.faults[outputIndex (.truck x)] = (v.odu.watch (.truck x)).record
        ∧ v.odu.summary.getLsbD (outputIndex (.truck x)).val = (v.odu.watch (.truck x)).record.shorted) := by
  cases x with
  | front =>
    obtain ⟨watch, faults⟩ := hR.others (.truck .front) nofun
    refine ⟨watch.trans hF.watch, fun moves => ?_⟩
    rw [watch] at moves ⊢
    obtain ⟨shown, bit⟩ := hF.publishes moves
    refine ⟨faults.trans shown, ?_⟩
    rcases hR.summary with ⟨_, same⟩ | ⟨_, _, bits⟩
    · rw [same, bit]
    · rcases hF.summary with ⟨stays, _⟩ | ⟨opened, _, _⟩
      · exact absurd stays moves
      · rw [bits, watch, opened, Bool.false_or]
  | rear =>
    obtain ⟨watch, _⟩ := hF.others (.truck .rear) nofun
    obtain ⟨_, _, now, _⟩ := hF.blocks
    rw [← watch, ← now]
    exact ⟨hR.watch, hR.publishes⟩

end Sys2Proof.Laws
end

section
/-! STATEMENTS. The timers of an output, and the measurements of its open test (R171 to R174). -/

namespace Sys2Proof.Record

open Sys2Proof.Machine Sys2Proof.Laws

/-- ODU's watch of an output that is retried, before its release and its publication (R171). -/
def retried (o : Output) (s : State) : State := mapWatch o (·.retried (s.timer Config.probationTime)) s

/-- The retry of an output (R65, R171). -/
theorem retry_ends {s : State} (o : Output) (released : s.inReset = false) {due : Time} (runs : (s.odu.watch o).retry = .running due) :
    ∃ t, exec (.retryTimerExpiry o) s = .next t ∧ t.now = max s.now due
      ∧ (t.odu.watch o).record
          = { (s.odu.watch o).record with state := .ok, retries := min 3 ((s.odu.watch o).record.retries + 1) }
      ∧ (t.odu.watch o).retry = .stopped ∧ (t.odu.watch o).probation = .running (max s.now due + 16000000)
      ∧ (∀ x : Truck, o = .truck x → t.bmu.bridge x = { s.bmu.bridge x with heldOff := false } ∧ (t.moc.truck x).faultView = .ok
          ∧ (t.moc.truck x).integral = (if (s.moc.truck x).faultView = .ok then (s.moc.truck x).integral else 0)
          ∧ heldBy t.btg x = false)
      ∧ (∀ n : Fin 12, o = .light n → t.ltc.lights[n] = { s.ltc.lights[n] with faultView := .ok })
      ∧ t.rcu.views.faults[outputIndex o] = (t.odu.watch o).record ∧ Spec.othersKeep o s t ∧ t.pws = s.pws
      ∧ ((s.odu.watch o).record.shorted = true → t.hpt = s.hpt) := by
  refine ⟨publishFault o (releaseOutput o (retried o (s.reach due))), whenReleased_expires released runs, ?_⟩
  obtain ⟨mine, others⟩ := mapWatch_watch o (·.retried ((s.reach due).timer Config.probationTime)) (s.reach due)
  have starts : mapWatch o (·.retried ((s.reach due).timer Config.probationTime)) (s.reach due) = retried o (s.reach due) := rfl
  rw [starts] at mine others
  have frame : releaseOutput o (retried o (s.reach due))
      = { retried o (s.reach due) with bmu := (releaseOutput o (retried o (s.reach due))).bmu } := by
    cases o <;> rfl
  have bridge (x : Truck) (truck : o = .truck x) :
      (releaseOutput o (retried o (s.reach due))).bmu.bridge x = { s.bmu.bridge x with heldOff := false } := by
    subst truck
    exact (bridge_setBridge _ _ _ _).trans (if_pos rfl)
  generalize releaseOutput o (retried o (s.reach due)) = u at frame bridge
  have published := publishFault_published u o
  generalize publishFault o u = t at published
  have odu : u.odu = (retried o (s.reach due)).odu := by rw [frame]
  rw [← odu] at mine others
  obtain ⟨bmu, pws, now⟩ := published.blocks
  obtain ⟨record, retry, probation, _⟩ := published.watches o
  rw [mine] at record retry probation
  have ok : (u.odu.watch o).record.state = .ok := by
    rw [mine]
    rfl
  refine ⟨?_, ?_, retry, probation, fun x truck => ?_, fun n light => ?_, published.shows, published.othersKeep others, ?_, fun shorted => ?_⟩
  · rw [now, frame]
    rfl
  · rw [record]
    simp [Watch.retried, countUp, Nat.min_comm]
  · obtain ⟨moc, held⟩ := published.truck x truck
    rw [ok] at moc held
    rw [bmu, moc, show u.moc = s.moc by rw [frame]; rfl]
    refine ⟨bridge x truck, rfl, ?_, held⟩
    unfold TruckControl.takeFault
    cases (s.moc.truck x).faultView <;> rfl
  · rw [published.light n light, ok, show u.ltc = s.ltc by rw [frame]; rfl]
  · rw [pws, frame]
    rfl
  · rw [(published.quiet ⟨ok, fun _ _ => by rw [mine]; exact shorted⟩).1, frame]
    rfl

/-- The end of a probation publishes the record again (R171). -/
theorem probation_ends {s : State} (o : Output) (released : s.inReset = false) {due : Time} (runs : (s.odu.watch o).probation = .running due) :
    ∃ t, exec (.probationTimerExpiry o) s = .next t ∧ t.now = max s.now due
      ∧ (t.odu.watch o).record = (s.odu.watch o).record ∧ (t.odu.watch o).probation = .stopped
      ∧ t.rcu.views.faults[outputIndex o] = (s.odu.watch o).record ∧ Spec.othersKeep o s t ∧ t.pws = s.pws := by
  refine ⟨_, whenReleased_expires released runs, ?_⟩
  obtain ⟨mine, others⟩ := mapWatch_watch o (fun w => { w with probation := .stopped }) (s.reach due)
  have published := publishFault_published (mapWatch o (fun w => { w with probation := .stopped }) (s.reach due)) o
  generalize publishFault o (mapWatch o (fun w => { w with probation := .stopped }) (s.reach due)) = t at published
  obtain ⟨_, pws, now⟩ := published.blocks
  obtain ⟨record, _, probation, _⟩ := published.watches o
  rw [mine] at record probation
  exact ⟨now, record, probation, published.shows.trans record, published.othersKeep others, pws⟩

/-- The end of the open timer sets OPEN, with its notice (R173). -/
theorem open_ends {s : State} (o : Output) (released : s.inReset = false) {due : Time} (runs : (s.odu.watch o).openTimer = .running due) :
    ∃ t, exec (.openTimerExpiry o) s = .next t ∧ t.now = max s.now due
      ∧ (t.odu.watch o).record = { (s.odu.watch o).record with opened := true } ∧ (t.odu.watch o).openTimer = .stopped
      ∧ t.rcu.views.faults[outputIndex o] = (t.odu.watch o).record ∧ t.odu.summary.getLsbD (outputIndex o).val = true
      ∧ (s.hpt.notices.length ≤ 13 → t.hpt.notices.getLast? = some (.fault o .opened))
      ∧ Spec.othersKeep o s t ∧ t.bmu = s.bmu ∧ t.pws = s.pws := by
  refine ⟨_, whenReleased_expires released runs, ?_⟩
  obtain ⟨mine, others⟩ := mapWatch_watch o (fun w => { w with record := { w.record with opened := true }, openTimer := .stopped }) (s.reach due)
  have published := publishFault_published
    (mapWatch o (fun w => { w with record := { w.record with opened := true }, openTimer := .stopped }) (s.reach due)) o
  generalize publishFault o
    (mapWatch o (fun w => { w with record := { w.record with opened := true }, openTimer := .stopped }) (s.reach due)) = t at published
  obtain ⟨bmu, pws, now⟩ := published.blocks
  obtain ⟨record, _, _, timer⟩ := published.watches o
  rw [mine] at record timer
  refine ⟨now, record, timer rfl, published.shows, ?_, fun room => ?_, published.othersKeep others, bmu, pws⟩
  · show t.odu.summary.getLsbD (outputIndex o).val = true
    rw [published.summary, record]
    rfl
  · have short : t.hpt.notices.length ≤ s.hpt.notices.length + 1 := published.grows
    show (t.hpt.push _).notices.getLast? = _
    unfold Hpt.push
    rw [if_pos (show t.hpt.notices.length < Config.noticeCapacity by unfold Config.noticeCapacity; omega)]
    exact List.getLast?_concat

/-- A general conversion of an output's current is its measurement (R172 to R174). -/
theorem conversion_measures {s : State} {o : Output} (released : s.inReset = false) {c : Channel} {due : Time}
    (converts : s.bmu.converting = some (c, due)) (output : Spec.outputOf c = some o) (inv : SmokeInv s) (value : Int) :
    ∃ t, exec (.conversionEnd value) s = .next t
      ∧ t.odu.watch o = Spec.judged o (Spec.measured c value).toNat (max s.now due) (s.odu.watch o)
      ∧ ((t.odu.watch o).record ≠ (s.odu.watch o).record →
          t.rcu.views.faults[outputIndex o] = (t.odu.watch o).record
          ∧ t.odu.summary.getLsbD (outputIndex o).val = (t.odu.watch o).record.shorted)
      ∧ (∀ x : Output, x ≠ o → t.odu.watch x = s.odu.watch x)
      ∧ (s.bmu.slots = [] → t.hpt = s.hpt) ∧ t.pws = s.pws := by
  have runs : exec (.conversionEnd value) s = .next (endConversion c value (s.reach due)) := by
    show execConversionEnd value s = _
    unfold execConversionEnd
    rw [whenReleased_runs released, converts]
  refine ⟨_, runs, ?_⟩
  have measured := takeMeasurement_measured (onBmu (fun m => { m with converting := none }) (s.reach due)) o (Spec.measured c value).toNat
    (by rintro rfl command; exact heater_cold (s := s) inv command)
  unfold endConversion
  dsimp only
  rw [consumeResult_measures output]
  generalize takeMeasurement o (Spec.measured c value).toNat (onBmu (fun m => { m with converting := none }) (s.reach due)) = u at measured
  obtain ⟨odu, rcu, pws, hpt⟩ := completeSlots_leaves (fun ch => if ch = c then some (c.clamp value) else none) u
  rw [startConversion_bmu]
  generalize completeSlots (fun ch => if ch = c then some (c.clamp value) else none) u = v at odu rcu pws hpt
  obtain ⟨bmu, uPws, _, uHpt⟩ := measured.blocks
  dsimp only
  rw [odu, rcu]
  refine ⟨measured.watch, measured.publishes, fun x other => (measured.others x other).1, fun none => ?_, pws.trans uPws⟩
  refine (hpt ?_).trans uHpt
  rw [bmu]
  exact none

/-- A gap sample as MOC and BTG take it, the gap closing (R80). -/
def gapPublished (s : State) : State :=
  onBtg (fun b => { b with samples := if b.watching then b.samples ++ [s.bmu.sample] else b.samples })
    (onMoc (fun m => { m with samples := m.samples ++ [s.bmu.sample] }) (onBmu (fun m => { m with
      gap := .resuming, gapConversion := .stopped, front := m.front.cleared, rear := m.rear.cleared }) s))

/-- A gap sample measures both trucks, the front first (R80, R172 to R174). -/
theorem gap_measures {s : State} (released : s.inReset = false) {due : Time} (converts : s.bmu.gapConversion = .running due) :
    ∃ t, exec .gapConversionEnd s = .next t
      ∧ (∀ x : Truck, t.odu.watch (.truck x)
            = Spec.judged (.truck x) (s.bmu.bridge x).meanCurrent (max s.now due) (s.odu.watch (.truck x))
          ∧ ((t.odu.watch (.truck x)).record ≠ (s.odu.watch (.truck x)).record →
              t.rcu.views.faults[outputIndex (.truck x)] = (t.odu.watch (.truck x)).record
              ∧ t.odu.summary.getLsbD (outputIndex (.truck x)).val = (t.odu.watch (.truck x)).record.shorted))
      ∧ (∀ y : Output, (∀ z : Truck, y ≠ .truck z) → t.odu.watch y = s.odu.watch y)
      ∧ (s.bmu.slots = [] → t.hpt = s.hpt) ∧ t.pws = s.pws := by
  refine ⟨_, whenReleased_expires released converts, ?_⟩
  have front := takeMeasurement_measured (gapPublished (s.reach due)) (.truck .front) s.bmu.sample.currentF nofun
  have rear := takeMeasurement_measured (takeMeasurement (.truck .front) s.bmu.sample.currentF (gapPublished (s.reach due))) (.truck .rear)
    s.bmu.sample.currentR nofun
  have publishes : publishSample (s.reach due) = completeSlots s.bmu.sample.value (takeMeasurement (.truck .rear) s.bmu.sample.currentR
    (takeMeasurement (.truck .front) s.bmu.sample.currentF (gapPublished (s.reach due)))) := rfl
  rw [publishes]
  generalize takeMeasurement (.truck .front) s.bmu.sample.currentF (gapPublished (s.reach due)) = u at front rear
  generalize takeMeasurement (.truck .rear) s.bmu.sample.currentR u = v at rear
  obtain ⟨odu, rcu, pws, hpt⟩ := completeSlots_leaves s.bmu.sample.value v
  obtain ⟨uBmu, uPws, _, uHpt⟩ := front.blocks
  obtain ⟨vBmu, vPws, _, vHpt⟩ := rear.blocks
  rw [odu, rcu]
  refine ⟨fun x => ?_, fun y other => ?_, fun none => ?_, pws.trans (vPws.trans uPws)⟩
  · obtain ⟨watch, shows⟩ := front.both rear x
    refine ⟨watch.trans ?_, shows⟩
    cases x <;> rfl
  · exact (rear.others y (other .rear)).1.trans (front.others y (other .front)).1
  · refine (hpt ?_).trans (vHpt.trans uHpt)
    rw [vBmu, uBmu]
    exact none

/-- Settles O47: each timer's publication, and each measurement, by what it leaves. -/
theorem retriesProbationsAndOpensEnd : Obligations.RetriesProbationsAndOpensEnd := by
  intro s o released
  refine ⟨fun due runs => ?_, fun due runs => probation_ends o released runs, fun due runs => open_ends o released runs,
    fun c due converts output inv value => conversion_measures released converts output inv value, fun x truck due converts => ?_⟩
  · obtain ⟨t, step, now, record, retry, probation, trucks, rest⟩ := retry_ends o released runs
    refine ⟨t, step, now, record, retry, probation, fun x truck => ?_, rest⟩
    obtain ⟨bridge, view, integral, held⟩ := trucks x truck
    refine ⟨bridge, view, integral, ?_⟩
    cases x <;> exact held
  · subst truck
    obtain ⟨t, step, trucks, others, rest⟩ := gap_measures released converts
    obtain ⟨watch, shows⟩ := trucks x
    refine ⟨t, step, ?_, shows, others, rest⟩
    rw [watch, Bridge.meanCurrent, Nat.min_comm]

end Sys2Proof.Record
end

section
/-! SUPPORT. The part of the state that the hold-offs, the gap and the switches of the bridges turn on, and every operation of the blocks that
leaves it (R72, R77, R78, R170). -/

namespace Sys2Proof.Laws

open Sys2Proof.Machine

/-- The output, the legs and the hold-off of a bridge. -/
def switchesOf (b : Bridge) : BridgeOutput × LegState × LegState × Bool := (b.output, b.legA, b.legB, b.heldOff)

/-- Whether the schedule runs, the gap, whether its two timers run, the switches of each bridge, and ODU's hold-offs. -/
structure BridgeCore where
  schedule : Bool × GapState × Bool × Bool
  switches : Truck → BridgeOutput × LegState × LegState × Bool
  held     : Truck → Bool

/-- The bridge core of a state. -/
def bridgeCore (s : State) : BridgeCore where
  schedule := (s.bmu.running, s.bmu.gap, s.bmu.settleTimer.isRunning, s.bmu.gapConversion.isRunning)
  switches x := switchesOf (s.bmu.bridge x)
  held x := s.heldOff (.truck x)

/-- BMU and the fault records are all that the core holds. -/
theorem bridges_of_blocks {s t : State} (bmu : t.bmu = s.bmu) (record : ∀ o, (t.odu.watch o).record = (s.odu.watch o).record) :
    bridgeCore t = bridgeCore s := by
  unfold bridgeCore State.heldOff
  simp only [bmu, record]

theorem SmokeStays.bridges {s t : State} (h : SmokeStays s t) : bridgeCore t = bridgeCore s := by
  obtain ⟨_, bmu, _⟩ := h.blocks
  exact bridges_of_blocks bmu fun o => (h.watches o).1

theorem MotionTurns.bridges {n : Nat} {s t : State} (h : MotionTurns n s t) (bmu : t.bmu = s.bmu) : bridgeCore t = bridgeCore s :=
  bridges_of_blocks bmu h.record

variable (s : State)

/-! ## Updates of components -/

@[simp] theorem bridges_onRcu (f : Rcu → Rcu) : bridgeCore (onRcu f s) = bridgeCore s := rfl
@[simp] theorem bridges_onRif (f : Rif → Rif) : bridgeCore (onRif f s) = bridgeCore s := rfl
@[simp] theorem bridges_onMoc (f : Moc → Moc) : bridgeCore (onMoc f s) = bridgeCore s := rfl
@[simp] theorem bridges_onBtg (f : Btg → Btg) : bridgeCore (onBtg f s) = bridgeCore s := rfl
@[simp] theorem bridges_onSmu (f : Smu → Smu) : bridgeCore (onSmu f s) = bridgeCore s := rfl
@[simp] theorem bridges_onLtc (f : Ltc → Ltc) : bridgeCore (onLtc f s) = bridgeCore s := rfl
@[simp] theorem bridges_onPws (f : Pws → Pws) : bridgeCore (onPws f s) = bridgeCore s := rfl
@[simp] theorem bridges_onCfs (f : Cfs → Cfs) : bridgeCore (onCfs f s) = bridgeCore s := rfl
@[simp] theorem bridges_onHpt (f : Hpt → Hpt) : bridgeCore (onHpt f s) = bridgeCore s := rfl
@[simp] theorem bridges_publish (f : Views → Views) : bridgeCore (publish f s) = bridgeCore s := rfl
@[simp] theorem bridges_reach (due : Time) : bridgeCore (s.reach due) = bridgeCore s := rfl
@[simp] theorem bridges_pushNotice (n : Notice) : bridgeCore (pushNotice n s) = bridgeCore s := rfl
@[simp] theorem bridges_pushCompletion (k : Kind) (tag : Byte) (c : Code) (v : Word16) :
    bridgeCore (pushCompletion k tag c v s) = bridgeCore s := rfl
@[simp] theorem bridges_countRadio (f : RadioCounts → RadioCounts) : bridgeCore (countRadio f s) = bridgeCore s := rfl
@[simp] theorem bridges_raiseTrigger (t : Trigger) : bridgeCore (raiseTrigger t s) = bridgeCore s := rfl

/-- A command that ODU takes leaves the records (R172). -/
@[simp] theorem bridges_takeCommand (o : Output) (n : Nat) : bridgeCore (takeCommand o n s) = bridgeCore s :=
  bridges_of_blocks rfl fun u => takeCommand_record s o u n

/-- A change of a watch that leaves the state of its record leaves the core. -/
theorem bridges_mapWatch {o : Output} {f : Watch → Watch} (kept : (f (s.odu.watch o)).record.state = (s.odu.watch o).record.state) :
    bridgeCore (mapWatch o f s) = bridgeCore s := by
  have held (u : Output) : (mapWatch o f s).heldOff u = s.heldOff u := by
    unfold State.heldOff
    rw [mapWatch_odu, watch_setWatch]
    split
    · rename_i same
      rw [kept, same]
    · rfl
  unfold bridgeCore
  simp only [held, mapWatch_bmu]

/-! ## The conversion list and the lights (chapters 4 and 8) -/

@[simp] theorem bridges_startConversion : bridgeCore (startConversion s) = bridgeCore s := by
  rcases startConversion_cases s with e | ⟨_, _, _, _, e⟩ <;> rw [e]
  rfl

@[simp] theorem bridges_appendChannel (ch : Channel) : bridgeCore (appendChannel ch s) = bridgeCore s := by
  rcases appendChannel_cases s ch with ⟨_, e⟩ | ⟨_, e⟩ <;> rw [e]
  rw [bridges_startConversion]
  rfl

@[simp] theorem bridges_appendLight : bridgeCore (appendLight s) = bridgeCore s := by
  rw [appendLight, bridges_appendChannel]
  rfl

@[simp] theorem bridges_completeSlots (v : Channel → Option Int) : bridgeCore (completeSlots v s) = bridgeCore s :=
  foldl_keeps (P := fun t => bridgeCore t = bridgeCore s) (fun t _ h => (bridges_pushCompletion t _ _ _ _).trans h) _ (onBmu _ s) rfl

@[simp] theorem bridges_enterRow (r : SceneRow) : bridgeCore (enterRow r s) = bridgeCore s := by
  simp only [enterRow, apply_ite bridgeCore, bridges_pushNotice, bridges_onLtc, ite_self]

@[simp] theorem bridges_evaluateScene : bridgeCore (evaluateScene s) = bridgeCore s := by
  simp only [evaluateScene, apply_ite bridgeCore, bridges_enterRow, bridges_onLtc, ite_self]

@[simp] theorem bridges_advanceScene : bridgeCore (advanceScene s) = bridgeCore s := by
  have ends (u : State) : bridgeCore (endRow u) = bridgeCore u := by rw [endRow, bridges_enterRow, bridges_pushNotice]
  have next (u : State) : bridgeCore (nextStep u) = bridgeCore u := by
    simp only [nextStep, apply_ite bridgeCore, ends, bridges_onLtc, ite_self]
  simp only [advanceScene, apply_ite bridgeCore, next, bridges_onLtc, ite_self]

@[simp] theorem bridges_lightsTakeKeys (k : KeySet) : bridgeCore (lightsTakeKeys k s) = bridgeCore s := by
  rw [lightsTakeKeys, bridges_evaluateScene, bridges_onLtc]

@[simp] theorem bridges_lightFrame : bridgeCore (lightFrame s) = bridgeCore s := by
  have hands (u : State) : bridgeCore (handLevels u) = bridgeCore u :=
    foldl_keeps (P := fun t => bridgeCore t = bridgeCore u) (fun t _ h => (bridges_takeCommand t _ _).trans h) allLights u rfl
  simp only [lightFrame, bridges_advanceScene, bridges_onLtc, hands]

/-! ## The smoke unit (chapter 7) -/

@[simp] theorem bridges_setHeater (n : Nat) : bridgeCore (setHeater n s) = bridgeCore s := (smokeStays_setHeater n s).bridges

@[simp] theorem bridges_setFan (n : Nat) : bridgeCore (setFan n s) = bridgeCore s := (smokeStays_setFan n s).bridges

@[simp] theorem bridges_fanBetween : bridgeCore (fanBetween s) = bridgeCore s := bridges_setFan s _

@[simp] theorem bridges_disarmDry : bridgeCore (disarmDry s) = bridgeCore s := rfl

@[simp] theorem bridges_setFluid (n : Nat) : bridgeCore (setFluid n s) = bridgeCore s := rfl

@[simp] theorem bridges_enterSmoke (st : SmokeState) : bridgeCore (enterSmoke st s) = bridgeCore s := (enterSmoke_stays st s).bridges

@[simp] theorem bridges_smokeTakeShed (n : Nat) : bridgeCore (smokeTakeShed n s) = bridgeCore s := (smokeTakeShed_stays s n).bridges

@[simp] theorem bridges_smokeTakeLevel (n : Nat) : bridgeCore (smokeTakeLevel n s) = bridgeCore s := by
  unfold smokeTakeLevel
  dsimp only
  split <;> simp only [apply_ite bridgeCore, bridges_enterSmoke, bridges_disarmDry, bridges_onSmu, ite_self]

@[simp] theorem bridges_smokeTakeFault (r : FaultRecord) : bridgeCore (smokeTakeFault r s) = bridgeCore s := by
  simp only [smokeTakeFault, apply_ite bridgeCore, bridges_enterSmoke, bridges_onSmu, ite_self]

@[simp] theorem bridges_smokeTakeMotion (m : MotionState) : bridgeCore (smokeTakeMotion m s) = bridgeCore s :=
  (smokeTakeMotion_turns s m).bridges (smokeTakeMotion_frame s m).2.1

@[simp] theorem bridges_smokeTakeBeat : bridgeCore (smokeTakeBeat s) = bridgeCore s := by
  simp only [smokeTakeBeat, apply_ite bridgeCore, bridges_onSmu, bridges_setFan, ite_self]

@[simp] theorem bridges_regulationStep (n : Nat) : bridgeCore (regulationStep n s) = bridgeCore s := by
  have heat (u : State) : bridgeCore (regulateHeat u) = bridgeCore u := by
    simp only [regulateHeat, bridges_setHeater, apply_ite bridgeCore, bridges_enterSmoke, ite_self]
  have dry (u : State) : bridgeCore (regulateDry u) = bridgeCore u := by
    simp only [regulateDry, apply_ite bridgeCore, bridges_enterSmoke, heat, bridges_onSmu, ite_self]
  have debit (u : State) : bridgeCore (debitFluid u) = bridgeCore u := by
    simp only [debitFluid, apply_ite bridgeCore, bridges_setFluid, ite_self]
  simp only [regulationStep, apply_ite bridgeCore, bridges_enterSmoke, dry, debit, bridges_onSmu, ite_self]

/-! ## Beats and the motion controller (chapters 3 and 5) -/

@[simp] theorem bridges_emitBeat : bridgeCore (emitBeat s) = bridgeCore s :=
  (bridges_onLtc _ _).trans (bridges_smokeTakeBeat _)

@[simp] theorem bridges_beatSample (g : GapSample) : bridgeCore (beatSample g s) = bridgeCore s := by
  simp only [beatSample, apply_ite bridgeCore, bridges_emitBeat, bridges_onBtg, ite_self]

@[simp] theorem bridges_beatSourceChanged (b : BeatSource) : bridgeCore (beatSourceChanged b s) = bridgeCore s := by
  simp only [beatSourceChanged, apply_ite bridgeCore, bridges_onBtg, ite_self]

@[simp] theorem bridges_evaluateMotion : bridgeCore (evaluateMotion s) = bridgeCore s := by
  rw [evaluateMotion_eq]
  exact (motionBecomes_turns s _).bridges (motionBecomes_takes s _).2.1

@[simp] theorem bridges_flipDirection : bridgeCore (flipDirection s) = bridgeCore s := by
  have polarity (d : Direction) (u : State) : bridgeCore (handPolarity d u) = bridgeCore u := rfl
  simp only [flipDirection, zeroIntegrators, lightsTakeMotion, bridges_raiseTrigger, bridges_onLtc, polarity, bridges_publish, bridges_onMoc]

@[simp] theorem bridges_completeReversal : bridgeCore (completeReversal s) = bridgeCore s := by
  simp only [completeReversal, apply_ite bridgeCore, bridges_flipDirection, ite_self]

@[simp] theorem bridges_endSlip : bridgeCore (endSlip s) = bridgeCore s := (endSlip_turns s).bridges (endSlip_bmu s)

@[simp] theorem bridges_motionTakeFault (t : Truck) (st : FaultState) : bridgeCore (motionTakeFault t st s) = bridgeCore s := by
  simp only [motionTakeFault, apply_ite bridgeCore, bridges_endSlip, bridges_onMoc, ite_self]

@[simp] theorem bridges_motionTakeDirection (d : Direction) : bridgeCore (motionTakeDirection d s) = bridgeCore s := by
  simp only [motionTakeDirection, apply_ite bridgeCore, bridges_evaluateMotion, bridges_flipDirection, bridges_onMoc, ite_self]

@[simp] theorem bridges_stageMomentum : bridgeCore (stageMomentum s) = bridgeCore s := by
  simp only [stageMomentum, apply_ite bridgeCore, bridges_completeReversal, bridges_raiseTrigger, bridges_onMoc, ite_self]

@[simp] theorem bridges_stageSlip : bridgeCore (stageSlip s) = bridgeCore s := by
  have starts : bridgeCore (startSlip s) = bridgeCore s := rfl
  unfold stageSlip
  split
  · split <;> simp only [apply_ite bridgeCore, bridges_endSlip, starts, bridges_onMoc, ite_self]
  · exact bridges_endSlip s

@[simp] theorem bridges_stagePublication : bridgeCore (stagePublication s) = bridgeCore s := bridges_smokeTakeMotion _ _

/-! ## The diagnosis (chapter 10) -/

@[simp] theorem bridges_consumeRecord (o : Output) (r : FaultRecord) : bridgeCore (consumeRecord o r s) = bridgeCore s := by
  cases o with
  | truck t => exact bridges_motionTakeFault s t r.state
  | heater => exact bridges_smokeTakeFault s r
  | fan => rfl
  | light n => rfl

@[simp] theorem bridges_publishRecord (o : Output) : bridgeCore (publishRecord o s) = bridgeCore s := bridges_consumeRecord _ o _

@[simp] theorem bridges_publishSummary : bridgeCore (publishSummary s) = bridgeCore s := by
  rcases publishSummary_cases s with ⟨_, e⟩ | ⟨_, e⟩ <;> rw [e]
  rfl

@[simp] theorem bridges_publishFault (o : Output) : bridgeCore (publishFault o s) = bridgeCore s := by
  rw [publishFault, bridges_publishSummary, bridges_publishRecord]

@[simp] theorem bridges_takeMeasurement (o : Output) (current : Nat) : bridgeCore (takeMeasurement o current s) = bridgeCore s := by
  have watches {f : Watch → Watch} (kept : (f (s.odu.watch o)).record.state = (s.odu.watch o).record.state) :
      bridgeCore (mapWatch o f s) = bridgeCore s := bridges_mapWatch s kept
  unfold takeMeasurement
  dsimp only
  split
  · rfl
  · split
    · split
      · exact (bridges_publishFault _ o).trans (watches rfl)
      · rfl
    · split
      · split
        · exact watches rfl
        · rfl
      · exact watches rfl

/-! ## The power, the record and the ports -/

@[simp] theorem bridges_setSagTimer : bridgeCore (setSagTimer s) = bridgeCore s := rfl

@[simp] theorem bridges_setHolder (frame : Option Byte) (h : Holder) : bridgeCore (setHolder frame h s) = bridgeCore s := by
  unfold setHolder
  split <;> rfl

@[simp] theorem bridges_setFailsafe (b : Bool) : bridgeCore (setFailsafe b s) = bridgeCore s := rfl

@[simp] theorem bridges_startLease : bridgeCore (startLease s) = bridgeCore s := rfl

@[simp] theorem bridges_frameArrives (id : Byte) : bridgeCore (frameArrives id s) = bridgeCore s := by
  unfold frameArrives
  split <;> rfl

@[simp] theorem bridges_hearThrottle (id : Byte) : bridgeCore (hearThrottle id s) = bridgeCore s := by
  rcases hearThrottle_cases s id with ⟨_, e⟩ | ⟨_, e⟩ <;> rw [e]
  rw [bridges_frameArrives]
  rfl

@[simp] theorem bridges_hostAnswer (k : Byte) (posted : Bool) (tag : Byte) (r : Answer × State) :
    bridgeCore (hostAnswer k posted tag r) = bridgeCore r.2 := by
  simp only [hostAnswer, bridges_onHpt, apply_ite bridgeCore, bridges_pushNotice, ite_self]

@[simp] theorem bridges_framingError : bridgeCore (framingError s) = bridgeCore s := rfl

@[simp] theorem bridges_takeFirstByte (b : Byte) : bridgeCore (takeFirstByte b s) = bridgeCore s := by
  rcases takeFirstByte_cases s b with ⟨_, e⟩ | ⟨_, ⟨_, e⟩ | ⟨_, e⟩ | ⟨_, e⟩ | ⟨_, _, _, e⟩⟩ <;> rw [e] <;> rfl

@[simp] theorem bridges_undefinedRecord (r : UndefinedRecord) : bridgeCore (undefinedRecord r s) = bridgeCore s := by
  simp only [undefinedRecord, apply_ite bridgeCore, bridges_framingError, bridges_hostAnswer, ite_self]

@[simp] theorem bridges_takeByte (b : Byte) : bridgeCore (takeByte b s) = bridgeCore s := by
  unfold takeByte
  split
  · split <;> rfl
  · simp only [collectByte, apply_ite bridgeCore, bridges_onRif, ite_self]
  · rfl

@[simp] theorem bridges_gapOnLink : bridgeCore (gapOnLink s) = bridgeCore s := by
  simp only [gapOnLink, apply_ite bridgeCore, bridges_countRadio, bridges_onRif, ite_self]

@[simp] theorem bridges_answerFrame (run : FrameRun) : bridgeCore (answerFrame run s) = bridgeCore s := by
  have offers (r : Reply) (u : State) : bridgeCore (offerReply r u) = bridgeCore u := by
    unfold offerReply
    split <;> rfl
  simp only [answerFrame, apply_ite bridgeCore, offers, ite_self]

@[simp] theorem bridges_endCommit (good : Bool) : bridgeCore (endCommit good s) = bridgeCore s := by
  unfold endCommit
  cases s.cfs.origin <;> rfl

end Sys2Proof.Laws
end

section
/-! SUPPORT. The bridges from one state to another: a mode handed, a hold-off and its release, the period start and the ends of a drive, a dead
interval and a gap, each of which keeps a bridge off where it must be (R72, R76 to R80, R170). -/

namespace Sys2Proof.Laws

open Sys2Proof.Machine

/-! ## The invariant, one truck at a time -/

/-- BridgeInv in other words: a bridge that no mode acts on is off, the timers of the gap run in their states, and BMU and ODU agree on
the hold-offs. -/
theorem bridgeInv_iff (s : State) :
    BridgeInv s ↔ (∀ x, actsOn s.bmu x = false → (s.bmu.bridge x).isOff)
      ∧ (s.bmu.settleTimer.isRunning = true ↔ s.bmu.gap = .settling) ∧ (s.bmu.gapConversion.isRunning = true ↔ s.bmu.gap = .converting)
      ∧ ∀ x, (s.bmu.bridge x).heldOff = s.heldOff (.truck x) := by
  constructor
  · intro inv
    refine ⟨fun x => off_where_waits s inv, inv.settling, inv.converting, fun x => ?_⟩
    cases x
    · exact inv.oduF
    · exact inv.oduR
  · rintro ⟨off, settling, converting, odu⟩
    have stopped (stops : s.bmu.running = false) (x : Truck) : (s.bmu.bridge x).isOff := off x (by simp [actsOn, stops])
    have gap (opens : s.bmu.gap.keepsOff = true) (x : Truck) : (s.bmu.bridge x).isOff := off x (by simp [actsOn, opens])
    have held (x : Truck) (holds : (s.bmu.bridge x).heldOff = true) : (s.bmu.bridge x).isOff := off x (by simp [actsOn, holds])
    exact ⟨fun h => ⟨stopped h .front, stopped h .rear⟩, fun h => ⟨gap h .front, gap h .rear⟩, held .front, held .rear, settling, converting,
      odu .front, odu .rear⟩

/-- A bridge of the same switches has the same hold-off, and is off as the other is. -/
theorem alike_of_switches {b c : Bridge} (same : switchesOf c = switchesOf b) : c.heldOff = b.heldOff ∧ (b.isOff → c.isOff) := by
  simp only [switchesOf, Prod.mk.injEq] at same
  obtain ⟨output, legA, legB, heldOff⟩ := same
  refine ⟨heldOff, fun off => ?_⟩
  unfold Bridge.isOff
  rw [output, legA, legB]
  exact off

/-- From `s` to `t` the bridges are kept off where they must be. -/
def Guards (s t : State) : Prop := BridgeInv s → BridgeInv t

theorem Guards.of_core {s t : State} (h : bridgeCore t = bridgeCore s) : Guards s t := by
  simp only [bridgeCore, BridgeCore.mk.injEq, Prod.mk.injEq, funext_iff] at h
  obtain ⟨⟨running, gap, settles, converts⟩, switches, held⟩ := h
  intro inv
  rw [bridgeInv_iff] at *
  obtain ⟨off, settling, converting, odu⟩ := inv
  rw [gap, settles, converts]
  refine ⟨fun x waits => ?_, settling, converting, fun x => ?_⟩
  · obtain ⟨heldOff, isOff⟩ := alike_of_switches (switches x)
    refine isOff (off x ?_)
    unfold actsOn at waits ⊢
    rwa [running, heldOff, gap] at waits
  · rw [(alike_of_switches (switches x)).1, held, odu]

theorem Guards.refl (s : State) : Guards s s := id

theorem Guards.trans {s t u : State} (h : Guards s t) (k : Guards t u) : Guards s u := k ∘ h

/-- Every branch of a choice guards the bridges. -/
theorem Guards.ite {c : Prop} [Decidable c] {s a b : State} (ha : Guards s a) (hb : Guards s b) : Guards s (if c then a else b) := by
  split
  · exact ha
  · exact hb

/-- What runs after a move that leaves the core. -/
theorem Guards.after {s u t : State} (h : bridgeCore u = bridgeCore s) (k : Guards u t) : Guards s t := (Guards.of_core h).trans k

/-- What leaves the core as it stands. -/
theorem Guards.then {s t u : State} (k : Guards s t) (h : bridgeCore u = bridgeCore t) : Guards s u := k.trans (.of_core h)

/-- A run over a list guards the bridges as each of its steps does. -/
theorem Guards.foldl {α : Type} {f : State → α → State} (h : ∀ u a, Guards u (f u a)) (l : List α) (s : State) : Guards s (l.foldl f s) :=
  foldl_keeps (P := Guards s) (fun u a k => k.trans (h u a)) l s (.refl s)

/-- A move of one truck's bridge and hold-off: BMU and ODU agree on it, and the bridge is off where no mode acts on it. -/
theorem Guards.truck {x : Truck} {s u : State} {b : Bridge} (bmu : u.bmu = s.bmu.setBridge x b)
    (others : ∀ y, y ≠ x → u.heldOff (.truck y) = s.heldOff (.truck y)) (agree : BridgeInv s → b.heldOff = u.heldOff (.truck x))
    (off : BridgeInv s → actsOn u.bmu x = false → b.isOff) : Guards s u := by
  intro inv
  have mine : u.bmu.bridge x = b := by rw [bmu, bridge_setBridge, if_pos rfl]
  have other (y : Truck) (differs : y ≠ x) : u.bmu.bridge y = s.bmu.bridge y := by rw [bmu, bridge_setBridge, if_neg differs.symm]
  have schedule : u.bmu.running = s.bmu.running ∧ u.bmu.gap = s.bmu.gap ∧ u.bmu.settleTimer = s.bmu.settleTimer
      ∧ u.bmu.gapConversion = s.bmu.gapConversion := by
    rw [bmu]
    cases x <;> exact ⟨rfl, rfl, rfl, rfl⟩
  obtain ⟨running, gap, settles, converts⟩ := schedule
  have agrees := agree inv
  have isOff := off inv
  rw [bridgeInv_iff] at *
  obtain ⟨offs, settling, converting, odu⟩ := inv
  rw [gap, settles, converts]
  refine ⟨fun y waits => ?_, settling, converting, fun y => ?_⟩
  · by_cases same : y = x
    · subst same
      rw [mine]
      exact isOff waits
    · rw [other y same]
      refine offs y ?_
      unfold actsOn at waits ⊢
      rwa [running, other y same, gap] at waits
  · by_cases same : y = x
    · subst same
      rw [mine, agrees]
    · rw [other y same, others y same, odu]

/-- A move of one bridge that leaves its hold-off, and a bridge off that no mode acts on. -/
theorem Guards.bridge {x : Truck} {s u : State} (one : OneBridge x s u) (held : (u.bmu.bridge x).heldOff = (s.bmu.bridge x).heldOff)
    (off : BridgeInv s → actsOn s.bmu x = false → (u.bmu.bridge x).isOff) : Guards s u := by
  have odu (o : Output) : u.heldOff o = s.heldOff o := by rw [one]; rfl
  refine .truck (x := x) (b := u.bmu.bridge x) (congrArg State.bmu one) (fun y _ => odu _) (fun inv => ?_) fun inv waits => off inv ?_
  · rw [odu, held]
    exact ((bridgeInv_iff s).mp inv).2.2.2 x
  · unfold actsOn at waits ⊢
    rw [held] at waits
    rw [one] at waits
    simpa using waits

variable (s : State)

/-! ## Modes and duties (R74, R76) -/

/-- A drive cut short leaves the output, the legs and the hold-off of its bridge (R80). -/
theorem cutDrive_switches (t : Truck) : switchesOf ((cutDrive t s).bmu.bridge t) = switchesOf (s.bmu.bridge t) := by
  rcases cutDrive_cases s t with ⟨_, e⟩ | ⟨_, _, _, e⟩ | ⟨_, _, _, e⟩ <;> rw [e] <;> cases t <;> rfl

/-- A mode handed to a bridge leaves its hold-off (R76, R77). -/
theorem handMode_heldOff (t : Truck) (mode : BridgeMode) : ((handMode t mode s).bmu.bridge t).heldOff = (s.bmu.bridge t).heldOff := by
  have shadow : ((setBridge t { s.bmu.bridge t with modeShadow := mode } s).bmu.bridge t).heldOff = (s.bmu.bridge t).heldOff := by simp
  rw [handMode_eq]
  dsimp only
  split
  · cases mode with
    | drive => exact shadow
    | coast => exact (switchOff_bridge _ t).2.2.1.trans shadow
    | shortBrake =>
      dsimp only
      split
      · exact shadow
      · rw [setBridge_bmu, bridge_setBridge, if_pos rfl]
        exact (congrArg (·.2.2.2) (cutDrive_switches _ t)).trans shadow
  · exact shadow

/-- A mode handed to a bridge waits in its shadow where a stop, a gap or a hold-off keeps the bridge off (R76). -/
theorem handMode_guards (t : Truck) (mode : BridgeMode) : Guards s (handMode t mode s) := by
  refine .bridge (handMode_oneBridge s t mode) (handMode_heldOff s t mode) fun inv waits => ?_
  rw [handMode_waits s waits]
  exact off_where_waits s inv waits

/-- A mode handed to both bridges. -/
theorem bothModes_guards (mode : BridgeMode) : Guards s (handMode .rear mode (handMode .front mode s)) :=
  (handMode_guards s .front mode).trans (handMode_guards _ .rear mode)

/-- A bridge replaced by one of the same switches leaves the core. -/
theorem bridges_setBridge {t : Truck} {b : Bridge} (same : switchesOf b = switchesOf (s.bmu.bridge t)) :
    bridgeCore (setBridge t b s) = bridgeCore s := by
  have switches (x : Truck) : switchesOf ((setBridge t b s).bmu.bridge x) = switchesOf (s.bmu.bridge x) := by
    rw [setBridge_bmu, bridge_setBridge]
    split
    · rename_i here
      rw [same, here]
    · rfl
  unfold bridgeCore
  simp only [switches]
  cases t <;> rfl

theorem handDrive_guards (t : Truck) (duty : Nat) : Guards s (handDrive t duty s) :=
  .after (u := handDuty t duty s) (bridges_setBridge s rfl) ((handMode_guards _ t _).then (bridges_takeCommand _ _ _))

theorem handIdle_guards : Guards s (handIdle s) := (handDrive_guards s .front 0).trans (handDrive_guards _ .rear 0)

/-! ## Hold-offs (R77, R170, R171, R175) -/

/-- A watch of `o` changed leaves the hold-offs of the other outputs. -/
theorem mapWatch_heldOff (o : Output) (f : Watch → Watch) :
    (mapWatch o f s).heldOff o = (f (s.odu.watch o)).record.state.holdsOff ∧ ∀ u, u ≠ o → (mapWatch o f s).heldOff u = s.heldOff u := by
  obtain ⟨mine, others⟩ := mapWatch_watch o f s
  exact ⟨by unfold State.heldOff; rw [mine], fun u other => by unfold State.heldOff; rw [others u other]⟩

/-- The watch of an output that is no truck leaves the core. -/
theorem bridges_mapWatch_other {o : Output} (noTruck : ∀ x, o ≠ .truck x) (f : Watch → Watch) : bridgeCore (mapWatch o f s) = bridgeCore s := by
  have held (x : Truck) : (mapWatch o f s).heldOff (.truck x) = s.heldOff (.truck x) := (mapWatch_heldOff s o f).2 _ (noTruck x).symm
  unfold bridgeCore
  simp only [held, mapWatch_bmu]

/-- An output is switched off, and ODU holds it off (R77, R170). -/
theorem trip_guards (o : Output) {f : Watch → Watch} (holds : ∀ w, (f w).record.state.holdsOff = true) :
    Guards s (mapWatch o f (switchOutputOff o s)) := by
  cases o with
  | truck t =>
    obtain ⟨held, others⟩ := mapWatch_heldOff (holdBridge t s) (.truck t) f
    refine .truck (x := t) (b := { (switchOff t s).bmu.bridge t with heldOff := true }) ?_ (fun y other => ?_) (fun _ => ?_) fun _ _ => ?_
    · show (holdBridge t s).bmu = _
      unfold holdBridge
      rw [setBridge_bmu, switchOff_oneBridge s t]
      cases t <;> rfl
    · refine (others (.truck y) (fun same => other (Output.truck.inj same))).trans ?_
      show (switchOff t s).heldOff (.truck y) = _
      rw [switchOff_oneBridge s t]
      rfl
    · exact (held.trans (holds _)).symm
    · exact (switchOff_bridge s t).1
  | heater | fan | light n => exact .of_core ((bridges_mapWatch_other (o := _) _ (fun _ => Output.noConfusion) f).trans rfl)

/-- A truck's bridge released with ODU's hold-off stays off where a stop or a gap keeps it off (R77, R171). -/
theorem released_guards {t : Truck} {u : State} (bmu : u.bmu = s.bmu.setBridge t { s.bmu.bridge t with heldOff := false })
    (others : ∀ y, y ≠ t → u.heldOff (.truck y) = s.heldOff (.truck y)) (ok : u.heldOff (.truck t) = false) : Guards s u := by
  refine .truck bmu others (fun _ => ok.symm) fun inv waits => ?_
  refine off_where_waits s inv ?_
  rw [bmu] at waits
  cases t <;> simp_all [actsOn]

/-- An output is released, and ODU holds it off no more (R171). -/
theorem retry_guards (o : Output) {f : Watch → Watch} (ok : ∀ w, (f w).record.state = .ok) : Guards s (releaseOutput o (mapWatch o f s)) := by
  cases o with
  | truck t =>
    obtain ⟨held, others⟩ := mapWatch_heldOff s (.truck t) f
    refine released_guards s (t := t) rfl (fun y other => others (.truck y) fun same => other (Output.truck.inj same)) (held.trans ?_)
    rw [ok]
    rfl
  | heater | fan | light n => exact .of_core (bridges_mapWatch_other s (fun _ => Output.noConfusion) f)

/-- One output is cleared: a truck that ODU does not hold off has nothing to be released from (R175). -/
theorem clearOutput_guards (o : Output) : Guards s (clearOutput o s) := by
  have cleans : Guards s (mapWatch o (fun w => { w with record := {}, retry := .stopped, probation := .stopped, openTimer := .stopped })
      (if s.heldOff o then releaseOutput o s else s)) := by
    by_cases held : s.heldOff o = true
    · rw [if_pos held]
      have swaps (f : Watch → Watch) : mapWatch o f (releaseOutput o s) = releaseOutput o (mapWatch o f s) := by cases o <;> rfl
      rw [swaps]
      exact retry_guards s o fun _ => rfl
    · rw [if_neg held]
      refine .of_core (bridges_mapWatch s ?_)
      unfold State.heldOff at held
      cases state : (s.odu.watch o).record.state with
      | ok => rfl
      | shortWait => exact absurd (by rw [state]; rfl) held
      | latched => exact absurd (by rw [state]; rfl) held
  exact cleans.then (bridges_publishRecord _ o)

theorem serveClearFaults_guards (mask : OutputSet) : Guards s (serveClearFaults mask s).2 :=
  (Guards.foldl (fun u o => clearOutput_guards u o) (outputsOf mask) s).then (bridges_publishSummary _)

theorem takeTrip_guards (o : Output) : Guards s (takeTrip o s) := by
  refine ((trip_guards s o fun w => ?_).then (bridges_publishFault _ o)).then (bridges_pushNotice _ _)
  unfold Watch.tripped
  dsimp only
  split <;> rfl

/-! ## The period start, the compare match and the end of a dead interval (R73 to R76, R78) -/

/-- What a bridge does from a period start on leaves its hold-off, and is OFF under it and in a gap (R75, R77, R78). -/
theorem chooseOutput_guarded (b : Bridge) (g : GapState) (d : Direction) (resumes : Bool) (now : Time) :
    (b.chooseOutput g d resumes now).heldOff = b.heldOff
    ∧ (b.heldOff = true ∨ g.keepsOff = true → (b.chooseOutput g d resumes now).isOff) := by
  unfold Bridge.chooseOutput
  by_cases waits : b.heldOff = true ∨ g.keepsOff = true
  · rw [if_pos (by simpa using waits)]
    exact ⟨rfl, fun _ => ⟨rfl, rfl, rfl⟩⟩
  · rw [if_neg (by simpa using waits)]
    refine ⟨?_, fun h => absurd h waits⟩
    split
    · rfl
    · split <;> rfl
    · unfold Bridge.drive
      dsimp only
      split <;> rfl

/-- A period start of a schedule that runs (R73, R75, R78). -/
theorem periodStart_guards (runs : s.bmu.running = true) : Guards s (periodStart s) := by
  have cut (t : Truck) (u : State) : Guards u (cutDrive t u) := by
    refine .of_core ?_
    rw [cutDrive_oneBridge u t]
    exact bridges_setBridge u (cutDrive_switches u t)
  have running : (cutDrive .rear (cutDrive .front s)).bmu.running = true := by
    rw [cutDrive_oneBridge _ .rear, cutDrive_oneBridge s .front]
    exact runs
  refine ((cut .front s).trans (cut .rear _)).trans ?_
  generalize hu : cutDrive .rear (cutDrive .front s) = u at running
  have starts : periodStart s = { u with bmu := (periodStart s).bmu } := by rw [← hu]; rfl
  have bmu : (periodStart s).bmu.running = u.bmu.running ∧ (periodStart s).bmu.gap = u.bmu.gap.atPeriod
      ∧ (periodStart s).bmu.gapConversion = u.bmu.gapConversion
      ∧ (periodStart s).bmu.settleTimer.isRunning = (decide (u.bmu.gap = .requested) || u.bmu.settleTimer.isRunning)
      ∧ ∀ x, ((periodStart s).bmu.bridge x).heldOff = (u.bmu.bridge x).heldOff
          ∧ ((u.bmu.bridge x).heldOff = true ∨ u.bmu.gap.atPeriod.keepsOff = true → ((periodStart s).bmu.bridge x).isOff) := by
    rw [← hu]
    refine ⟨rfl, rfl, rfl, ?_, fun x => ?_⟩
    · unfold periodStart
      dsimp only
      by_cases opens : (cutDrive .rear (cutDrive .front s)).bmu.gap = .requested <;> simp [opens, State.timer, Timer.isRunning]
    · cases x <;> exact chooseOutput_guarded _ _ _ _ _
  obtain ⟨keeps, gap, converts, settles, bridges⟩ := bmu
  have odu (o : Output) : (periodStart s).heldOff o = u.heldOff o := by rw [starts]; rfl
  intro inv
  rw [bridgeInv_iff] at *
  obtain ⟨_, settling, converting, agree⟩ := inv
  refine ⟨fun x waits => (bridges x).2 ?_, ?_, ?_, fun x => ?_⟩
  · unfold actsOn at waits
    rw [keeps, running, (bridges x).1, gap] at waits
    simp only [Bool.true_and, Bool.and_eq_false_iff, Bool.not_eq_false'] at waits
    exact waits
  · rw [settles, gap, Bool.or_eq_true, settling]
    cases u.bmu.gap <;> simp [GapState.atPeriod]
  · rw [converts, gap, converting]
    cases u.bmu.gap <;> simp [GapState.atPeriod]
  · rw [(bridges x).1, odu, agree]

/-- A change of one bridge that is not off, which leaves its hold-off, moves a bridge that nothing keeps off. -/
theorem Guards.moving {t : Truck} {b : Bridge} {s : State} (moves : ¬(s.bmu.bridge t).isOff) (held : b.heldOff = (s.bmu.bridge t).heldOff) :
    Guards s (setBridge t b s) :=
  .bridge (.set s t b) (by simp [held]) fun inv waits => absurd (off_where_waits s inv waits) moves

/-- PWM_COMPARE_MATCH turns a bridge off that drives (R74). -/
theorem compareMatch_guards {t : Truck} {b : Bridge} (drives : (s.bmu.bridge t).driveOpen = true)
    (held : b.heldOff = (s.bmu.bridge t).heldOff) : Guards s (setBridge t b s) := by
  refine .moving (fun off => ?_) held
  simp [Bridge.driveOpen, off.1] at drives

/-- The end of a dead interval leaves the hold-off (R76). -/
theorem endDead_heldOff (b : Bridge) (l : Leg) (side : Side) (counter : Nat) (now : Time) :
    (b.endDead l side counter now).heldOff = b.heldOff := by
  have leg (x : LegState) : (b.setLeg l x).heldOff = b.heldOff := by cases l <;> rfl
  unfold Bridge.endDead
  split
  · exact leg _
  · exact leg _
  · split
    · rfl
    · exact leg _

/-- DEAD_INTERVAL_END moves a bridge with a leg in its dead interval (R76). -/
theorem deadIntervalEnd_guards {t : Truck} {l : Leg} {b : Bridge} {side : Side} {due : Time} (waits : (s.bmu.bridge t).leg l = .dead side due)
    (held : b.heldOff = (s.bmu.bridge t).heldOff) : Guards s (setBridge t b s) := by
  refine .moving (fun off => ?_) held
  obtain ⟨_, legA, legB⟩ := off
  cases l <;> simp_all [Bridge.leg]

/-! ## The gap (R78 to R80) -/

/-- A change of the gap and its timers that opens no gap, or keeps one open. -/
theorem Guards.gap {f : Bmu → Bmu} {s : State} (running : (f s.bmu).running = s.bmu.running)
    (switches : ∀ x, switchesOf ((f s.bmu).bridge x) = switchesOf (s.bmu.bridge x))
    (gap : BridgeInv s → ((f s.bmu).gap.keepsOff = true → s.bmu.gap.keepsOff = true)
      ∧ ((f s.bmu).settleTimer.isRunning = true ↔ (f s.bmu).gap = .settling)
      ∧ ((f s.bmu).gapConversion.isRunning = true ↔ (f s.bmu).gap = .converting)) : Guards s (onBmu f s) := by
  intro inv
  obtain ⟨keeps, settling, converting⟩ := gap inv
  rw [bridgeInv_iff] at *
  obtain ⟨off, _, _, odu⟩ := inv
  refine ⟨fun x waits => ?_, settling, converting, fun x => (alike_of_switches (switches x)).1.trans (odu x)⟩
  obtain ⟨heldOff, isOff⟩ := alike_of_switches (switches x)
  refine isOff (off x ?_)
  rw [onBmu_bmu] at waits
  unfold actsOn at waits ⊢
  rw [running, heldOff] at waits
  by_cases opens : s.bmu.gap.keepsOff = true
  · simp [opens]
  · rw [Bool.eq_false_iff.mpr fun h => opens (keeps h)] at waits
    rwa [Bool.eq_false_iff.mpr opens]

/-- CONTROL_PERIOD_EXPIRY requests a gap from CLOSED (R78). -/
theorem requestGap_guards :
    Guards s (onBmu (fun m => { m with
      controlTimer := m.controlTimer.again Config.controlPeriod, gap := if m.gap = .closed then .requested else m.gap }) s) := by
  refine .gap rfl (fun _ => rfl) fun inv => ?_
  obtain ⟨_, settling, converting, _⟩ := (bridgeInv_iff s).mp inv
  dsimp only
  rw [settling, converting]
  cases s.bmu.gap <;> simp [GapState.keepsOff]

/-- GAP_SETTLE_EXPIRY goes on from SETTLING to CONVERTING (R79). -/
theorem settleGap_guards {due : Time} (runs : s.bmu.settleTimer = .running due) (voltsF voltsR : Int) :
    Guards s (onBmu (fun m => { m with
      gap := .converting, settleTimer := .stopped, gapConversion := s.timer Config.conversionTime
      front := { m.front with heldVolts := voltsF }, rear := { m.rear with heldVolts := voltsR } }) s) := by
  refine .gap rfl (fun x => by cases x <;> rfl) fun inv => ?_
  have open_gap : s.bmu.gap = .settling := inv.settling.mp (by rw [runs]; rfl)
  rw [open_gap]
  exact ⟨fun _ => rfl, by simp [Timer.isRunning], by simp [State.timer, Timer.isRunning]⟩

/-- GAP_CONVERSION_END goes on from CONVERTING to RESUMING (R80). -/
theorem publishSample_guards {due : Time} (runs : s.bmu.gapConversion = .running due) : Guards s (publishSample s) := by
  have resumes : Guards s (onBmu (fun m => { m with
      gap := .resuming, gapConversion := .stopped, front := m.front.cleared, rear := m.rear.cleared }) s) := by
    refine .gap rfl (fun x => by cases x <;> rfl) fun inv => ?_
    have converting : s.bmu.gap = .converting := inv.converting.mp (by rw [runs]; rfl)
    rw [inv.settling, converting]
    exact ⟨fun _ => rfl, by simp, by simp [Timer.isRunning]⟩
  exact resumes.then (by simp only [publishSample, bridges_completeSlots, bridges_takeMeasurement, bridges_onBtg, bridges_onMoc])

/-! ## Reset and its release (R72, R156) -/

/-- Device reset switches both bridges off, and ODU holds none off (R72). -/
theorem deviceReset_guards : Guards s (deviceReset s) := fun _ => by
  have held (x : Truck) : (deviceReset s).heldOff (.truck x) = false := by cases x <;> rfl
  rw [bridgeInv_iff]
  exact ⟨fun x _ => by cases x <;> exact ⟨rfl, rfl, rfl⟩, iff_of_false nofun nofun, iff_of_false nofun nofun,
    fun x => by rw [held]; cases x <;> rfl⟩

/-- The schedule starts with both bridges as they were (R72). -/
theorem startSchedule_guards : Guards s (startSchedule s) := by
  have runs : Guards s (onBmu (fun m => { m with
      running := true, periodStart := s.now, modulus := s.cfg.pwmModulus
      controlTimer := s.timer Config.controlPeriod, dieTimer := s.timer Config.diePeriod }) s) := by
    intro inv
    rw [bridgeInv_iff] at *
    obtain ⟨off, rest⟩ := inv
    refine ⟨fun x waits => off x ?_, rest⟩
    simp only [onBmu_bmu, actsOn, Bool.and_eq_false_iff] at waits ⊢
    exact waits.imp_left fun h => h.imp_left nofun
  exact runs.then (bridges_appendChannel _ _)

end Sys2Proof.Laws
end

section
/-! SUPPORT. Every operation of MOC, PWS, the store and the ports, and every command, guards the bridges. -/

namespace Sys2Proof.Laws

open Sys2Proof.Machine

variable (s : State)

/-! ## The motion controller (chapter 3) -/

theorem motionTakeDriveWrite_guards (n : Nat) (changed : Bool) : Guards s (motionTakeDriveWrite n changed s) :=
  Guards.trans (.of_core (bridges_onMoc s fun m => { m with notch := n, lossBrake := !changed && m.lossBrake, emergencyLatch := false }))
    (.ite (.after (bridges_evaluateMotion _) (handIdle_guards _)) (.refl _))

/-- HALT_NOW hands SHORT_BRAKE to both bridges (R59). -/
theorem motionHalt_guards : Guards s (motionHalt s) := by
  have halts : bridgeCore (haltedMotion s) = bridgeCore s := by
    simp only [haltedMotion, bridges_endSlip, zeroIntegrators, bridges_onMoc, apply_ite bridgeCore, bridges_completeReversal, ite_self]
  have becomes (m : MotionState) (u : State) : bridgeCore (Spec.motionBecomes m u) = bridgeCore u :=
    (motionBecomes_turns u m).bridges (motionBecomes_takes u m).2.1
  rw [motionHalt_eq]
  exact .ite (.of_core ((becomes _ _).trans halts)) ((Guards.after halts (bothModes_guards _ _)).then (becomes _ _))

/-- The COAST loss action hands COAST to both bridges (R53). -/
theorem motionTakeLoss_guards (a : LossAction) : Guards s (motionTakeLoss a s) := by
  have coasts (u : State) : Guards u (motionCoast u) := by
    have turns (v : State) : bridgeCore (evaluateMotion (completeReversal v)) = bridgeCore v := by
      rw [bridges_evaluateMotion, bridges_completeReversal]
    unfold motionCoast
    dsimp only
    refine .after ?_ (.ite (.refl _) (bothModes_guards _ _))
    simp only [bridges_endSlip, apply_ite bridgeCore, turns, bridges_onMoc, ite_self]
  cases a with
  | ramp => exact .of_core rfl
  | brake => exact .of_core rfl
  | coast => exact .after (bridges_onMoc s _) (coasts _)

/-- A duty handed to each bridge (R69). -/
theorem stageDuty_guards : Guards s (stageDuty s) := by
  have drives (t : Truck) (u : State) : Guards u (driveTruck t u) := .after (bridges_onMoc u _) (handDrive_guards _ t _)
  exact (drives .front s).trans (drives .rear _)

theorem controlStep_guards (g : GapSample) : Guards s (controlStep g s) := by
  unfold controlStep
  dsimp only
  refine .after ?_ ((stageDuty_guards _).then (bridges_stagePublication _))
  simp only [bridges_stageSlip, stageLimiter, stageRegulation, bridges_evaluateMotion, bridges_stageMomentum, stageSample, motionTakeSettings,
    bridges_onMoc]

/-! ## The shed stage and the power states (chapter 9) -/

theorem suspendMotion_guards : Guards s (suspendMotion s) := by
  unfold suspendMotion
  dsimp only
  refine .after ?_ ((bothModes_guards _ _).then (bridges_endSlip _))
  simp only [bridges_evaluateMotion, zeroIntegrators, bridges_onMoc]

theorem resumeMotion_guards (n : Nat) : Guards s (resumeMotion n s) := by
  unfold resumeMotion
  dsimp only
  refine .after ?_ (handIdle_guards _)
  simp only [bridges_evaluateMotion, apply_ite bridgeCore, bridges_flipDirection, bridges_onMoc, ite_self]

theorem motionTakeShed_guards (n : Nat) : Guards s (motionTakeShed n s) := by
  rcases motionTakeShed_cases n s with ⟨e, _⟩ | ⟨e, _⟩ | ⟨e, _⟩ | ⟨e, _⟩ <;> rw [e]
  · exact .refl s
  · exact resumeMotion_guards s n
  · exact suspendMotion_guards s
  · exact .of_core ((bridges_evaluateMotion _).trans (bridges_onMoc s _))

theorem formStage_guards : Guards s (formStage s) := by
  rcases formStage_cases s with ⟨_, e⟩ | ⟨_, e⟩ <;> rw [e]
  · exact .refl s
  · have takes (n : Nat) (u : State) : Guards u (consumeStage n u) :=
      .after (u := { u with ssq := u.ssq.takeShed n }) rfl ((motionTakeShed_guards _ n).then
        ((bridges_onLtc _ _).trans (bridges_smokeTakeShed _ n)))
    exact .after (by rw [bridges_pushNotice, bridges_publish, bridges_onPws]) (takes _ _)

theorem enterPower_guards (p : PowerState) : Guards s (enterPower p s) := by
  rw [enterPower_eq]
  refine .after ?_ (formStage_guards _)
  unfold powerTold
  rfl

/-- PWS enters a power state after a change of its timers. -/
theorem enterPower_guarded {u : State} (p : PowerState) (h : bridgeCore u = bridgeCore s) : Guards s (enterPower p u) :=
  .after h (enterPower_guards u p)

theorem enterHalt_guards : Guards s (enterHalt s) := enterPower_guarded s _ rfl

theorem enterRun_guards : Guards s (enterRun s) := enterPower_guarded s _ rfl

theorem enterBridge_guards : Guards s (enterBridge s) := enterPower_guarded s _ rfl

theorem enterSettle_guards : Guards s (enterSettle s) := enterPower_guarded s _ (by split <;> rfl)

theorem trackLost_guards : Guards s (trackLost s) := by
  unfold trackLost
  split
  · exact .ite (enterBridge_guards s) (enterHalt_guards s)
  · exact enterHalt_guards s
  all_goals exact .refl s

theorem trackPresent_guards : Guards s (trackPresent s) := by
  unfold trackPresent
  split
  · exact enterRun_guards s
  · exact enterSettle_guards s
  all_goals exact .refl s

theorem qualifyTrack_guards : Guards s (qualifyTrack s) :=
  .after (bridges_onPws s fun p => { p with qualification := .stopped, trackPresent := p.towardPresent })
    (.ite (.refl _) (.ite (trackPresent_guards _) (trackLost_guards _)))

theorem stepSag_guards : Guards s (stepSag s) := .after ((bridges_setSagTimer _).trans (bridges_onPws s _)) (formStage_guards _)

theorem judgeComparator_guards (c : Comparator) : Guards s (judgeComparator c s) := by
  have output (high : Bool) : bridgeCore (onBmu (·.setOutput c high) s) = bridgeCore s := by cases c <;> rfl
  have takes (high : Bool) (u : State) : Guards u (powerTakeComparator c high u) := by
    cases c with
    | trackPresent => exact .of_core rfl
    | trackSag => exact .ite (.of_core rfl) (.of_core rfl)
    | capReserve => exact .ite (.after (bridges_onPws u _) (enterHalt_guards _)) (.of_core rfl)
    | capResume => exact .ite (.ite (.of_core rfl) (.of_core rfl)) (.of_core rfl)
  exact .ite (.refl s) (.after (output _) (takes _ _))

theorem endLoad_guards : Guards s (endLoad s) :=
  .after (bridges_pushNotice s (.started (s.pws.storeReport.getD false) (s.pws.soundReport.getD false)))
    (.ite (enterSettle_guards _) (enterHalt_guards _))

theorem consumeResult_guards (ch : Channel) (v : Int) : Guards s (consumeResult ch v s) := by
  cases ch with
  | heaterI => exact .of_core (bridges_takeMeasurement s _ _)
  | fanI => exact .of_core (bridges_takeMeasurement s _ _)
  | lightI n => exact .of_core (bridges_takeMeasurement s _ _)
  | dieT => exact .after (by rw [bridges_onPws, bridges_publish, bridges_onPws]) (formStage_guards _)
  | _ => exact .of_core rfl

theorem endConversion_guards (ch : Channel) (v : Int) : Guards s (endConversion ch v s) :=
  .after (u := onBmu (fun m => { m with converting := none }) s) rfl
    ((consumeResult_guards _ ch _).then ((bridges_startConversion _).trans (bridges_completeSlots _ _)))

/-! ## The store and the record (chapters 1 and 11) -/

theorem ownerTakes_guards (i : Item) (e : Nat) (old : Configuration) : Guards s (ownerTakes i e old s) := by
  have still {t : State} (h : bridgeCore t = bridgeCore s) : Guards s t := .of_core h
  cases i with
  | trackPresentLevel => exact judgeComparator_guards s _
  | trackSagLevel => exact judgeComparator_guards s _
  | capReserveLevel => exact judgeComparator_guards s _
  | capResumeLevel => exact judgeComparator_guards s _
  | ki => exact still rfl
  | beatSource => exact still (bridges_beatSourceChanged s _)
  | keyBindings => exact still rfl
  | smokeTemps => exact still (by simp only [ownerTakes, smokeTempsChanged, apply_ite bridgeCore, bridges_disarmDry, ite_self])
  | fluidCapacity => exact still (by simp only [ownerTakes, capacityChanged, apply_ite bridgeCore, bridges_setFluid, ite_self])
  | fanPuffLevel => exact still (by simp only [ownerTakes, fanPuffChanged, apply_ite bridgeCore, bridges_setFan, ite_self])
  | fanBetweenLevel => exact still (by simp only [ownerTakes, fanLevelChanged, apply_ite bridgeCore, bridges_fanBetween, ite_self])
  | fanIdleLevel => exact still (by simp only [ownerTakes, fanLevelChanged, apply_ite bridgeCore, bridges_fanBetween, ite_self])
  | sceneKey => exact still (bridges_evaluateScene s)
  | _ => exact .refl s

theorem serveConfigWrite_guards (item entry : Byte) (value : List Byte) : Guards s (serveConfigWrite item entry value s).2 := by
  have applies (i : Item) (e : Nat) (ns : List Nat) : Guards s (applyConfig i e ns s) :=
    .after (bridges_onCfs s fun c => { c with working := s.cfg.put i e ns, dirty := true, writtenDuring := c.writtenDuring || c.writing })
      (.ite (.refl _) (ownerTakes_guards _ i e _))
  have writes (i : Item) (e : Nat) (ns : List Nat) : Guards s (writeItem i e ns s).2 := by
    unfold writeItem
    split
    · exact .refl s
    · split
      · exact .refl s
      · exact applies i e _
  unfold serveConfigWrite
  split
  · exact .refl s
  · split
    · exact .refl s
    · split
      · exact .refl s
      · split
        · exact .refl s
        · exact writes _ _ _

theorem setKeys_guards (k : KeySet) : Guards s (setKeys k s) := .ite (.refl s) (.of_core (bridges_lightsTakeKeys _ _))

theorem setNumeric_guards (f : Field) (n : Nat) : Guards s (setNumeric f n s) := by
  cases f with
  | targetNotch => exact .after (bridges_onRcu s _) (motionTakeDriveWrite_guards _ _ _)
  | brake => exact .ite (.refl s) (.of_core rfl)
  | smokeLevel => exact .ite (.refl s) (.of_core (bridges_smokeTakeLevel _ n))
  | volume => exact .ite (.refl s) (.of_core rfl)
  | _ => exact .refl s

theorem writeField_guards (f : Field) (v : Word32) : Guards s (writeField f v s).2 := by
  have numeric (g : Field) (top n : Nat) : Guards s (writeNumeric g top n s).2 := setNumeric_guards s g _
  cases f with
  | direction =>
    simp only [writeField, writeDirection]
    split
    · exact .refl s
    · exact .ite (.refl s) (.of_core (bridges_motionTakeDirection _ _))
  | keys => exact setKeys_guards s v
  | restarted =>
    simp only [writeField, writeRestarted]
    split
    · exact .of_core rfl
    · exact .refl s
  | _ => exact numeric _ _ _

/-- A request on a field is refused, or changes it (R7). -/
theorem guardField_guards (src : Source) (field : Byte) (defined : Field → Bool) {k : Field → Answer × State} (h : ∀ f, Guards s (k f).2) :
    Guards s (guardField src field defined s k).2 := by
  rcases guardField_cases s src field defined k with ⟨_, e⟩ | ⟨f, _, _, e⟩ <;> rw [e]
  · exact .refl s
  · exact h f

/-! ## Requests (1.4) -/

theorem serveOwner_guards (src : Source) (posted : Bool) (tag : Byte) (b : Body) : Guards s (serveOwner src posted tag b s).2 := by
  have still {t : State} (h : bridgeCore t = bridgeCore s) : Guards s t := .of_core h
  cases b with
  | read f sel =>
    simp only [serveOwner, serveRead]
    split
    · exact .refl s
    · split
      · exact .refl s
      · split <;> exact .refl s
  | write f v =>
    rw [serveOwner, serveWrite_eq]
    exact guardField_guards s _ _ _ fun f => writeField_guards s f v
  | add f imm => exact guardField_guards s _ _ _ fun f => setNumeric_guards s f _
  | keys f m st => exact guardField_guards s _ _ _ fun _ => setKeys_guards s _
  | flip f m => exact guardField_guards s _ _ _ fun _ => setKeys_guards s _
  | swap f v =>
    simp only [serveOwner, serveSwap]
    split
    · exact .refl s
    · exact guardField_guards s _ _ _ fun f => setNumeric_guards s f _
  | claim e n =>
    simp only [serveOwner, serveClaim]
    split
    · exact .refl s
    · split
      · exact .refl s
      · split
        · exact still (by rw [takeClaim, bridges_setHolder, bridges_setFailsafe, bridges_startLease])
        · exact .refl s
  | release c =>
    have stops : bridgeCore (stopNotch s) = bridgeCore s := by
      unfold stopNotch
      split <;> rfl
    simp only [serveOwner, serveRelease]
    split
    · exact .refl s
    · split
      · exact .refl s
      · exact still (by simp only [bridges_setHolder, bridges_onRcu, apply_ite bridgeCore, stops, ite_self])
  | haltNow => exact .after (bridges_onRcu s fun r => { r with targetNotch := 0 }) (motionHalt_guards _)
  | measure ch =>
    simp only [serveOwner, serveMeasure]
    split
    · exact .refl s
    · split
      · exact .refl s
      · exact still rfl
  | play v c g t =>
    simp only [serveOwner, servePlay]
    split
    · exact .refl s
    · split
      · split
        · exact .refl s
        · split
          · exact .refl s
          · split <;> exact still rfl
      · exact .refl s
  | refill a =>
    refine still ?_
    simp only [serveOwner, serveRefill, apply_ite bridgeCore, bridges_enterSmoke, bridges_disarmDry, bridges_setFluid, ite_self]
  | sceneWrite r st d codes =>
    simp only [serveOwner, serveSceneWrite]
    split
    · exact .refl s
    · split
      · exact .refl s
      · exact still (by simp only [apply_ite bridgeCore, bridges_onLtc, ite_self])
  | clearFaults m => exact serveClearFaults_guards s m
  | configRead i e =>
    simp only [serveOwner, serveConfigRead]
    split
    · exact .refl s
    · split
      · exact .refl s
      · split <;> exact .refl s
  | configWrite i e v => exact serveConfigWrite_guards s i e v
  | commit =>
    simp only [serveOwner, serveCommit]
    split
    · exact .refl s
    · split
      · exact .refl s
      · split
        · exact .refl s
        · cases src <;> exact still rfl

theorem serve_guards (src : Source) (posted : Bool) (tag : Byte) (b : Body) : Guards s (serve src posted tag b s).2 := by
  refine (serveOwner_guards s src posted tag b).then ?_
  simp only [serve, refreshLease, apply_ite bridgeCore, bridges_startLease, ite_self]

theorem takeRequest_guards (h : Head) (b : Body) : Guards s (takeRequest h b s) := by
  have hosted : Guards s (hostServe h b s).2 := by
    unfold hostServe
    split
    · exact .refl s
    · split
      · exact .refl s
      · split
        · exact .refl s
        · exact serve_guards s _ _ _ _
  have radioed (id : Byte) (u : State) : Guards u (radioServe id h.posted h.tag b.kind (handOn h b) u).2 := by
    rcases radioServe_cases u id h.posted h.tag b.kind (handOn h b) with ⟨_, e⟩ | ⟨_, _, e⟩ <;> rw [e]
    · exact .refl u
    · exact serve_guards u _ _ _ _
  unfold takeRequest
  split
  · exact .ite (.refl s) (.ite (.of_core (bridges_framingError s)) (hosted.then (bridges_hostAnswer _ _ _ _)))
  · exact .ite (.refl s) (.after (bridges_hearThrottle s _) ((radioed _ _).then rfl))

/-! ## Frames (2.4) -/

theorem radioRun_guards (id : Byte) (consist : Option Configuration) (l : List RawRecord) : Guards s (radioRun id consist l s).2 := by
  induction l generalizing s with
  | nil => exact .refl s
  | cons r rs ih =>
    have first : Guards s (radioRecord id consist r s).2 := by
      rcases radioRecord_cases s id consist r with ⟨_, e⟩ | ⟨_, _, e⟩ <;> rw [e]
      · exact .refl s
      · exact serve_guards s _ _ _ _
    exact first.trans (ih _)

theorem continueFrame_guards (run : FrameRun) : Guards s (continueFrame run s) := by
  have runs (l : List RawRecord) : Guards s (radioRun run.thr run.consist l { s with frameBreaks := s.frameBreaks.tail }).2 :=
    .after (u := { s with frameBreaks := s.frameBreaks.tail }) rfl (radioRun_guards _ _ _ l)
  rcases continueFrame_cases run s with ⟨_, e⟩ | ⟨_, e⟩ <;> rw [e]
  · exact (runs _).then (bridges_answerFrame _ _)
  · exact (runs _).then (bridges_onRif _ _)

theorem takeFrame_guards : Guards s (takeFrame s) := by
  have accepts (p : Frame) (t : Time) (l : List RawRecord) (a : Addressing) (u : State) : Guards u (acceptFrame p t l a u) :=
    .after (u := frameArrives p.thr (onRif (·.hear p.thr p.seq t) u)) (by rw [bridges_frameArrives, bridges_onRif]) (continueFrame_guards _ _)
  have handles (f : CompletedFrame) (u : State) : Guards u (handleFrame f u) := by
    unfold handleFrame
    split
    case h_7 => exact accepts _ _ _ _ u
    all_goals exact .of_core (bridges_countRadio u _)
  unfold takeFrame
  split
  · exact .after (bridges_onRif s _) (continueFrame_guards _ _)
  · exact .refl s
  · exact .after (bridges_onRif s _) (handles _ _)

theorem expireLease_guards : Guards s (expireLease s) := by
  unfold expireLease
  dsimp only
  exact .after (bridges_onRcu s fun r => { r with targetNotch := 0, lease := .stopped }) ((motionTakeLoss_guards _ _).then
    (by rw [bridges_setHolder, bridges_pushNotice, bridges_setFailsafe]))

theorem release_guards (trackV capV : Nat) : Guards s (release trackV capV s) := by
  have load (u : State) : bridgeCore (loadConfiguration u) = bridgeCore u := by
    simp only [loadConfiguration, bridges_onPws, bridges_onCfs]
  have record (u : State) : bridgeCore (initRecord u) = bridgeCore u := rfl
  have report (u : State) : bridgeCore (firstReport u) = bridgeCore u := rfl
  have blocks (u : State) : bridgeCore (startSound (startLights u)) = bridgeCore u := bridges_evaluateScene u
  have others (u : State) : bridgeCore (startSmoke (startBeats (startMotion u))) = bridgeCore u := by
    simp only [startSmoke, startBeats, startMotion, publishBeats, motionTakeSettings, bridges_publish, bridges_setFluid, bridges_onSmu,
      bridges_onBtg, bridges_onMoc]
  have pins : bridgeCore (onBmu (fun m => { m with trackPin := trackV, capPin := capV }) { s with inReset := false }) = bridgeCore s := rfl
  unfold release
  exact .after ((record _).trans ((load _).trans pins)) ((startSchedule_guards _).then ((blocks _).trans ((others _).trans (report _))))

/-! ## The commands -/

theorem released_guarded {t : State} {f : State → State} (h : whenReleased f s = .next t) (hf : Guards s (f s)) : Guards s t :=
  whenReleased_keeps (P := Guards s) (fun _ => hf) h (.refl s)

theorem expiry_guards {timer : Timer} {f : State → State} (hf : ∀ due, timer = .running due → Guards (s.reach due) (f (s.reach due))) :
    Guards s (onExpiry timer f s) := by
  rcases onExpiry_cases s timer f with ⟨_, e⟩ | ⟨due, runs, e⟩ <;> rw [e]
  · exact .refl s
  · exact .after (bridges_reach s due) (hf due runs)

/-- An output's watch changed but for the state of its record, and its record published. -/
theorem publishFault_guards (o : Output) (f : Watch → Watch) (kept : ∀ w, (f w).record.state = w.record.state) :
    Guards s (publishFault o (mapWatch o f s)) := .of_core ((bridges_publishFault _ o).trans (bridges_mapWatch s (kept _)))

/-- Every command guards the bridges. -/
theorem exec_guards {c : Instr} {s t : State} (h : exec c s = .next t) : Guards s t := by
  have still {u v : State} (e : bridgeCore v = bridgeCore u) : Guards u v := .of_core e
  cases hr : requestOf c with
  | some x =>
    rw [exec_request hr] at h
    exact released_guarded s h (takeRequest_guards s x.1 x.2)
  | none =>
    cases c with
    | resetnLow => cases h; exact deviceReset_guards s
    | logicSupplyFail => cases h; exact deviceReset_guards s
    | resetRelease trackV capV => cases h; exact .ite (release_guards s trackV capV) (.refl s)
    | clipHeaderRead bytes => exact released_guarded s h (.ite (still rfl) (.refl s))
    | loadEnd => exact released_guarded s h (.ite (endLoad_guards s) (.refl s))
    | commitEnd good => exact released_guarded s h (.ite (still (bridges_endCommit s good)) (.refl s))
    | hostSelectFall =>
      cases h
      exact .ite (still rfl) (.ite (.refl s) (still rfl))
    | hostSelectRise =>
      cases h
      exact .ite (still rfl) (still rfl)
    | transactionFramingError cause =>
      dsimp only [exec, execTransactionFramingError] at h
      refine released_guarded s h (still ?_)
      cases cause <;> simp only [apply_ite bridgeCore, bridges_takeFirstByte, bridges_framingError, ite_self]
    | notice => exact released_guarded s h (still (bridges_takeFirstByte s _))
    | status => exact released_guarded s h (still (bridges_takeFirstByte s _))
    | radioByte b => exact released_guarded s h (still (bridges_takeByte s b))
    | interByteTimerExpiry => exact released_guarded s h (expiry_guards s fun _ _ => still (bridges_gapOnLink _))
    | radioFrame => exact released_guarded s h (takeFrame_guards s)
    | replySent => exact released_guarded s h (.ite (still (bridges_onRif s _)) (.refl s))
    | throttleEntryAgeing id =>
      refine released_guarded s h (still ?_)
      unfold ageEntry
      split
      · rfl
      · split <;> rfl
    | leaseExpiry => exact released_guarded s h (expiry_guards s fun _ _ => expireLease_guards _)
    | controlStep =>
      dsimp only [exec, execControlStep] at h
      refine released_guarded s h ?_
      split
      · exact .refl s
      · exact .after (bridges_onMoc s _) (controlStep_guards _ _)
    | pwmPeriodStart =>
      dsimp only [exec, execPwmPeriodStart] at h
      refine released_guarded s h ?_
      split
      · rename_i runs
        exact .after (bridges_reach s _) (periodStart_guards _ runs)
      · exact .refl s
    | pwmCompareMatch t charge =>
      dsimp only [exec, execPwmCompareMatch] at h
      refine released_guarded s h ?_
      split
      · rename_i drives
        refine .after (bridges_reach s _) (compareMatch_guards _ (Bool.and_eq_true_iff.mp drives).2 ?_)
        split <;> rfl
      · exact .refl s
    | deadIntervalEnd t leg =>
      dsimp only [exec, execDeadIntervalEnd] at h
      refine released_guarded s h ?_
      split
      · rename_i waits
        exact .after (bridges_reach s _) (deadIntervalEnd_guards _ waits (endDead_heldOff _ _ _ _ _))
      · exact .refl s
      · exact .refl s
    | controlPeriodExpiry =>
      refine released_guarded s h (expiry_guards s fun _ _ => (requestGap_guards _).then ?_)
      rw [bridges_appendChannel, bridges_appendChannel]
    | gapSettleExpiry f r => exact released_guarded s h (expiry_guards s fun due runs => settleGap_guards (s.reach due) runs f r)
    | gapConversionEnd => exact released_guarded s h (expiry_guards s fun due runs => publishSample_guards (s.reach due) runs)
    | conversionEnd value =>
      dsimp only [exec, execConversionEnd] at h
      refine released_guarded s h ?_
      split
      · exact .refl s
      · exact .after (bridges_reach s _) (endConversion_guards _ _ _)
    | dieTimerExpiry => exact released_guarded s h (expiry_guards s fun _ _ => still ((bridges_appendChannel _ _).trans rfl))
    | supervisionComparatorChange k v =>
      dsimp only [exec, execSupervisionComparatorChange] at h
      exact released_guarded s h (.after (by cases k <;> rfl) (judgeComparator_guards _ k))
    | shortComparatorTrip o current => exact released_guarded s h (.ite (takeTrip_guards s o) (.refl s))
    | retryTimerExpiry o =>
      exact released_guarded s h (expiry_guards s fun _ _ => (retry_guards _ o fun _ => rfl).then (bridges_publishFault _ o))
    | probationTimerExpiry o => exact released_guarded s h (expiry_guards s fun _ _ => publishFault_guards _ o _ fun _ => rfl)
    | openTimerExpiry o =>
      exact released_guarded s h (expiry_guards s fun _ _ => Guards.then (publishFault_guards _ o
        (fun w => { w with record := { w.record with opened := true }, openTimer := .stopped }) fun _ => rfl) (bridges_pushNotice _ _))
    | beatSample =>
      dsimp only [exec, execBeatSample] at h
      refine released_guarded s h ?_
      split
      · exact .refl s
      · exact still ((bridges_beatSample _ _).trans (bridges_onBtg s _))
    | sensorEdge => exact released_guarded s h (.ite (still (bridges_onBtg s _)) (.refl s))
    | audioSample => exact released_guarded s h (expiry_guards s fun _ _ => still rfl)
    | burstLands samples =>
      dsimp only [exec, execBurstLands] at h
      exact released_guarded s h (still rfl)
    | smokeTick =>
      exact released_guarded s h (expiry_guards s fun _ _ => still
        (by rw [bridges_appendChannel, bridges_appendChannel, bridges_appendChannel]; rfl))
    | regulationStep =>
      dsimp only [exec, execRegulationStep] at h
      refine released_guarded s h ?_
      split
      · exact .refl s
      · exact still ((bridges_regulationStep _ _).trans (bridges_onSmu s _))
    | puffTimerExpiry => exact released_guarded s h (expiry_guards s fun _ _ => still ((bridges_fanBetween _).trans rfl))
    | heaterPwmPeriodStart => exact released_guarded s h (still rfl)
    | fanPwmPeriodStart => exact released_guarded s h (still rfl)
    | lightPwmPeriodStart n => exact released_guarded s h (still rfl)
    | lightFrame =>
      exact released_guarded s h (expiry_guards s fun _ _ => still (by rw [bridges_appendLight, bridges_lightFrame]; rfl))
    | trackQualificationExpiry => exact released_guarded s h (expiry_guards s fun _ _ => qualifyTrack_guards _)
    | bridgeLimitExpiry => exact released_guarded s h (expiry_guards s fun _ _ => enterHalt_guards _)
    | settleTimerExpiry => exact released_guarded s h (expiry_guards s fun _ _ => enterRun_guards _)
    | sagTimerExpiry => exact released_guarded s h (expiry_guards s fun _ _ => stepSag_guards _)
    | requestKindByte r =>
      refine released_guarded s h (.ite ?_ (.refl s))
      cases r with
      | none => exact still (bridges_takeFirstByte s _)
      | some r => exact .ite (still (bridges_takeFirstByte s _)) (still ((bridges_undefinedRecord _ r).trans (bridges_takeFirstByte s _)))
    | heaterPwmCompare => exact released_guarded s h (still rfl)
    | fanPwmCompare => exact released_guarded s h (still rfl)
    | lightPwmCompare n => exact released_guarded s h (still rfl)
    | _ => cases hr

end Sys2Proof.Laws
end

section
/-! STATEMENTS. The bridges through every step. -/

namespace Sys2Proof.Record

open Sys2Proof.Machine Sys2Proof.Laws

/-- Settles O57: a mode acts at once only on a bridge that nothing keeps off, and BMU and ODU take and leave a hold-off together. -/
theorem stepsKeepTheBridgesOff : Obligations.StepsKeepTheBridgesOff := by
  intro s t inv h
  unfold step at h
  split at h
  · cases h
    exact Guards.of_core (s := s) rfl inv
  · rename_i rest _
    exact Guards.after (s := s) (u := { s with pending := rest }) rfl (exec_guards h) inv

end Sys2Proof.Record
end

section
/-! The period start, the compare match and the end of a dead interval (O39, O40). -/

namespace Sys2Proof.Laws

open Sys2Proof.Machine

/-! ## The end of a drive (R80) -/

/-- A drive cut at a period's end joins its counts to the accumulator; its charge moves only where it has counts (R80, log entry 7). -/
theorem cutDrive_closes (t : Truck) (s : State) :
    (cutDrive t s).bmu.bridge t
        = { Spec.closed (s.bmu.bridge t) s.bmu.periodStart s.now with charge := ((cutDrive t s).bmu.bridge t).charge }
    ∧ ((s.bmu.bridge t).drivenSince = none
        ∨ (Spec.closed (s.bmu.bridge t) s.bmu.periodStart s.now).driveCounts = (s.bmu.bridge t).driveCounts →
      ((cutDrive t s).bmu.bridge t).charge = (s.bmu.bridge t).charge)
    ∧ ((s.bmu.bridge t).drivenSince = none → (cutDrive t s).freeIndex = s.freeIndex) := by
  unfold Spec.closed
  rcases cutDrive_cases s t with ⟨idle, e⟩ | ⟨since, driven, spent, e⟩ | ⟨since, driven, counts, e⟩ <;> rw [e]
  · rw [idle]
    exact ⟨rfl, fun _ => rfl, fun _ => rfl⟩
  · rw [driven, setBridge_bmu, bridge_setBridge, if_pos rfl]
    dsimp only
    rw [Nat.sub_eq_zero_of_le spent]
    exact ⟨rfl, fun _ => rfl, nofun⟩
  · rw [driven, setBridge_bmu, bridge_setBridge, if_pos rfl]
    refine ⟨rfl, fun same => ?_, nofun⟩
    rcases same with none | stays
    · cases none
    · dsimp only at stays
      exact absurd (stays ▸ Nat.lt_add_of_pos_right (Nat.sub_pos_of_lt counts)) (Nat.lt_irrefl _)

/-- No drive is under way after a period's end. -/
theorem closed_idle (b : Bridge) (periodStart now : Time) : (Spec.closed b periodStart now).drivenSince = none := by
  unfold Spec.closed
  cases driven : b.drivenSince with
  | none => exact driven
  | some since => rfl

/-! ## A bridge at a period start (R74 to R76, R78) -/

/-- A leg turned toward a switch (R76). -/
theorem toward_eq (l : LegState) (side : Side) (now : Time) : l.toward side now = Spec.turned l side now := by
  cases l with
  | off => rfl
  | on old => cases old <;> cases side <;> rfl
  | dead next due => cases side <;> rfl

/-- The gap keeps a bridge off from a period start on where it opens or is open, but for one that closes (R75, R78). -/
theorem keepsOff_atPeriod (g : GapState) : g.atPeriod.keepsOff = true ↔ g = .requested ∨ g = .settling ∨ g = .converting := by
  cases g <;> simp [GapState.atPeriod, GapState.keepsOff]

/-- The switches of a drive by its polarity (4.3). -/
theorem driveSides_eq (d : Direction) :
    driveSides d = (if d = .forward then Side.high else Side.low, if d = .forward then Side.low else Side.high) := by
  cases d <;> rfl

/-- A bridge turned to BRAKING (R76). -/
theorem brake_eq (b : Bridge) (now : Time) : b.brake now = { b with
    output := .braking, legA := Spec.turned b.legA .low now, legB := Spec.turned b.legB .low now, drivenSince := none } := by
  simp only [Bridge.brake, toward_eq]

/-- A bridge whose drive begins (R74, R76). -/
theorem drive_eq (b : Bridge) (d : Direction) (now : Time) :
    b.drive d now =
      if b.compare = 0 then { b with output := .driving, legA := .off, legB := .off, drivenSince := none }
      else
        let a := Spec.turned b.legA (if d = .forward then .high else .low) now
        let z := Spec.turned b.legB (if d = .forward then .low else .high) now
        { b with output := .driving, legA := a, legB := z, drivenSince := if a.isOn = true ∧ z.isOn = true then some now else none } := by
  simp only [Bridge.drive, Bridge.allOff, toward_eq, driveSides_eq, Bool.and_eq_true]

/-- A bridge without a drive under way, from a period start on (R74 to R76, R78). -/
theorem atPeriod_eq {b : Bridge} (idle : b.drivenSince = none) (m : Modulus) (g : GapState) (d : Direction) (now : Time) :
    b.atPeriod m g.atPeriod d (decide (g = .requested)) (decide (g = .resuming)) now = Spec.bridgeAt b m g d now := by
  obtain ⟨duty, mode, output, held, compare, legA, legB, since, charge, counts, volts, braked⟩ := b
  subst idle
  unfold Bridge.atPeriod Bridge.chooseOutput Spec.bridgeAt compareValue
  simp only [Bool.or_eq_true, keepsOff_atPeriod, decide_eq_true_eq, Bool.and_eq_true, drive_eq, brake_eq, Bridge.allOff]
  generalize (if g = .requested then decide (output = .braking) else braked) = brakes
  split
  · rfl
  · cases mode with
    | coast => rfl
    | drive => rfl
    | shortBrake => rfl

/-- What a bridge does from a period start on does not turn on its charge. -/
theorem bridgeAt_charge (b : Bridge) (q : Nat) (m : Modulus) (g : GapState) (d : Direction) (now : Time) :
    Spec.bridgeAt { b with charge := q } m g d now = { Spec.bridgeAt b m g d now with charge := q } := by
  unfold Spec.bridgeAt
  dsimp only
  generalize (if g = .requested then decide (b.output = .braking) else b.brakedAtGap) = brakes
  split
  · rfl
  · cases b.modeShadow with
    | coast => rfl
    | drive => dsimp only; split <;> rfl
    | shortBrake => dsimp only; split <;> rfl

/-- The drives of both bridges cut at a period's end: their counts join, and nothing else of the state changes (R80). -/
theorem cutDrives_eq (s : State) :
    let u := cutDrive .rear (cutDrive .front s)
    u = { s with freeIndex := u.freeIndex, bmu.front := u.bmu.front, bmu.rear := u.bmu.rear }
    ∧ u.bmu.front = { Spec.closed s.bmu.front s.bmu.periodStart s.now with charge := u.bmu.front.charge }
    ∧ u.bmu.rear = { Spec.closed s.bmu.rear s.bmu.periodStart s.now with charge := u.bmu.rear.charge }
    ∧ (∀ x : Truck, (s.bmu.bridge x).drivenSince = none
        ∨ (Spec.closed (s.bmu.bridge x) s.bmu.periodStart s.now).driveCounts = (s.bmu.bridge x).driveCounts →
      (u.bmu.bridge x).charge = (s.bmu.bridge x).charge)
    ∧ (s.bmu.front.drivenSince = none → s.bmu.rear.drivenSince = none → u.freeIndex = s.freeIndex) := by
  obtain ⟨frontCloses, frontCharge, frontFree⟩ := cutDrive_closes .front s
  have front : cutDrive .front s = _ := cutDrive_oneBridge s .front
  generalize cutDrive .front s = v at frontCloses frontCharge frontFree front
  obtain ⟨rearCloses, rearCharge, rearFree⟩ := cutDrive_closes .rear v
  have rear : cutDrive .rear v = _ := cutDrive_oneBridge v .rear
  generalize cutDrive .rear v = u at rearCloses rearCharge rearFree rear
  rw [front] at rear rearCloses rearCharge rearFree
  have frontStands : u.bmu.front = v.bmu.front := by rw [rear]; rfl
  refine ⟨?_, ?_, rearCloses, fun x => ?_, fun frontIdle rearIdle => (rearFree rearIdle).trans (frontFree frontIdle)⟩
  · rw [frontStands]
    exact rear
  · rw [frontStands]
    exact frontCloses
  · cases x with
    | front => exact fun stays => (congrArg Bridge.charge frontStands).trans (frontCharge stays)
    | rear => exact rearCharge

/-- A bridge whose drive was cut at a period's end, from that period's start on. -/
theorem atPeriod_closed {b c : Bridge} {p now : Time} (closes : b = { Spec.closed c p now with charge := b.charge })
    (m : Modulus) (g : GapState) (d : Direction) :
    b.atPeriod m g.atPeriod d (decide (g = .requested)) (decide (g = .resuming)) now
      = { Spec.bridgeAt (Spec.closed c p now) m g d now with charge := b.charge } := by
  have idle : b.drivenSince = none := by
    rw [closes]
    exact closed_idle c p now
  rw [atPeriod_eq idle, ← bridgeAt_charge, ← closes]

/-- The gap after a period start (R78, R81). -/
theorem gapAt_eq (g : GapState) : g.atPeriod = Spec.gapAt g := by
  cases g <;> rfl

/-- A period start: its time and modulus, the gap, and each bridge from its shadows (R73 to R75, R78, R80, R81). -/
theorem periodStart_eq (s : State) :
    let t := periodStart s
    let m := s.cfs.working.pwmModulus
    let after (b : Bridge) := Spec.bridgeAt (Spec.closed b s.bmu.periodStart s.now) m s.bmu.gap s.bmu.polarityShadow s.now
    t = { s with
      freeIndex := t.freeIndex
      bmu.periodStart := s.now, bmu.modulus := m, bmu.gap := Spec.gapAt s.bmu.gap
      bmu.settleTimer := if s.bmu.gap = .requested then .running (s.now + 800 * s.cfs.working.gapSettle) else s.bmu.settleTimer
      bmu.front := { after s.bmu.front with charge := t.bmu.front.charge }
      bmu.rear := { after s.bmu.rear with charge := t.bmu.rear.charge } }
    ∧ (∀ x : Truck, (s.bmu.bridge x).drivenSince = none
        ∨ (Spec.closed (s.bmu.bridge x) s.bmu.periodStart s.now).driveCounts = (s.bmu.bridge x).driveCounts →
      (t.bmu.bridge x).charge = (s.bmu.bridge x).charge)
    ∧ (s.bmu.front.drivenSince = none → s.bmu.rear.drivenSince = none → t.freeIndex = s.freeIndex) := by
  obtain ⟨cut, front, rear, charges, free⟩ := cutDrives_eq s
  unfold periodStart
  generalize cutDrive .rear (cutDrive .front s) = u at cut front rear charges free ⊢
  generalize u.bmu.front = f at cut front
  generalize u.bmu.rear = r at cut rear
  generalize u.freeIndex = i at cut
  subst cut
  have frontAfter := atPeriod_closed front s.cfs.working.pwmModulus s.bmu.gap s.bmu.polarityShadow
  have rearAfter := atPeriod_closed rear s.cfs.working.pwmModulus s.bmu.gap s.bmu.polarityShadow
  have settle : Config.us (50 * s.cfs.working.gapSettle) = 800 * s.cfs.working.gapSettle := by
    rw [Config.us, ← Nat.mul_assoc]
  refine ⟨?_, fun x stays => ?_, free⟩
  · dsimp only [State.cfg, State.timer]
    simp only [frontAfter, rearAfter, settle, decide_eq_true_eq]
    rw [gapAt_eq]
  · cases x with
    | front => exact (congrArg Bridge.charge frontAfter).trans (charges .front stays)
    | rear => exact (congrArg Bridge.charge rearAfter).trans (charges .rear stays)

/-! ## A compare match and the end of a dead interval (R74, R76, R80) -/

/-- A bridge that drives with a switch on is open to a compare match. -/
theorem driveOpen_of_on {b : Bridge} (drives : b.output = .driving) (on : b.legA.isOn = true) : b.driveOpen = true := by
  obtain ⟨_, legA⟩ : ∃ side, b.legA = .on side := by
    cases leg : b.legA with
    | on side => exact ⟨side, rfl⟩
    | off => simp [leg, LegState.isOn] at on
    | dead side due => simp [leg, LegState.isOn] at on
  simp [Bridge.driveOpen, drives, legA]

/-- A bridge that does not drive has no compare match. -/
theorem driveOpen_of_not_driving {b : Bridge} (not : b.output ≠ .driving) : b.driveOpen = false := by
  simp [Bridge.driveOpen, not]

/-- A leg replaced, as the model and the statement write it. -/
theorem withLeg_eq (b : Bridge) (l : Leg) (y : LegState) : Spec.withLeg b l y = b.setLeg l y := by
  cases l <;> rfl

/-- The end of a dead interval of a bridge that drives (R76). -/
theorem endDead_driving {b : Bridge} (drives : b.output = .driving) (l : Leg) (side : Side) (counter : Nat) (now : Time) :
    b.endDead l side counter now =
      if b.compare ≤ counter then { b with legA := .off, legB := .off, drivenSince := none }
      else { Spec.withLeg b l (.on side) with drivenSince := if (Spec.legOf b (Spec.partner l)).isOn then some now else none } := by
  have both : ((b.setLeg l (.on side)).legA.isOn && (b.setLeg l (.on side)).legB.isOn) = (Spec.legOf b (Spec.partner l)).isOn := by
    cases l
    · exact Bool.true_and _
    · exact Bool.and_true _
  rw [withLeg_eq, ← both]
  unfold Bridge.endDead
  split
  · simp_all
  · simp_all
  · rfl

/-- The counter of a running schedule (R73). -/
theorem pwmCounter_running {s : State} (runs : s.bmu.running = true) :
    s.pwmCounter = min (s.now - s.bmu.periodStart) (s.bmu.modulus.counts - 1) := if_pos runs

end Sys2Proof.Laws

namespace Sys2Proof.Record

open Sys2Proof.Machine Sys2Proof.Laws

/-- Settles O39: the drives of the period close (`cutDrives_eq`), and each bridge, without a drive, is decided from its shadows
(`atPeriod_eq`). -/
theorem periodStartDecidesTheBridges : Obligations.PeriodStartDecidesTheBridges := by
  intro s released
  refine ⟨fun stopped => ?_, fun runs => ?_⟩
  · have e : exec .pwmPeriodStart s = _ := whenReleased_runs released
    rw [e, if_neg (by rw [stopped]; decide)]
  · have e : exec .pwmPeriodStart s = _ := whenReleased_runs released
    rw [if_pos runs] at e
    exact ⟨_, e, periodStart_eq (s.reach (s.bmu.periodStart + s.bmu.modulus.counts))⟩

/-- The compare match of a bridge that drives with both switches on (R74, R80). -/
theorem compareMatch_drives {s : State} (released : s.inReset = false) (runs : s.bmu.running = true) (x : Truck) {since : Time}
    (driven : (s.bmu.bridge x).drivenSince = some since) (open_ : (s.bmu.bridge x).driveOpen = true) (charge : Nat) :
    let b := s.bmu.bridge x
    exec (.pwmCompareMatch x charge) s = .next (setBridge x
      { b with
        legA := .off, legB := .off, drivenSince := none, charge := if since < s.bmu.periodStart + b.compare then b.charge + charge else b.charge
        driveCounts := b.driveCounts + (s.bmu.periodStart + b.compare - since) }
      { s with now := max s.now (s.bmu.periodStart + b.compare) }) := by
  have e : exec (.pwmCompareMatch x charge) s = _ := whenReleased_runs released
  rw [e, if_pos (by rw [runs, open_]; rfl), driven]
  rfl

/-- A bridge that is not open to a compare match has none. -/
theorem compareMatch_none {s : State} (released : s.inReset = false) (x : Truck) (shut : (s.bmu.bridge x).driveOpen = false) (charge : Nat) :
    exec (.pwmCompareMatch x charge) s = .next s := by
  have e : exec (.pwmCompareMatch x charge) s = _ := whenReleased_runs released
  rw [e, if_neg (by simp [shut])]

/-- The end of a leg's own dead interval, as the bridge makes it. -/
theorem deadIntervalEnd_dead {s : State} (released : s.inReset = false) (runs : s.bmu.running = true) (x : Truck) (l : Leg) {side : Side}
    {due : Time} (dead : (s.bmu.bridge x).leg l = .dead side due) :
    exec (.deadIntervalEnd x l) s = .next (setBridge x
      ((s.bmu.bridge x).endDead l side (min (max s.now due - s.bmu.periodStart) (s.bmu.modulus.counts - 1)) (max s.now due))
      { s with now := max s.now due }) := by
  have e : execDeadIntervalEnd x l s = _ := whenReleased_runs released
  rw [show exec (.deadIntervalEnd x l) s = execDeadIntervalEnd x l s from rfl]
  rw [e, dead]
  dsimp only
  rw [pwmCounter_running (s := s.reach due) runs]
  rfl

/-- A leg outside a dead interval has none to end. -/
theorem deadIntervalEnd_none {s : State} (released : s.inReset = false) (x : Truck) (l : Leg)
    (rests : Spec.waits ((s.bmu.bridge x).leg l) = false) : exec (.deadIntervalEnd x l) s = .next s := by
  have e : execDeadIntervalEnd x l s = _ := whenReleased_runs released
  rw [show exec (.deadIntervalEnd x l) s = execDeadIntervalEnd x l s from rfl]
  rw [e]
  cases leg : (s.bmu.bridge x).leg l with
  | off => rfl
  | on side => rfl
  | dead side due => simp [leg, Spec.waits] at rests

/-- A leg of a bridge, as the model and the statement read it. -/
theorem legOf_eq (b : Bridge) (l : Leg) : Spec.legOf b l = b.leg l := by
  cases l <;> rfl

/-- Settles O40, clause by clause. -/
theorem compareAndDeadIntervalMoveTheLegs : Obligations.CompareAndDeadIntervalMoveTheLegs := by
  intro s released runs x
  refine ⟨fun since driven drives onA _ charge => ?_, fun not charge => ?_, fun l side due dead => ?_, fun l rests => ?_⟩
  · exact compareMatch_drives released runs x driven (driveOpen_of_on drives onA) charge
  · exact compareMatch_none released x (driveOpen_of_not_driving not) charge
  · rw [legOf_eq] at dead
    rw [deadIntervalEnd_dead released runs x l dead]
    dsimp only
    split
    next output => simp only [Bridge.endDead, output, withLeg_eq]
    next output => simp only [Bridge.endDead, output, withLeg_eq]
    next output => rw [endDead_driving output]
  · rw [legOf_eq] at rests
    exact deadIntervalEnd_none released x l rests

end Sys2Proof.Record
end

section
/-! SUPPORT. What the taking of a shed stage leaves, whatever the stage: PWS, the store, the beats and the converter (R164). -/

namespace Sys2Proof.Laws

open Sys2Proof.Machine

/-- PWS, CFS, BTG, the time, TEMPERATURE and the converter stand, and at most `n` notices join the queue. -/
structure StageLeaves (n : Nat) (s t : State) : Prop where
  pws         : t.pws = s.pws
  cfs         : t.cfs = s.cfs
  btg         : t.btg = s.btg
  now         : t.now = s.now
  temperature : t.rcu.views.temperature = s.rcu.views.temperature
  conversions : t.bmu.conversions = s.bmu.conversions
  converting  : t.bmu.converting = s.bmu.converting
  notices     : t.hpt.notices.length ≤ s.hpt.notices.length + n

theorem StageLeaves.refl (s : State) : StageLeaves 0 s s := ⟨rfl, rfl, rfl, rfl, rfl, rfl, rfl, Nat.le_refl _⟩

theorem StageLeaves.trans {n m : Nat} {s t u : State} (h : StageLeaves n s t) (k : StageLeaves m t u) : StageLeaves (n + m) s u where
  pws         := k.pws.trans h.pws
  cfs         := k.cfs.trans h.cfs
  btg         := k.btg.trans h.btg
  now         := k.now.trans h.now
  temperature := k.temperature.trans h.temperature
  conversions := k.conversions.trans h.conversions
  converting  := k.converting.trans h.converting
  notices     := (k.notices.trans (Nat.add_le_add_right h.notices m)).trans_eq (Nat.add_assoc _ _ _)

theorem StageLeaves.mono {n m : Nat} {s t : State} (h : StageLeaves n s t) (le : n ≤ m) : StageLeaves m s t :=
  { h with notices := Nat.le_trans h.notices (Nat.add_le_add_left le _) }

variable (s : State)

/-- One bridge is not the converter's matter. -/
theorem OneBridge.stage {t : Truck} {s u : State} (h : OneBridge t s u) : StageLeaves 0 s u := by
  rw [h]
  cases t <;> exact ⟨rfl, rfl, rfl, rfl, rfl, rfl, rfl, Nat.le_refl _⟩

/-- A duty handed to a bridge and to ODU is not the converter's matter. -/
theorem handDrive_stage (t : Truck) (duty : Nat) : StageLeaves 0 s (handDrive t duty s) := by
  obtain ⟨frame, bmu, _, _⟩ := handDrive_hands s t duty
  rw [frame, bmu]
  cases t <;> exact ⟨rfl, rfl, rfl, rfl, rfl, rfl, rfl, Nat.le_refl _⟩

/-- A motion state evaluated anew. -/
theorem evaluateMotion_stage : StageLeaves 1 s (evaluateMotion s) := by
  rw [evaluateMotion_eq, (motionBecomes_fanOnly s _).frame]
  unfold motionShown
  refine ⟨rfl, rfl, rfl, rfl, rfl, rfl, rfl, ?_⟩
  dsimp only
  split
  · exact Nat.le_succ _
  · exact push_grows s.hpt _

/-- The end of a slip. -/
theorem endSlip_stage : StageLeaves 1 s (endSlip s) := by
  rcases endSlip_cases s with ⟨_, e⟩ | ⟨t, _, e⟩ <;> rw [e]
  · exact ⟨rfl, rfl, rfl, rfl, rfl, rfl, rfl, Nat.le_succ _⟩
  · exact ⟨rfl, rfl, rfl, rfl, rfl, rfl, rfl, push_grows s.hpt _⟩

/-- Suspension (R61). -/
theorem suspendMotion_stage : StageLeaves 2 s (suspendMotion s) := by
  have stills : StageLeaves 0 s (stilled s) := ⟨rfl, rfl, rfl, rfl, rfl, rfl, rfl, Nat.le_refl _⟩
  have shows : StageLeaves 1 (stilled s) (Spec.motionBecomes .suspended (stilled s)) := by
    have called : Spec.motionOf (stilled s).moc = .suspended := if_pos rfl
    rw [← called, ← evaluateMotion_eq]
    exact evaluateMotion_stage _
  rw [suspendMotion_eq]
  exact (((stills.trans shows).trans (handMode_oneBridge _ .front .coast).stage).trans (handMode_oneBridge _ .rear .coast).stage).trans
    (endSlip_stage _)

/-- The end of suspension (R62). -/
theorem resumeMotion_stage (n : Nat) : StageLeaves 1 s (resumeMotion n s) := by
  have settles : StageLeaves 0 s (resettled n s) := by
    unfold resettled
    split <;> exact ⟨rfl, rfl, rfl, rfl, rfl, rfl, rfl, Nat.le_refl _⟩
  rw [resumeMotion_eq]
  exact ((settles.trans (evaluateMotion_stage _)).trans (handDrive_stage _ .front 0)).trans (handDrive_stage _ .rear 0)

/-- MOC takes a shed stage (R61, R62). -/
theorem motionTakeShed_stage (n : Nat) : StageLeaves 2 s (motionTakeShed n s) := by
  have views : StageLeaves 0 s (onMoc (fun m => { m with shedView := n }) s) := ⟨rfl, rfl, rfl, rfl, rfl, rfl, rfl, Nat.le_refl _⟩
  rcases motionTakeShed_cases n s with ⟨e, _⟩ | ⟨e, _⟩ | ⟨e, _⟩ | ⟨e, _⟩ <;> rw [e]
  · exact (StageLeaves.refl s).mono (Nat.zero_le 2)
  · exact (resumeMotion_stage s n).mono (Nat.le_succ 1)
  · exact suspendMotion_stage s
  · exact (views.trans (evaluateMotion_stage _)).mono (Nat.le_succ 1)

/-- A transition of the smoke state pushes one notice at most (R123). -/
theorem enterSmoke_grows (st : SmokeState) : (enterSmoke st s).hpt.notices.length ≤ s.hpt.notices.length + 1 := by
  by_cases same : st = s.smu.state
  · rw [enterSmoke, if_pos same]
    exact Nat.le_succ _
  · obtain ⟨_, _, _, _, hpt⟩ := enterSmoke_enters same
    rw [hpt]
    exact push_grows s.hpt _

/-- A transition of the smoke state is not BTG's matter. -/
theorem enterSmoke_btg (st : SmokeState) : (enterSmoke st s).btg = s.btg := by
  have heats (n : Nat) (u : State) : (setHeater n u).btg = u.btg := rfl
  have fans (n : Nat) (u : State) : (setFan n u).btg = u.btg := rfl
  simp only [enterSmoke, fanBetween, stopPuff, apply_ite State.btg, heats, fans, onSmu_btg, pushNotice_btg, publish_btg, ite_self]

/-- A transition of the smoke state (R123). -/
theorem enterSmoke_stage (st : SmokeState) : StageLeaves 1 s (enterSmoke st s) := by
  obtain ⟨⟨_, bmu, _, _, pws, cfs, _, now⟩, rcu, _, _⟩ := enterSmoke_stays st s
  exact ⟨pws, cfs, enterSmoke_btg s st, now, (congrArg (fun r => r.views.temperature) rcu :), congrArg Bmu.conversions bmu,
    congrArg Bmu.converting bmu, enterSmoke_grows s st⟩

/-- SMU takes a shed stage (R125). -/
theorem smokeTakeShed_stage (n : Nat) : StageLeaves 1 s (smokeTakeShed n s) := by
  have views : StageLeaves 0 s { s with smu.shedView := n } := ⟨rfl, rfl, rfl, rfl, rfl, rfl, rfl, Nat.le_refl _⟩
  have capped : StageLeaves 0 s (setHeater 127 { s with smu.shedView := n }) := ⟨rfl, rfl, rfl, rfl, rfl, rfl, rfl, Nat.le_refl _⟩
  have enters (st : SmokeState) : StageLeaves 1 s (enterSmoke st { s with smu.shedView := n }) := views.trans (enterSmoke_stage _ st)
  have sees : StageLeaves 1 s { s with smu.shedView := n } := views.mono (Nat.zero_le 1)
  rw [smokeTakeShed_eq]
  split
  · split
    · exact enters _
    · exact sees
  · split
    · split
      · exact enters _
      · exact sees
    · split
      · exact capped.mono (Nat.zero_le 1)
      · exact sees

/-- All consumers take a shed stage (R164). -/
theorem consumeStage_stage (n : Nat) : StageLeaves 3 s (consumeStage n s) := by
  have sound : StageLeaves 0 s { s with ssq := s.ssq.takeShed n } := ⟨rfl, rfl, rfl, rfl, rfl, rfl, rfl, Nat.le_refl _⟩
  have lights (u : State) : StageLeaves 0 u (onLtc (·.takeShed n) u) := ⟨rfl, rfl, rfl, rfl, rfl, rfl, rfl, Nat.le_refl _⟩
  exact ((sound.trans (motionTakeShed_stage _ n)).trans (smokeTakeShed_stage _ n)).trans (lights _)

/-- The stage formed anew is PWS's own only change, and brings four notices at most (R164; log entry 18). -/
theorem formStage_stage : StageLeaves 4 { s with pws.shedStage := s.pws.stageNow } (formStage s) := by
  rcases formStage_cases s with ⟨held, e⟩ | ⟨_, e⟩ <;> rw [e]
  · rw [held]
    exact (StageLeaves.refl s).mono (Nat.zero_le 4)
  · have told : StageLeaves 1 { s with pws.shedStage := s.pws.stageNow } (pushNotice (.shedStage s.pws.stageNow)
        (publish (fun v => { v with shedStage := s.pws.stageNow }) (onPws (fun p => { p with shedStage := s.pws.stageNow }) s))) :=
      ⟨rfl, rfl, rfl, rfl, rfl, rfl, rfl, push_grows s.hpt _⟩
    exact told.trans (consumeStage_stage _ _)

/-- The stage formed anew leaves the power state wherever it is held (R162, R164). -/
theorem formStage_powers :
    (formStage s).rcu.views.powerState = s.rcu.views.powerState ∧ (formStage s).moc.powerView = s.moc.powerView := by
  rcases formStage_cases s with ⟨_, e⟩ | ⟨_, e⟩ <;> rw [e]
  · exact ⟨rfl, rfl⟩
  · have stage := (consumeStage_shifts (pushNotice (.shedStage s.pws.stageNow) (publish (fun v => { v with shedStage := s.pws.stageNow })
      (onPws (fun p => { p with shedStage := s.pws.stageNow }) s))) s.pws.stageNow).1.stage
    exact ⟨(congrArg StageCore.powerRcu stage :), (congrArg StageCore.powerMoc stage :)⟩

end Sys2Proof.Laws
end

section
/-! The supervision comparators (O44). -/

namespace Sys2Proof.Laws

open Sys2Proof.Machine

/-- What PWS shows and holds as it enters HALT (R160, R162, R164). -/
theorem enterHalt_halts (s : State) :
    let t := enterHalt s
    t.pws = { (haltHeld s).pws with shedStage := (haltHeld s).pws.stageNow } ∧ t.rcu.views.powerState = .halt ∧ t.moc.powerView = .halt
    ∧ t.cfs.powerView = .halt := by
  intro t
  have leaves := formStage_stage (pushNotice (.powerState .halt) (haltHeld s))
  obtain ⟨rcu, moc⟩ := formStage_powers (pushNotice (.powerState .halt) (haltHeld s))
  rw [← enterHalt_eq] at leaves rcu moc
  exact ⟨leaves.pws, rcu, moc, congrArg Cfs.powerView leaves.cfs⟩

/-- A comparator's pin takes its voltage, and the comparator is judged by it (R89). -/
theorem exec_comparator {s : State} (released : s.inReset = false) (k : Comparator) (v : Nat) :
    exec (.supervisionComparatorChange k v) s = .next (judgeComparator k (onBmu (·.setPin k v) s)) :=
  whenReleased_runs (f := fun u => judgeComparator k (onBmu (·.setPin k v) u)) released

end Sys2Proof.Laws

namespace Sys2Proof.Record

open Sys2Proof.Machine Sys2Proof.Laws

/-- Settles O44: each comparator as it is judged anew (`judgeComparator_judged`), and a reserve that falls in BRIDGE as HALT is entered
(`enterHalt_halts`). -/
theorem comparatorsReachThePower : Obligations.ComparatorsReachThePower := by
  intro s v released runs
  have judged (k : Comparator) (stays : ¬(k = .capReserve ∧ Spec.reserveFalls (onBmu (·.setPin k v) s) = true)) :
      exec (.supervisionComparatorChange k v) s = .next (Spec.judgedAnew k (onBmu (·.setPin k v) s)) := by
    rw [exec_comparator released, judgeComparator_judged _ k stays]
  have runsOn : ¬s.bmu.running = false := by simp [runs]
  refine ⟨?_, ?_, fun stays => ?_, fun bridge low high => ?_, ?_⟩
  · rw [judged .trackPresent (by simp)]
    exact congrArg Host.Outcome.next (if_neg runsOn)
  · rw [judged .trackSag (by simp)]
    refine congrArg Host.Outcome.next ((if_neg runsOn).trans ?_)
    by_cases run : s.pws.powerState = .run
    · simp only [run, onBmu, Bmu.setPin, decide_true, if_true]
      rfl
    · simp only [run, onBmu, Bmu.setPin, decide_false, if_false]
      rfl
  · have outside : ¬(Comparator.capReserve = .capReserve ∧ Spec.reserveFalls (onBmu (·.setPin .capReserve v) s) = true) := by
      rintro ⟨-, falls⟩
      obtain ⟨_, _, low, bridge⟩ := (reserveFalls_iff _).mp falls
      rcases stays with other | high
      · exact other bridge
      · exact absurd (high.symm.trans low) nofun
    rw [judged .capReserve outside]
    refine congrArg Host.Outcome.next ((if_neg runsOn).trans ?_)
    have read : Spec.outputNow .capReserve (onBmu (·.setPin .capReserve v) s)
        = Spec.compared (500 + 50 * s.cfs.working.capReserveLevel.val) 10 v s.bmu.capReserve := rfl
    dsimp only
    rw [read]
    by_cases same : Spec.compared (500 + 50 * s.cfs.working.capReserveLevel.val) 10 v s.bmu.capReserve = s.bmu.capReserve
    · rw [if_pos same, same]
      exact congrArg (fun b => { s with bmu.capPin := v, pws.reserveView := b }) (if_pos rfl)
    · rw [if_neg same]
      exact congrArg (fun b => { s with
        bmu.capPin := v, bmu.capReserve := Spec.compared (500 + 50 * s.cfs.working.capReserveLevel.val) 10 v s.bmu.capReserve
        pws.reserveView := b }) (if_neg same)
  · have falls : Spec.reserveFalls (onBmu (·.setPin .capReserve v) s) = true := (reserveFalls_iff _).mpr ⟨runs, high, low, bridge⟩
    refine ⟨_, exec_comparator released .capReserve v, ?_⟩
    rw [reserve_falls _ falls]
    obtain ⟨pws, rcu, moc, cfs⟩ := enterHalt_halts { onBmu (·.setPin .capReserve v) s with bmu.capReserve := false, pws.reserveView := false }
    rw [pws]
    exact ⟨rfl, rfl, rfl, rcu, moc, cfs, rfl, rfl⟩
  · rw [judged .capResume (by simp)]
    exact congrArg Host.Outcome.next (if_neg runsOn)

end Sys2Proof.Record
end

section
/-! SUPPORT. The conversion list, and the MEASUREs that a conversion completes (R83, R86, R87). -/

namespace Sys2Proof.Laws

open Sys2Proof.Machine

/-! ## The conversion list (R83) -/

/-- Channels appended one after the other are appended together. -/
theorem listed_append (a b : List Channel) (now : Time) (m : Bmu) :
    Spec.listed b now (Spec.listed a now m) = Spec.listed (a ++ b) now m := by
  unfold Spec.listed
  cases busy : m.converting with
  | some x => simp [List.append_assoc]
  | none =>
    rw [← List.append_assoc]
    cases all : m.conversions ++ a with
    | nil => simp
    | cons c rest => simp

/-- A channel appended makes the list one longer at most. -/
theorem listed_length (c : Channel) (now : Time) (m : Bmu) : (Spec.listed [c] now m).conversions.length ≤ m.conversions.length + 1 := by
  unfold Spec.listed
  split
  next first rest _ list =>
    have := congrArg List.length list
    simp only [List.length_append, List.length_cons, List.length_nil] at this
    dsimp only
    omega
  next => simp

/-- A channel appended to a list with room (R83). -/
theorem appendChannel_listed (c : Channel) {s : State} (room : s.bmu.conversions.length < 8) :
    appendChannel c s = { s with bmu := Spec.listed [c] s.now s.bmu } := by
  unfold appendChannel startConversion Spec.listed
  rw [if_pos (by exact room)]
  dsimp only
  cases s.bmu.converting with
  | some x => rfl
  | none =>
    cases s.bmu.conversions ++ [c] with
    | nil => rfl
    | cons first rest => rfl

/-- A converter that ends takes the oldest channel of the list (R83). -/
theorem startConversion_next {s : State} (idle : s.bmu.converting = none) :
    (startConversion s).bmu.conversions = s.bmu.conversions.drop 1
    ∧ (startConversion s).bmu.converting = (match s.bmu.conversions with
        | [] => none
        | c :: _ => some (c, s.now + 160))
    ∧ (startConversion s).bmu.slots = s.bmu.slots := by
  unfold startConversion
  rw [idle]
  cases list : s.bmu.conversions with
  | nil => exact ⟨list, idle, rfl⟩
  | cons c rest => exact ⟨rfl, rfl, rfl⟩

/-! ## The MEASUREs (R86, R87) -/

/-- The MEASUREs that wait on after a conversion. -/
theorem waiting_eq (value : Channel → Option Int) (slots : List SpotSlot) :
    (slots.filter fun x => !x.completes value).map (SpotSlot.passed value) = Spec.waiting value slots := by
  induction slots with
  | nil => rfl
  | cons y rest ih =>
    unfold Spec.waiting at ih ⊢
    rw [List.filterMap_cons, List.filter_cons, ← ih]
    cases v : value y.channel with
    | none => simp [SpotSlot.completes, SpotSlot.passed, v]
    | some x => cases skip : y.skipCurrent <;> simp [SpotSlot.completes, SpotSlot.passed, v, skip]

/-- The MEASUREs that a conversion completes, one after the other. -/
theorem completed_eq (value : Channel → Option Int) (slots : List SpotSlot) (s : State) :
    Spec.completed value slots s = (slots.filter (SpotSlot.completes value)).foldl
      (fun s x => pushCompletion .measure x.tag .done (BitVec.ofInt 16 ((value x.channel).getD 0)) s) s := by
  induction slots generalizing s with
  | nil => rfl
  | cons y rest ih =>
    rw [Spec.completed, ih, List.filter_cons]
    cases v : value y.channel with
    | none => simp [SpotSlot.completes, v]
    | some x =>
      cases skip : y.skipCurrent with
      | true => simp [SpotSlot.completes, v, skip]
      | false =>
        simp only [SpotSlot.completes, v, skip, Option.isSome_some, Bool.not_false, Bool.and_self, if_true, List.foldl_cons, Option.getD_some]
        rfl

/-- COMPLETIONs are HPT's matter, and no other part of the state tells on them. -/
theorem completions_hpt (f : SpotSlot → Word16) (done : List SpotSlot) (s : State) :
    done.foldl (fun s x => pushCompletion .measure x.tag .done (f x) s) s
      = { s with hpt := (done.foldl (fun s x => pushCompletion .measure x.tag .done (f x) s) s).hpt }
    ∧ ∀ u : State, u.hpt = s.hpt →
      (done.foldl (fun s x => pushCompletion .measure x.tag .done (f x) s) u).hpt
        = (done.foldl (fun s x => pushCompletion .measure x.tag .done (f x) s) s).hpt := by
  induction done generalizing s with
  | nil => exact ⟨rfl, fun _ same => same⟩
  | cons y rest ih =>
    obtain ⟨frame, same⟩ := ih (pushCompletion .measure y.tag .done (f y) s)
    exact ⟨frame, fun u alike => same _ (congrArg (fun h : Hpt =>
      { h.push (.completion y.tag .done (f y)) with slots := (h.push (.completion y.tag .done (f y))).slots.erase ⟨.measure, y.tag⟩ }) alike)⟩

/-- The queue after COMPLETIONs turns on the queue before them alone. -/
theorem completed_congr (value : Channel → Option Int) (slots : List SpotSlot) {s u : State} (same : u.hpt = s.hpt) :
    (Spec.completed value slots u).hpt = (Spec.completed value slots s).hpt := by
  rw [completed_eq, completed_eq]
  exact (completions_hpt _ _ s).2 u same

/-- A conversion's values complete the MEASUREs that wait on them, and the others wait on (R86, R87). -/
theorem completeSlots_eq (value : Channel → Option Int) (s : State) :
    completeSlots value s = { s with
      bmu.slots := Spec.waiting value s.bmu.slots, hpt := (Spec.completed value s.bmu.slots s).hpt } := by
  have through : completeSlots value s = Spec.completed value s.bmu.slots { s with bmu.slots := Spec.waiting value s.bmu.slots } := by
    rw [completed_eq, ← waiting_eq]
    rfl
  have frame := (completions_hpt (fun x => BitVec.ofInt 16 ((value x.channel).getD 0)) (s.bmu.slots.filter (SpotSlot.completes value))
    { s with bmu.slots := Spec.waiting value s.bmu.slots }).1
  rw [← completed_eq] at frame
  have same := completed_congr (s := s) (u := { s with bmu.slots := Spec.waiting value s.bmu.slots }) value s.bmu.slots rfl
  exact through.trans (frame.trans (congrArg (fun h => { s with bmu.slots := Spec.waiting value s.bmu.slots, hpt := h }) same))

/-- The deferred slots that COMPLETIONs leave turn on the slots before them alone (R186). -/
theorem completed_slots (value : Channel → Option Int) (slots : List SpotSlot) (s : State) :
    (Spec.completed value slots s).hpt.slots = eraseMeasures (slots.filter (SpotSlot.completes value)) s.hpt.slots := by
  rw [completed_eq]
  exact congrArg QueueCore.slots (queue_completions s _ _)

/-- COMPLETIONs that find room stand at the end of the queue, in their order (R187). -/
theorem completions_last (f : SpotSlot → Word16) (done : List SpotSlot) (s : State) (room : s.hpt.notices.length + done.length ≤ 16) :
    (done.foldl (fun s x => pushCompletion .measure x.tag .done (f x) s) s).hpt.notices
      = s.hpt.notices ++ done.map fun y => Notice.completion y.tag .done (f y) := by
  induction done generalizing s with
  | nil => simp
  | cons y rest ih =>
    have fits : s.hpt.notices.length < 16 := by
      rw [List.length_cons] at room
      omega
    have pushed : (pushCompletion .measure y.tag .done (f y) s).hpt.notices = s.hpt.notices ++ [.completion y.tag .done (f y)] := by
      show (s.hpt.push _).notices = _
      rw [Hpt.push, if_pos (by exact fits)]
    rw [List.foldl_cons, ih _ (by rw [pushed, List.length_append, List.length_singleton]; rw [List.length_cons] at room; omega), pushed]
    simp

/-- The last elements of a list. -/
theorem last_of_append {α : Type} (a b : List α) : (((a ++ b).reverse).take b.length).reverse = b := by
  rw [List.reverse_append, List.take_append_of_le_length (by simp), ← List.length_reverse, List.take_length, List.reverse_reverse]

end Sys2Proof.Laws
end

section
/-! SUPPORT. What a measurement of an output leaves (R173, R174), and what the consumers of a conversion leave (R84, R85). -/

namespace Sys2Proof.Laws

open Sys2Proof.Machine

/-- A measurement moves ODU alone, or publishes a record in state OK with OPEN cleared (R173, R174). -/
theorem takeMeasurement_cases (o : Output) (current : Nat) (s : State) :
    (∃ d, takeMeasurement o current s = { s with odu := d })
    ∨ (s.odu.watch o).record.state = .ok ∧ takeMeasurement o current s =
        publishFault o (mapWatch o (fun w => { w with record := { w.record with opened := false } }) s) := by
  unfold takeMeasurement
  dsimp only
  by_cases ok : (s.odu.watch o).record.state = .ok
  · rw [if_neg (not_not.mpr ok)]
    split
    · split
      · exact .inr ⟨ok, rfl⟩
      · exact .inl ⟨_, rfl⟩
    · split
      · split
        · exact .inl ⟨_, rfl⟩
        · exact .inl ⟨_, rfl⟩
      · exact .inl ⟨_, rfl⟩
  · rw [if_pos ok]
    exact .inl ⟨_, rfl⟩

/-- The blocks that a measurement of an output other than a truck leaves. -/
structure MeasureStays (s t : State) : Prop where
  moc     : t.moc = s.moc
  bmu     : t.bmu = s.bmu
  btg     : t.btg = s.btg
  pws     : t.pws = s.pws
  cfs     : t.cfs = s.cfs
  now     : t.now = s.now
  results : t.smu.results = s.smu.results

theorem MeasureStays.trans {s t u : State} (h : MeasureStays s t) (k : MeasureStays t u) : MeasureStays s u :=
  ⟨k.moc.trans h.moc, k.bmu.trans h.bmu, k.btg.trans h.btg, k.pws.trans h.pws, k.cfs.trans h.cfs, k.now.trans h.now,
    k.results.trans h.results⟩

variable (s : State)

/-- A transition of the smoke state leaves the results of the tank's sensor. -/
theorem enterSmoke_results (st : SmokeState) : (enterSmoke st s).smu.results = s.smu.results := by
  have heats (n : Nat) (u : State) : (setHeater n u).smu.results = u.smu.results := rfl
  have fans (n : Nat) (u : State) : (setFan n u).smu.results = u.smu.results := rfl
  simp only [enterSmoke, fanBetween, stopPuff, apply_ite (fun u : State => u.smu.results), heats, fans, onSmu_smu, pushNotice_smu,
    publish_smu, ite_self]

theorem enterSmoke_measureStays (st : SmokeState) : MeasureStays s (enterSmoke st s) := by
  obtain ⟨⟨moc, bmu, _, _, pws, cfs, _, now⟩, _, _, _⟩ := enterSmoke_stays st s
  exact ⟨moc, bmu, enterSmoke_btg s st, pws, cfs, now, enterSmoke_results s st⟩

/-- The consumers of a record of an output other than a truck leave the drive (R169). -/
theorem consumeRecord_stays {o : Output} (other : ∀ x, o ≠ .truck x) (r : FaultRecord) : MeasureStays s (consumeRecord o r s) := by
  have views : MeasureStays s (onSmu (fun u => { u with faultView := r.state, shortView := r.shorted }) s) :=
    ⟨rfl, rfl, rfl, rfl, rfl, rfl, rfl⟩
  cases o with
  | truck x => exact absurd rfl (other x)
  | heater =>
    unfold consumeRecord smokeTakeFault
    dsimp only
    split
    · exact views.trans (enterSmoke_measureStays _ _)
    · split
      · exact views.trans (enterSmoke_measureStays _ _)
      · exact views
  | fan => exact ⟨rfl, rfl, rfl, rfl, rfl, rfl, rfl⟩
  | light n => exact ⟨rfl, rfl, rfl, rfl, rfl, rfl, rfl⟩

/-- A record published leaves the drive, where it is not a truck's. -/
theorem publishRecord_stays {o : Output} (other : ∀ x, o ≠ .truck x) : MeasureStays s (publishRecord o s) :=
  .trans (t := publish (fun v => { v with faults := v.faults.set (outputIndex o) (s.odu.watch o).record }) s)
    ⟨rfl, rfl, rfl, rfl, rfl, rfl, rfl⟩ (consumeRecord_stays _ other _)

/-- The publication of the summary is ODU's, RCU's and RIF's matter (R6, R169). -/
theorem publishSummary_frame :
    publishSummary s = { s with odu := (publishSummary s).odu, rif := (publishSummary s).rif, rcu := (publishSummary s).rcu } := by
  rcases publishSummary_cases s with ⟨_, e⟩ | ⟨_, e⟩ <;> rw [e]

theorem publishSummary_measureStays : MeasureStays s (publishSummary s) := by
  rw [publishSummary_frame]
  exact ⟨rfl, rfl, rfl, rfl, rfl, rfl, rfl⟩

/-- A measurement of an output other than a truck leaves the drive (R173, R174). -/
theorem takeMeasurement_stays {o : Output} (other : ∀ x, o ≠ .truck x) (current : Nat) : MeasureStays s (takeMeasurement o current s) := by
  rcases takeMeasurement_cases o current s with ⟨d, e⟩ | ⟨_, e⟩ <;> rw [e]
  · exact ⟨rfl, rfl, rfl, rfl, rfl, rfl, rfl⟩
  · refine .trans ?_ (publishSummary_measureStays _)
    exact .trans (t := mapWatch o (fun w => { w with record := { w.record with opened := false } }) s)
      ⟨rfl, rfl, rfl, rfl, rfl, rfl, rfl⟩ (publishRecord_stays _ other)

/-- What every consumer of a conversion leaves (R83 to R85). -/
structure ResultLeaves (s t : State) : Prop where
  cfs         : t.cfs = s.cfs
  btg         : t.btg = s.btg
  now         : t.now = s.now
  conversions : t.bmu.conversions = s.bmu.conversions
  converting  : t.bmu.converting = s.bmu.converting

theorem MeasureStays.leaves {s t : State} (h : MeasureStays s t) : ResultLeaves s t :=
  ⟨h.cfs, h.btg, h.now, congrArg Bmu.conversions h.bmu, congrArg Bmu.converting h.bmu⟩

/-- PWS and RCU with a DIE_T result, before the stage is formed (R167). -/
def dieTaken (v : Int) (s : State) : State :=
  { s with
    pws.temperature := some v, pws.dieReport := true, pws.thermalPart := thermalPartOf s.pws.thermalPart v s.cfg.thermalWarning
    rcu.views.temperature := v }

theorem powerTakeDie_eq (v : Int) : powerTakeDie v s = formStage (dieTaken v s) := rfl

/-- PWS takes a DIE_T result (R167). -/
theorem powerTakeDie_takes (v : Int) :
    ResultLeaves s (powerTakeDie v s) ∧ (powerTakeDie v s).rcu.views.temperature = v ∧ (powerTakeDie v s).pws.dieReport = true
    ∧ (powerTakeDie v s).pws.temperature = some v ∧ (powerTakeDie v s).hpt.notices.length ≤ s.hpt.notices.length + 4 := by
  obtain ⟨pws, cfs, btg, now, temperature, conversions, converting, notices⟩ := formStage_stage (dieTaken v s)
  rw [powerTakeDie_eq, pws]
  exact ⟨⟨cfs, btg, now, conversions, converting⟩, temperature, rfl, rfl, notices⟩

/-- What the consumers of a channel leave: all of them (R83 to R85), and those of a channel other than DIE_T, with the results where it is not
HEATER_T. -/
theorem consumeResult_leaves (c : Channel) (v : Int) :
    ResultLeaves s (consumeResult c v s)
    ∧ (c ≠ .dieT → (consumeResult c v s).moc = s.moc ∧ (consumeResult c v s).pws = s.pws)
    ∧ (c ≠ .dieT → c ≠ .heaterT → (consumeResult c v s).smu.results = s.smu.results) := by
  have measured {o : Output} (other : ∀ x, o ≠ .truck x) (n : Nat) : ResultLeaves s (takeMeasurement o n s)
      ∧ (c ≠ .dieT → (takeMeasurement o n s).moc = s.moc ∧ (takeMeasurement o n s).pws = s.pws)
      ∧ (c ≠ .dieT → c ≠ .heaterT → (takeMeasurement o n s).smu.results = s.smu.results) := by
    have stays := takeMeasurement_stays s other n
    exact ⟨stays.leaves, fun _ => ⟨stays.moc, stays.pws⟩, fun _ _ => stays.results⟩
  cases c with
  | heaterI => exact measured (o := .heater) nofun _
  | fanI => exact measured (o := .fan) nofun _
  | lightI n => exact measured (o := .light n) nofun _
  | dieT => exact ⟨(powerTakeDie_takes s v).1, fun die => absurd rfl die, fun die => absurd rfl die⟩
  | heaterT => exact ⟨⟨rfl, rfl, rfl, rfl, rfl⟩, fun _ => ⟨rfl, rfl⟩, fun _ tank => absurd rfl tank⟩
  | _ => exact ⟨⟨rfl, rfl, rfl, rfl, rfl⟩, fun _ => ⟨rfl, rfl⟩, fun _ _ => rfl⟩

/-- The consumers of a channel other than DIE_T push no notice, where the smoke state is SmokeInv's (R174). -/
theorem consumeResult_hpt {c : Channel} (die : c ≠ .dieT) (v : Int) (inv : SmokeInv s) : (consumeResult c (c.clamp v) s).hpt = s.hpt := by
  have measured {o : Output} (n : Nat) : (takeMeasurement o n s).hpt = s.hpt := by
    obtain ⟨⟨_, _, _, hpt⟩, _⟩ := takeMeasurement_measured s o n (fun heater => heater ▸ heater_cold inv)
    exact hpt
  cases c with
  | heaterI => exact measured (o := .heater) _
  | fanI => exact measured (o := .fan) _
  | lightI n => exact measured (o := .light n) _
  | dieT => exact absurd rfl die
  | _ => rfl

end Sys2Proof.Laws
end

section
/-! The conversion list and its results (O42). -/

namespace Sys2Proof.Laws

open Sys2Proof.Machine

/-- A quantity taken in its channel's range (4.6). -/
theorem clamp_eq (c : Channel) (value : Int) : c.clamp value = Spec.measured c value := by
  have clamp (low high : Int) (order : low ≤ high) : clampInt value low high = max low (min high value) := Record.clampInt_eq _ _ _ order
  have order : c.range.1 ≤ c.range.2 := by cases c <;> norm_num [Channel.range]
  cases c <;> exact clamp _ _ order

/-- The value that a conversion gives to its own channel alone. -/
def given (c : Channel) (v : Int) (k : Channel) : Option Int := if k = c then some v else none

/-- A MEASURE is completed by the conversion of its channel that it was not to skip. -/
theorem completes_given (c : Channel) (v : Int) (y : SpotSlot) : y.completes (given c v) = (decide (y.channel = c) && !y.skipCurrent) := by
  unfold SpotSlot.completes given
  by_cases own : y.channel = c <;> simp [own]

/-- The consumers of a conversion push four notices at most (log entry 18). -/
theorem consumeResult_grows (c : Channel) (v : Int) (s : State) : (consumeResult c v s).hpt.notices.length ≤ s.hpt.notices.length + 4 := by
  have measured (o : Output) (n : Nat) : (takeMeasurement o n s).hpt.notices.length ≤ s.hpt.notices.length + 4 := by
    rcases takeMeasurement_cases o n s with ⟨d, e⟩ | ⟨_, e⟩ <;> rw [e]
    · exact Nat.le_add_right _ _
    · exact (publishFault_published _ o).grows.trans (Nat.add_le_add_left (by decide) _)
  cases c with
  | heaterI => exact measured .heater _
  | fanI => exact measured .fan _
  | lightI n => exact measured (.light n) _
  | dieT => exact (powerTakeDie_takes s v).2.2.2.2
  | _ => exact Nat.le_add_right _ _

/-- The consumers of a conversion leave the MEASUREs and the deferred slots (R86). -/
theorem consumeResult_slots (c : Channel) (v : Int) (s : State) :
    (consumeResult c v s).bmu.slots = s.bmu.slots ∧ (consumeResult c v s).hpt.slots = s.hpt.slots := by
  have core := queue_consumeResult s c v
  exact ⟨(congrArg QueueCore.measures core :), (congrArg QueueCore.slots core :)⟩

/-- The consumers of a conversion have taken its value from an idle converter (R83). -/
def consumed (c : Channel) (value : Int) (s : State) : State :=
  consumeResult c (Spec.measured c value) (onBmu (fun m => { m with converting := none }) s)

/-- The end of a conversion after its consumers: its MEASUREs, and the next channel (R83, R87). -/
theorem endConversion_ends (c : Channel) (value : Int) (s : State) :
    let t := endConversion c value s
    let w := consumed c value s
    t = { w with bmu := t.bmu, hpt := (Spec.completed (given c (Spec.measured c value)) s.bmu.slots w).hpt }
    ∧ t.bmu.conversions = s.bmu.conversions.drop 1
    ∧ t.bmu.converting = (match s.bmu.conversions with
        | [] => none
        | k :: _ => some (k, s.now + 160))
    ∧ t.bmu.slots = Spec.waiting (given c (Spec.measured c value)) s.bmu.slots := by
  intro t w
  have ends : t = startConversion (completeSlots (given c (Spec.measured c value)) w) := by
    show endConversion c value s = startConversion (completeSlots (given c (Spec.measured c value)) (consumed c value s))
    unfold consumed
    rw [← clamp_eq]
    rfl
  obtain ⟨leaves, _⟩ := consumeResult_leaves (onBmu (fun m => { m with converting := none }) s) c (Spec.measured c value)
  have slots : w.bmu.slots = s.bmu.slots := (consumeResult_slots c _ _).1
  have conversions : w.bmu.conversions = s.bmu.conversions := leaves.conversions
  have now : w.now = s.now := leaves.now
  have completes := completeSlots_eq (given c (Spec.measured c value)) w
  obtain ⟨list, next, waits⟩ := startConversion_next (s := completeSlots (given c (Spec.measured c value)) w)
    (by rw [completes]; exact leaves.converting)
  have frame := startConversion_bmu (completeSlots (given c (Spec.measured c value)) w)
  rw [← ends] at list next waits frame
  rw [slots] at completes
  rw [completes] at list next waits
  dsimp only at list next waits
  rw [conversions] at list next
  rw [now] at next
  refine ⟨frame.trans ?_, list, next, waits⟩
  rw [completes]

/-- The COMPLETIONs of a conversion that find room are the last notices (R87; log entry 18). -/
theorem completed_last (c : Channel) (v : Int) (slots : List SpotSlot) (u : State) (room : u.hpt.notices.length ≤ 12)
    (few : slots.length ≤ 4) :
    let last := (slots.filter fun y => decide (y.channel = c) && !y.skipCurrent).map fun y =>
      Notice.completion y.tag .done (BitVec.ofInt 16 v)
    ((Spec.completed (given c v) slots u).hpt.notices.reverse.take last.length).reverse = last := by
  intro last
  have fewer : (slots.filter (SpotSlot.completes (given c v))).length ≤ slots.length := List.length_filter_le _ _
  have values : (slots.filter (SpotSlot.completes (given c v))).map (fun y => Notice.completion y.tag .done
      (BitVec.ofInt 16 ((given c v y.channel).getD 0))) = last := by
    have same : SpotSlot.completes (given c v) = fun y => decide (y.channel = c) && !y.skipCurrent := funext (completes_given c v)
    rw [same]
    refine List.map_congr_left fun y mem => ?_
    obtain ⟨own, _⟩ := Bool.and_eq_true_iff.mp (List.mem_filter.mp mem).2
    rw [given, if_pos (of_decide_eq_true own), Option.getD_some]
  rw [completed_eq, completions_last _ _ u (by omega), values]
  exact last_of_append _ _

end Sys2Proof.Laws

namespace Sys2Proof.Record

open Sys2Proof.Machine Sys2Proof.Laws

/-- A smoke tick lists its three channels (R85). -/
theorem smokeTick_lists {s : State} (released : s.inReset = false) {due : Time} (runs : s.smu.tickTimer = .running due)
    (room : s.bmu.conversions.length ≤ 5) :
    exec .smokeTick s = .next { s with
      now := max s.now due, smu.tickTimer := .running (due + 1600000)
      bmu := Spec.listed [.heaterT, .heaterI, .fanI] (max s.now due) s.bmu } := by
  have e : exec .smokeTick s = _ := whenReleased_expires released runs
  have one := listed_length .heaterT (max s.now due) s.bmu
  have two := listed_length .heaterI (max s.now due) (Spec.listed [.heaterT] (max s.now due) s.bmu)
  rw [e]
  dsimp only [reach_smu]
  rw [runs, appendChannel_listed .heaterT (by exact Nat.lt_of_le_of_lt room (by decide)),
    appendChannel_listed .heaterI (by dsimp only [reach_bmu, reach_now]; omega), appendChannel_listed .fanI (by dsimp only [reach_bmu, reach_now]; omega)]
  dsimp only [reach_bmu, reach_now]
  rw [listed_append, listed_append]
  rfl

/-- A die-timer expiry lists DIE_T (R84). -/
theorem dieTimer_lists {s : State} (released : s.inReset = false) {due : Time} (runs : s.bmu.dieTimer = .running due)
    (room : s.bmu.conversions.length ≤ 7) :
    exec .dieTimerExpiry s = .next { s with
      now := max s.now due
      bmu := Spec.listed [.dieT] (max s.now due) { s.bmu with dieTimer := .running (due + 1600000) } } := by
  have e : exec .dieTimerExpiry s = _ := whenReleased_expires released runs
  rw [e]
  dsimp only [reach_bmu]
  rw [runs, appendChannel_listed .dieT (by exact Nat.lt_of_le_of_lt room (by decide))]
  rfl

/-- The end of a conversion, at its time (R83 to R87). -/
theorem conversion_serves (c : Channel) (due : Time) (value : Int) (s : State) :
    let t := endConversion c value (s.reach due)
    let v := Spec.measured c value
    t.now = max s.now due
    ∧ t.bmu.conversions = s.bmu.conversions.drop 1
    ∧ t.bmu.converting = (match s.bmu.conversions with
        | [] => none
        | k :: _ => some (k, max s.now due + 160))
    ∧ (c = .heaterT → t.smu = { s.smu with results := s.smu.results ++ [v.toNat] })
    ∧ (c ≠ .heaterT → c ≠ .dieT → t.smu.results = s.smu.results ∧ t.moc = s.moc ∧ t.pws = s.pws)
    ∧ (c = .dieT → t.rcu.views.temperature = v ∧ t.pws.dieReport = true ∧ t.pws.temperature = some v)
    ∧ (let done := Spec.completed (given c v) s.bmu.slots s
      let last := (s.bmu.slots.filter fun y => decide (y.channel = c) && !y.skipCurrent).map fun y =>
        Notice.completion y.tag .done (BitVec.ofInt 16 v)
      t.bmu.slots = Spec.waiting (given c v) s.bmu.slots ∧ t.hpt.slots = done.hpt.slots
      ∧ (c ≠ .dieT → SmokeInv s → t.hpt = done.hpt)
      ∧ (s.hpt.notices.length ≤ 8 → s.bmu.slots.length ≤ 4 → (t.hpt.notices.reverse.take last.length).reverse = last))
    ∧ t.rcu.targetNotch = s.rcu.targetNotch ∧ t.rcu.holder = s.rcu.holder ∧ t.cfs = s.cfs ∧ t.btg = s.btg := by
  intro t v
  obtain ⟨frame, conversions, converting, waits⟩ := endConversion_ends c value (s.reach due)
  have core : driveCore t = driveCore s := core_endConversion (s.reach due) c value
  obtain ⟨leaves, drive, results⟩ := consumeResult_leaves (onBmu (fun m => { m with converting := none }) (s.reach due)) c v
  have held : (consumed c value (s.reach due)).hpt.slots = s.hpt.slots := (consumeResult_slots c _ _).2
  have grows : (consumed c value (s.reach due)).hpt.notices.length ≤ s.hpt.notices.length + 4 := consumeResult_grows c _ _
  have tank : t.smu = (consumed c value (s.reach due)).smu := (congrArg State.smu frame :)
  have hpt : t.hpt = (Spec.completed (given c v) s.bmu.slots (consumed c value (s.reach due))).hpt := (congrArg State.hpt frame :)
  have power : t.pws = (consumed c value (s.reach due)).pws := (congrArg State.pws frame :)
  refine ⟨(congrArg State.now frame).trans leaves.now, conversions, converting, ?_, fun heater die => ?_, ?_, ⟨waits, ?_, fun die inv => ?_, fun room few => ?_⟩,
    congrArg DriveCore.targetNotch core, congrArg DriveCore.holder core, (congrArg State.cfs frame).trans leaves.cfs,
    (congrArg State.btg frame).trans leaves.btg⟩
  · rintro rfl
    exact tank
  · obtain ⟨moc, pws⟩ := drive die
    exact ⟨(congrArg Smu.results tank).trans (results die heater), (congrArg State.moc frame).trans moc, power.trans pws⟩
  · rintro rfl
    obtain ⟨_, temperature, report, holds, _⟩ := powerTakeDie_takes (onBmu (fun m => { m with converting := none }) (s.reach due)) v
    exact ⟨(congrArg (fun u : State => u.rcu.views.temperature) frame).trans temperature, (congrArg Pws.dieReport power).trans report,
      (congrArg Pws.temperature power).trans holds⟩
  · rw [hpt, completed_slots, completed_slots, held]
  · rw [hpt]
    refine completed_congr _ _ ?_
    have same := consumeResult_hpt (onBmu (fun m => { m with converting := none }) (s.reach due)) die value { inv with }
    rw [clamp_eq] at same
    exact same
  · rw [hpt]
    exact completed_last c v s.bmu.slots _ (by omega) few

/-- Settles O42: what is listed by the list's own lemmas (`smokeTick_lists`, `dieTimer_lists`), and what a result reaches by
`conversion_serves`. -/
theorem conversionsServeTheirChannels : Obligations.ConversionsServeTheirChannels := by
  intro s released
  refine ⟨fun due runs room => smokeTick_lists released runs room, fun due runs room => dieTimer_lists released runs room,
    fun idle value => ?_, fun x converts value => ?_⟩
  · have e : execConversionEnd value s = _ := whenReleased_runs released
    rw [show exec (.conversionEnd value) s = execConversionEnd value s from rfl, e, idle]
  · obtain ⟨c, due⟩ := x
    have e : execConversionEnd value s = _ := whenReleased_runs released
    rw [converts] at e
    refine ⟨endConversion c value (s.reach due), e, ?_⟩
    exact conversion_serves c due value s

end Sys2Proof.Record
end

section
/-! The gap (O41). -/

namespace Sys2Proof.Laws

open Sys2Proof.Machine

/-- ODU, and RIF and RCU with what they show of it, alone have moved. -/
def Recorded (s t : State) : Prop := t = { s with odu := t.odu, rif := t.rif, rcu := t.rcu }

theorem Recorded.trans {s t u : State} (h : Recorded s t) (k : Recorded t u) : Recorded s u := by
  unfold Recorded at *
  rw [k, h]

variable (s : State)

/-- A regulator that holds OK takes it without a change (R65). -/
theorem takeFault_ok {x : TruckControl} (ok : x.faultView = .ok) : x.takeFault .ok = x := by
  simp [TruckControl.takeFault, ← ok]

/-- MOC and BTG take a record in state OK that they hold already (R65, R91). -/
theorem truck_takes_ok {x : Truck} (view : (s.moc.truck x).faultView = .ok) (held : heldBy s.btg x = false) {r : FaultRecord}
    (ok : r.state = .ok) : consumeRecord (.truck x) r s = s := by
  have moc : s.moc.mapTruck x (·.takeFault .ok) = s.moc := by
    cases x with
    | front => exact congrArg (fun f => { s.moc with front := f }) (takeFault_ok view)
    | rear => exact congrArg (fun f => { s.moc with rear := f }) (takeFault_ok view)
  have motion : motionTakeFault x .ok s = s := congrArg (fun m => { s with moc := m }) moc
  show beatsTakeFault x r.state (motionTakeFault x r.state s) = s
  rw [ok, motion]
  cases x with
  | front => exact congrArg (fun h => { s with btg.heldF := h }) (show false = s.btg.heldF from held.symm)
  | rear => exact congrArg (fun h => { s with btg.heldR := h }) (show false = s.btg.heldR from held.symm)

/-- The publication of a truck's record in state OK that MOC and BTG hold already (R169). -/
theorem truck_publishes_ok {x : Truck} (view : (s.moc.truck x).faultView = .ok) (held : heldBy s.btg x = false)
    (ok : (s.odu.watch (.truck x)).record.state = .ok) : Recorded s (publishFault (.truck x) s) := by
  show Recorded s (publishSummary (consumeRecord (.truck x) (s.odu.watch (.truck x)).record (publish _ s)))
  rw [truck_takes_ok (publish _ s) view held ok, publishSummary_frame]
  rfl

/-- A measurement of a truck whose record MOC and BTG hold is ODU's matter (R173, R174). -/
theorem truck_recorded {x : Truck} (view : (s.moc.truck x).faultView = (s.odu.watch (.truck x)).record.state)
    (held : heldBy s.btg x = s.heldOff (.truck x)) (current : Nat) : Recorded s (takeMeasurement (.truck x) current s) := by
  rcases takeMeasurement_cases (.truck x) current s with ⟨d, e⟩ | ⟨ok, e⟩ <;> rw [e]
  · rfl
  · have off : s.heldOff (.truck x) = false := by
      unfold State.heldOff
      rw [ok]
      rfl
    obtain ⟨mine, _⟩ := mapWatch_watch (.truck x) (fun w => { w with record := { w.record with opened := false } }) s
    have clean : ((mapWatch (.truck x) (fun w => { w with record := { w.record with opened := false } }) s).odu.watch (.truck x)).record.state = .ok := by
      rw [mine]
      exact ok
    exact Recorded.trans (t := mapWatch (.truck x) (fun w => { w with record := { w.record with opened := false } }) s) rfl
      (truck_publishes_ok _ (view.trans ok) (held.trans off) clean)

/-- The trucks of a gap sample, measured one after the other, are ODU's matter, where MOC and BTG hold their records (R80). -/
theorem trucks_recorded (view : ∀ x, (s.moc.truck x).faultView = (s.odu.watch (.truck x)).record.state)
    (held : ∀ x, heldBy s.btg x = s.heldOff (.truck x)) (front rear : Nat) :
    Recorded s (takeMeasurement (.truck .rear) rear (takeMeasurement (.truck .front) front s)) := by
  have first := truck_recorded s (view .front) (held .front) front
  have other := ((takeMeasurement_measured s (.truck .front) front nofun).others (.truck .rear) nofun).1
  refine first.trans (truck_recorded _ ?_ ?_ rear)
  · rw [other, first]
    exact view .rear
  · unfold State.heldOff
    rw [other, first]
    exact held .rear

/-- The sample of a gap (R79, R80). -/
theorem sample_eq (m : Bmu) : m.sample = ⟨emfOf m.front.heldVolts, emfOf m.rear.heldVolts,
    if m.front.driveCounts = 0 then 0 else min 8191 (m.front.charge / m.front.driveCounts),
    if m.rear.driveCounts = 0 then 0 else min 8191 (m.rear.charge / m.rear.driveCounts)⟩ := by
  unfold Bmu.sample Bridge.meanCurrent
  rw [Nat.min_comm, Nat.min_comm (m.rear.charge / m.rear.driveCounts)]

/-- A gap sample is published to MOC and BTG, and completes the MEASUREs on its channels, where MOC and BTG hold the trucks' records
(R80, R87). -/
theorem publishSample_publishes (view : ∀ x, (s.moc.truck x).faultView = (s.odu.watch (.truck x)).record.state)
    (held : ∀ x, heldBy s.btg x = s.heldOff (.truck x)) :
    ∃ odu rif rcu, publishSample s = { Record.gapPublished s with
      odu := odu, rif := rif, rcu := rcu
      bmu := { (Record.gapPublished s).bmu with slots := Spec.waiting s.bmu.sample.value s.bmu.slots }
      hpt := (Spec.completed s.bmu.sample.value s.bmu.slots s).hpt } := by
  have both := trucks_recorded (Record.gapPublished s) view held s.bmu.sample.currentF s.bmu.sample.currentR
  have completes : publishSample s = completeSlots s.bmu.sample.value (takeMeasurement (.truck .rear) s.bmu.sample.currentR
    (takeMeasurement (.truck .front) s.bmu.sample.currentF (Record.gapPublished s))) := rfl
  generalize takeMeasurement (.truck .rear) s.bmu.sample.currentR
    (takeMeasurement (.truck .front) s.bmu.sample.currentF (Record.gapPublished s)) = v at both completes
  have slots : v.bmu.slots = s.bmu.slots := (congrArg (fun u : State => u.bmu.slots) both :)
  have hpt : v.hpt = s.hpt := (congrArg State.hpt both :)
  rw [completeSlots_eq, slots, completed_congr _ _ hpt] at completes
  exact ⟨v.odu, v.rif, v.rcu, completes.trans (congrArg (fun u : State => { u with
    bmu := { u.bmu with slots := Spec.waiting s.bmu.sample.value s.bmu.slots }
    hpt := (Spec.completed s.bmu.sample.value s.bmu.slots s).hpt }) both)⟩

end Sys2Proof.Laws

namespace Sys2Proof.Record

open Sys2Proof.Machine Sys2Proof.Laws

/-- A control-period expiry requests a gap from CLOSED and lists both supplies (R78, R84). -/
theorem controlPeriod_requests {s : State} (released : s.inReset = false) {due : Time} (runs : s.bmu.controlTimer = .running due)
    (room : s.bmu.conversions.length ≤ 6) :
    exec .controlPeriodExpiry s = .next { s with
      now := max s.now due
      bmu := Spec.listed [.trackV, .capV] (max s.now due) { s.bmu with
        controlTimer := .running (due + 80000), gap := if s.bmu.gap = .closed then .requested else s.bmu.gap } } := by
  have e : exec .controlPeriodExpiry s = _ := whenReleased_expires released runs
  have one := listed_length .trackV (max s.now due) { s.bmu with
    controlTimer := .running (due + 80000), gap := if s.bmu.gap = .closed then .requested else s.bmu.gap }
  rw [e]
  dsimp only [reach_bmu, onBmu]
  rw [runs, appendChannel_listed .trackV (by exact Nat.lt_of_le_of_lt room (by decide)),
    appendChannel_listed .capV (by dsimp only [reach_bmu, reach_now] at *; exact Nat.lt_of_le_of_lt one (by omega))]
  dsimp only [reach_bmu, reach_now]
  rw [listed_append]
  rfl

/-- Settles O41: the sample reaches MOC and BTG alone beside ODU, as FaultInv says that both hold the trucks' records
(`publishSample_publishes`). -/
theorem theGapMakesOneSample : Obligations.TheGapMakesOneSample := by
  intro s released
  refine ⟨fun due runs room => controlPeriod_requests released runs room, fun due runs voltsF voltsR => ?_, fun due runs inv => ?_⟩
  · have e : exec (.gapSettleExpiry voltsF voltsR) s = _ := whenReleased_expires released runs
    rw [e]
    rfl
  · have view (x : Truck) : (s.moc.truck x).faultView = (s.odu.watch (.truck x)).record.state := inv.motion x
    have held (x : Truck) : heldBy s.btg x = s.heldOff (.truck x) := by
      cases x with
      | front => exact inv.beats.1
      | rear => exact inv.beats.2
    refine ⟨publishSample (s.reach due), whenReleased_expires released runs, ?_⟩
    obtain ⟨odu, rif, rcu, published⟩ := publishSample_publishes (s.reach due) view held
    intro emf current g
    have same : s.bmu.sample = g := sample_eq s.bmu
    clear_value g
    subst same
    rw [published]
    refine ⟨rfl, rfl, rfl, rfl, rfl, rfl, rfl, ?_, rfl, rfl, rfl, rfl, rfl⟩
    intro value
    have values : value = s.bmu.sample.value := funext fun c => by
      cases c with
      | backEmf x => cases x <;> rfl
      | current x => cases x <;> rfl
      | _ => rfl
    rw [values]
    exact ⟨rfl, completed_congr _ _ rfl⟩

end Sys2Proof.Record
end

section
/-! A short trips its output (O46). -/

namespace Sys2Proof.Laws

open Sys2Proof.Machine

variable (s : State)

/-! ## What trips (R90) -/

/-- The switches of an output, as the statement reads them (R90). -/
theorem switchOn_eq (o : Output) : s.switchOn o = Spec.switched s o := by
  cases o with
  | truck x => cases x <;> rfl
  | heater => rfl
  | fan => rfl
  | light n => rfl

/-- A short trips an output that drives and is OK, above its threshold (R90). -/
theorem trips_iff (o : Output) (current : Nat) :
    s.trips o current = true ↔ Spec.switched s o = true ∧ (s.odu.watch o).record.state = .ok ∧ Spec.shortLevel o < current := by
  have level : shortThreshold o = Spec.shortLevel o := by cases o <;> rfl
  have held : s.heldOff o = false ↔ (s.odu.watch o).record.state = .ok := by
    unfold State.heldOff
    cases (s.odu.watch o).record.state <;> simp [FaultState.holdsOff]
  unfold State.trips
  rw [switchOn_eq, level]
  simp only [Bool.and_eq_true, Bool.not_eq_true', decide_eq_true_eq, held, and_assoc]

/-! ## The output is switched off (R77, R170) -/

/-- An output is switched off at once, from `s` to `u`: its driver alone moves. -/
structure SwitchedOff (o : Output) (s u : State) : Prop where
  odu    : u.odu = s.odu
  rcu    : u.rcu = s.rcu
  hpt    : u.hpt = s.hpt
  pws    : u.pws = s.pws
  cfs    : u.cfs = s.cfs
  now    : u.now = s.now
  off    : Spec.switched u o = false
  bridge : ∀ x, o = .truck x → (u.bmu.bridge x).heldOff = true ∧ (u.bmu.bridge x).isOff

/-- A bridge that is OFF has no switch on. -/
theorem switched_truck_off {x : Truck} (off : (s.bmu.bridge x).isOff) : Spec.switched s (.truck x) = false := by
  obtain ⟨_, legA, legB⟩ := off
  rw [← switchOn_eq]
  show (s.bmu.bridge x).anyOn = false
  rw [Bridge.anyOn, legA, legB]
  rfl

theorem switchOutputOff_off (o : Output) : SwitchedOff o s (switchOutputOff o s) := by
  cases o with
  | truck x =>
    have frame : OneBridge x s (holdBridge x s) := (switchOff_oneBridge s x).trans (.set _ x _)
    have held : ((holdBridge x s).bmu.bridge x).heldOff = true ∧ ((holdBridge x s).bmu.bridge x).isOff := by
      obtain ⟨off, _⟩ := switchOff_bridge s x
      unfold holdBridge
      rw [setBridge_bmu, bridge_setBridge, if_pos rfl]
      exact ⟨rfl, off⟩
    show SwitchedOff _ s (holdBridge x s)
    refine ⟨?_, ?_, ?_, ?_, ?_, ?_, switched_truck_off _ held.2, ?_⟩
    · rw [frame]
    · rw [frame]
    · rw [frame]
    · rw [frame]
    · rw [frame]
    · rw [frame]
    · rintro y ⟨⟩
      exact held
  | heater => exact ⟨rfl, rfl, rfl, rfl, rfl, rfl, rfl, nofun⟩
  | fan => exact ⟨rfl, rfl, rfl, rfl, rfl, rfl, rfl, nofun⟩
  | light n =>
    refine ⟨rfl, rfl, rfl, rfl, rfl, rfl, ?_, nofun⟩
    show ((s.ltc.mapLight n fun x => { x with pwm := x.pwm.off }).lights[n]).pwm.isOn = false
    simp [Ltc.mapLight, Pwm.off]

/-! ## The record of an output held off is published (R68, R126, R169) -/

/-- A transition of the smoke state leaves a heater's switch off. -/
theorem enterSmoke_heaterOff (st : SmokeState) (off : s.smu.heaterPwm.isOn = false) : (enterSmoke st s).smu.heaterPwm.isOn = false := by
  have heats (u : State) : (setHeater 0 u).smu.heaterPwm.isOn = false := rfl
  have fans (n : Nat) (u : State) : (setFan n u).smu.heaterPwm = u.smu.heaterPwm := rfl
  simp only [enterSmoke, fanBetween, stopPuff, apply_ite (fun u : State => u.smu.heaterPwm.isOn), heats, fans, onSmu_smu, pushNotice_smu,
    publish_smu, off, ite_self]

/-- A record that holds its output off has gone from `s` to `u` (R68, R126, R169). -/
structure HeldOff (o : Output) (s u : State) : Prop where
  cfs   : u.cfs = s.cfs
  off   : Spec.switched s o = false → Spec.switched u o = false
  grip  : ∀ x, o = .truck x → u.moc.slipState = .grip
  fault : o = .heater → u.smu.state = .fault

/-- The switches of an output stand where the bridges, SMU and LTC do. -/
theorem switched_congr {s u : State} (bmu : u.bmu = s.bmu) (smu : u.smu = s.smu) (ltc : u.ltc = s.ltc) (o : Output) :
    Spec.switched u o = Spec.switched s o := by
  unfold Spec.switched
  rw [bmu, smu, ltc]

theorem consumeRecord_holdsOff {o : Output} {r : FaultRecord} (hold : r.state.holdsOff = true) : HeldOff o s (consumeRecord o r s) := by
  cases o with
  | truck x =>
    have takes : consumeRecord (.truck x) r s = beatsTakeFault x r.state (endSlip (onMoc (·.mapTruck x (·.takeFault r.state)) s)) :=
      congrArg (beatsTakeFault x r.state) (if_pos hold)
    have grip : (endSlip (onMoc (·.mapTruck x (·.takeFault r.state)) s)).moc.slipState = .grip := by rw [endSlip_moc]
    have still : Spec.switched (endSlip (onMoc (·.mapTruck x (·.takeFault r.state)) s)) (.truck x) = Spec.switched s (.truck x) := by
      rw [← switchOn_eq, ← switchOn_eq]
      exact congrArg (fun m : Bmu => (m.bridge x).anyOn) (endSlip_bmu _)
    rw [takes]
    exact ⟨(endSlip_turns _).cfs, fun off => (switched_congr rfl rfl rfl _).trans (still.trans off), fun _ _ => grip, nofun⟩
  | heater =>
    have takes : smokeTakeFault r s = enterSmoke .fault (onSmu (fun u => { u with faultView := r.state, shortView := r.shorted }) s) := if_pos hold
    show HeldOff _ s (smokeTakeFault r s)
    rw [takes]
    obtain ⟨⟨_, _, _, _, _, cfs, _, _⟩, _⟩ := enterSmoke_stays .fault
      (onSmu (fun u => { u with faultView := r.state, shortView := r.shorted }) s)
    refine ⟨cfs, fun off => enterSmoke_heaterOff _ .fault off, nofun, fun _ => ?_⟩
    · rcases enterSmoke_cases (onSmu (fun u => { u with faultView := r.state, shortView := r.shorted }) s) .fault with ⟨same, e⟩ | ⟨_, state, _⟩
      · rw [e]
        exact same.symm
      · exact state
  | fan => exact ⟨rfl, id, nofun, nofun⟩
  | light n =>
    refine ⟨rfl, fun off => ?_, nofun, nofun⟩
    have dark : (s.ltc.lights[n]).pwm.isOn = false := off
    show ((s.ltc.mapLight n fun x => { x with faultView := r.state }).lights[n]).pwm.isOn = false
    simpa [Ltc.mapLight] using dark

/-- The consumers of a record leave RCU's fault summary to its publication (R169). -/
theorem consumeRecord_summary (o : Output) (r : FaultRecord) :
    (consumeRecord o r s).rcu.views.faultSummary = s.rcu.views.faultSummary := by
  have enters (st : SmokeState) (u : State) : (enterSmoke st u).rcu.views.faultSummary = u.rcu.views.faultSummary := by
    rw [(enterSmoke_stays st u).rcu]
  have ends (u : State) : (endSlip u).rcu.views.faultSummary = u.rcu.views.faultSummary := by
    rcases endSlip_cases u with ⟨_, e⟩ | ⟨_, _, e⟩ <;> rw [e]
  cases o with
  | truck x =>
    show (motionTakeFault x r.state s).rcu.views.faultSummary = _
    unfold motionTakeFault
    split
    · exact ends _
    · rfl
  | heater =>
    show (smokeTakeFault r s).rcu.views.faultSummary = _
    unfold smokeTakeFault
    dsimp only
    split
    · exact enters _ _
    · split
      · exact enters _ _
      · rfl
  | fan => rfl
  | light n => rfl

/-- The record of an output held off is published, with the summary (R169). -/
theorem publishFault_holdsOff {o : Output} (hold : s.heldOff o = true) : HeldOff o s (publishFault o s) := by
  have taken := consumeRecord_holdsOff (publish (fun v => { v with faults := v.faults.set (outputIndex o) (s.odu.watch o).record }) s) (o := o) hold
  have shows : publishFault o s = publishSummary (consumeRecord o (s.odu.watch o).record
    (publish (fun v => { v with faults := v.faults.set (outputIndex o) (s.odu.watch o).record }) s)) := rfl
  rw [shows, publishSummary_frame]
  obtain ⟨cfs, off, grip, fault⟩ := taken
  exact ⟨cfs, fun was => (switched_congr rfl rfl rfl o).trans (off ((switched_congr rfl rfl rfl o).trans was)), grip, fault⟩

/-- RCU's fault summary follows ODU's where that moves (R6, R169). -/
theorem publishFault_summary (o : Output) : (publishFault o s).rcu.views.faultSummary
    = if (publishFault o s).odu.summary = s.odu.summary then s.rcu.views.faultSummary else (publishFault o s).odu.summary := by
  have shown := consumeRecord_summary (publish (fun v => { v with faults := v.faults.set (outputIndex o) (s.odu.watch o).record }) s) o (s.odu.watch o).record
  have kept : (consumeRecord o (s.odu.watch o).record
    (publish (fun v => { v with faults := v.faults.set (outputIndex o) (s.odu.watch o).record }) s)).odu.summary = s.odu.summary :=
    (record_consumed _ o _).odu.1
  show (publishSummary _).rcu.views.faultSummary = if (publishSummary _).odu.summary = _ then _ else (publishSummary _).odu.summary
  unfold publishRecord
  dsimp only
  generalize consumeRecord o (s.odu.watch o).record
    (publish (fun v => { v with faults := v.faults.set (outputIndex o) (s.odu.watch o).record }) s) = u at shown kept
  rcases publishSummary_cases u with ⟨_, e⟩ | ⟨moves, e⟩ <;> rw [e]
  · rw [if_pos kept]
    exact shown
  · rw [kept] at moves
    rw [if_neg moves]

/-! ## The trip (R170) -/

/-- An output switched off, with its watch tripped (R170). -/
def trippedOff (o : Output) (s : State) : State := mapWatch o (·.tripped (s.timer Config.retryTime)) (switchOutputOff o s)

/-- A trip: the output off, the record published, and the FAULT notice last (R170; log entry 18). -/
theorem takeTrip_eq (o : Output) : takeTrip o s =
    pushNotice (.fault o (if (s.odu.watch o).latches then .latched else .short)) (publishFault o (trippedOff o s)) := by
  have same : (switchOutputOff o s).timer Config.retryTime = s.timer Config.retryTime :=
    congrArg (fun now => Timer.running (now + Config.retryTime)) (switchOutputOff_off s o).now
  unfold takeTrip trippedOff
  dsimp only
  rw [same]

/-- An output switched off holds what its trip makes of its watch, and the other outputs keep theirs (R170). -/
theorem trippedOff_watch (o : Output) :
    (trippedOff o s).odu.watch o = (s.odu.watch o).tripped (s.timer Config.retryTime)
    ∧ ∀ x, x ≠ o → (trippedOff o s).odu.watch x = s.odu.watch x := by
  obtain ⟨mine, others⟩ := mapWatch_watch o (·.tripped (s.timer Config.retryTime)) (switchOutputOff o s)
  rw [(switchOutputOff_off s o).odu] at mine others
  exact ⟨mine, others⟩

/-- What a trip leaves before the record is published (R170). -/
theorem trippedOff_leaves (o : Output) :
    (trippedOff o s).odu.summary = s.odu.summary ∧ (trippedOff o s).rcu = s.rcu ∧ (trippedOff o s).hpt = s.hpt
    ∧ (trippedOff o s).pws = s.pws ∧ (trippedOff o s).cfs = s.cfs ∧ Spec.switched (trippedOff o s) o = false
    ∧ ∀ x, o = .truck x → ((trippedOff o s).bmu.bridge x).heldOff = true ∧ ((trippedOff o s).bmu.bridge x).isOff := by
  obtain ⟨odu, rcu, hpt, pws, cfs, _, off, bridge⟩ := switchOutputOff_off s o
  have summary : (trippedOff o s).odu.summary = (switchOutputOff o s).odu.summary := by cases o <;> rfl
  exact ⟨summary.trans (congrArg Odu.summary odu), rcu, hpt, pws, cfs, (switched_congr rfl rfl rfl o).trans off, bridge⟩

/-- A tripped output is held off (R170). -/
theorem trippedOff_holds (o : Output) : (trippedOff o s).heldOff o = true := by
  unfold State.heldOff
  rw [(trippedOff_watch s o).1]
  unfold Watch.tripped
  dsimp only
  split <;> rfl

end Sys2Proof.Laws

namespace Sys2Proof.Record

open Sys2Proof.Machine Sys2Proof.Laws

/-- A trip: the output off, its record and the summary published, its consumers told, and the notice last (R90, R126, R169, R170). -/
theorem trip_trips (s : State) (o : Output) :
    let w := s.odu.watch o
    let latches := w.probation.isRunning && decide (w.record.retries = 3)
    let t := pushNotice (.fault o (if w.latches then .latched else .short)) (publishFault o (trippedOff o s))
    (t.odu.watch o).record = { w.record with shorted := true, state := if latches then .latched else .shortWait }
    ∧ (t.odu.watch o).retry = (if latches then .stopped else .running (s.now + 16000000))
    ∧ (t.odu.watch o).probation = .stopped ∧ (t.odu.watch o).openTimer = .stopped
    ∧ Spec.switched t o = false ∧ t.rcu.views.faults[outputIndex o] = (t.odu.watch o).record
    ∧ t.rcu.views.faultSummary = (if t.odu.summary = s.odu.summary then s.rcu.views.faultSummary else t.odu.summary)
    ∧ (t.odu.summary.getLsbD (outputIndex o).val = true)
    ∧ (∀ x : Truck, o = .truck x → (t.bmu.bridge x).heldOff = true ∧ (t.bmu.bridge x).isOff ∧ (t.moc.truck x).faultView ≠ .ok
        ∧ heldBy t.btg x = true ∧ t.moc.slipState = .grip)
    ∧ (o = .heater → t.smu.state = .fault)
    ∧ (s.hpt.notices.length ≤ 13 → t.hpt.notices.getLast? = some (.fault o (if latches then .latched else .short)))
    ∧ Spec.othersKeep o s t ∧ t.pws = s.pws ∧ t.cfs = s.cfs ∧ t.rcu.targetNotch = s.rcu.targetNotch := by
  obtain ⟨mine, others⟩ := trippedOff_watch s o
  obtain ⟨bits, rcu, hpt, pws, cfs, dark, bridge⟩ := trippedOff_leaves s o
  have hold := trippedOff_holds s o
  have published := publishFault_published (trippedOff o s) o
  have held := publishFault_holdsOff (trippedOff o s) hold
  have shown := publishFault_summary (trippedOff o s) o
  have core : driveCore (publishFault o (trippedOff o s)) = driveCore s := by
    rw [← core_takeTrip s o, takeTrip_eq, core_pushNotice]
  generalize publishFault o (trippedOff o s) = t at published held shown core
  obtain ⟨record, retry, probation, timer⟩ := published.watches o
  obtain ⟨bmu, power, _⟩ := published.blocks
  rw [mine] at record retry probation timer
  rw [bits, rcu] at shown
  refine ⟨record, retry, probation, timer rfl, (switched_congr rfl rfl rfl o).trans (held.off dark), published.shows, shown, ?_,
    fun x truck => ?_, held.fault, fun room => ?_, published.othersKeep others, power.trans pws, held.cfs.trans cfs,
    congrArg DriveCore.targetNotch core⟩
  · exact (published.summary o).trans (by rw [record]; exact Bool.or_true _)
  · obtain ⟨moc, btg⟩ := published.truck x truck
    obtain ⟨on, off⟩ := bridge x truck
    rw [← bmu] at on off
    have loud : ((trippedOff o s).odu.watch o).record.state.holdsOff = true := hold
    refine ⟨on, off, fun ok => ?_, btg.trans loud, held.grip x truck⟩
    have view : (t.moc.truck x).faultView = ((trippedOff o s).odu.watch o).record.state := congrArg TruckControl.faultView moc
    rw [← view, show (t.moc.truck x).faultView = .ok from ok] at loud
    exact absurd loud nofun
  · have short := published.grows
    rw [hpt] at short
    show (t.hpt.push _).notices.getLast? = _
    unfold Hpt.push
    rw [if_pos (show t.hpt.notices.length < Config.noticeCapacity by unfold Config.noticeCapacity; omega)]
    exact List.getLast?_concat

/-- Settles O46: what does not trip changes nothing, and a trip is the output off, its record published, and its notice. -/
theorem aShortTripsTheOutput : Obligations.AShortTripsTheOutput := by
  intro s o current released
  have runs : execShortComparatorTrip o current s = _ := whenReleased_runs released
  have step : exec (.shortComparatorTrip o current) s = _ := runs
  refine ⟨fun none => ?_, fun drives ok above => ?_⟩
  · have quiet : ¬s.trips o current = true := by
      rw [trips_iff]
      rintro ⟨drives, ok, above⟩
      rcases none with off | bad | low
      · exact absurd (drives.symm.trans off) nofun
      · exact bad ok
      · exact Nat.not_lt.mpr low above
    rw [step, if_neg quiet]
  · rw [if_pos ((trips_iff s o current).mpr ⟨drives, ok, above⟩)] at step
    rw [takeTrip_eq] at step
    refine ⟨_, step, ?_⟩
    exact trip_trips s o

end Sys2Proof.Record
end
